-- ==== Sys2Proof/Word.lean ====
section
/-!
DEFINITION. The words of the frames and the fixed-size tables of the HMR-84: bytes, 16-bit and 32-bit fields,
and one update operation for a table of a fixed number of like things (sites, ports, stocks, editions, areas).
-/

namespace Sys2Proof

/-- One byte of a frame, a payload or a cell. -/
abbrev Byte := BitVec 8

/-- A 16-bit field (R203). -/
abbrev Half := BitVec 16

/-- A 32-bit field, digest, CRC or count (R203, R204). -/
abbrev Word := BitVec 32

/-- A site index 0-7 (section 0.9). -/
abbrev SiteId := Fin 8

/-- A site port number 0-3 (section 0.9). -/
abbrev PortId := Fin 4

/-- A stock number 0-3 (section 0.6). -/
abbrev Stock := Fin 4

/-- A separation: 0 K, 1 C, 2 M, 3 Y (section 0.9). -/
abbrev Sep := Fin 4

/-- The eight sites in ascending index. -/
def allSites : List SiteId := [0, 1, 2, 3, 4, 5, 6, 7]

/-- The four ports, stocks, separations or buffers in ascending number. -/
def allFour : List (Fin 4) := [0, 1, 2, 3]

/-- `t` with entry `i` replaced by its image under `f`. -/
def modifyAt {α : Type} {n : Nat} (t : Vector α n) (i : Fin n) (f : α → α) : Vector α n :=
  t.set i.val (f (t[i.val]'i.isLt)) i.isLt

/-- Entry `i` of a table. -/
def entryOf {α : Type} {n : Nat} (t : Vector α n) (i : Fin n) : α := t[i.val]'i.isLt

end Sys2Proof
end

