-- ==== Sys2Proof/Config.lean ====
section
/-!
DEFINITION. The values the manual leaves open (they have no body: nothing can be proved about any of them) and the
capacities it fixes. A free value is read at the number `Device.free`, which each reading advances, so that no two
readings are tied to one another.
-/

namespace Sys2Proof.Config

/-- Whether the `n`-th reading meets an uncorrectable error in a resend slot (R50 says what follows, not when). -/
opaque slotFails : Nat → Bool

/-- The byte at offset `i` that the `n`-th reading of a failing resend slot gives ("sent as read", R50). -/
opaque slotByte : Nat → Nat → Byte

/-- The four approved-at bytes of a PAGE_END payload whose approved-at is absent (R210 gives no value). -/
opaque absentTime : Nat → Word

/-- The page table's capacity (R1). -/
def tableCapacity : Nat := 256

/-- The capacity of a control list (R120). -/
def controlCapacity : Nat := 16

/-- The capacity of a send window, prepared block included (R137). -/
def windowCapacity : Nat := 16

/-- The capacity of the command queue (R193). -/
def commandCapacity : Nat := 16

/-- The capacity of the reply queue (R198). -/
def replyCapacity : Nat := 16

/-- The capacity of the event queue (R198). -/
def eventCapacity : Nat := 32

/-- The command queue length at which the feed hold indication is asserted (R194). -/
def holdThreshold : Nat := 12

/-- The cells of the band region are those below this number (R29, R30). -/
def bandCells : Nat := 32640

/-- Bytes in one cell (section 2.1). -/
def cellBytes : Nat := 32768

/-- Units of 100 ms in a day (section 3.2). -/
def dayUnits : Nat := 864000

/-- Half a day: the horizon of R54. -/
def horizon : Nat := 432000

/-- The bytes of a site block header (R209). -/
def headerBytes : Nat := 32

end Sys2Proof.Config
end

