-- ==== Sys2Proof/Syntax.lean ====
section
/-!
DEFINITION. The commands of the HMR-84: one constructor of `Instr` for each row of spec/opcode_table.json. Frames
come with their raw fields, lengths and CRCs (R205, R206, R211), so that the frame checks are the machine's work;
the 28 commands of R207 come with their tag and the fields of their payload, as the payload carries them.
-/

namespace Sys2Proof

/-- A page key and version as a feed frame carries it (R203): edition and version are four bits each. -/
structure KeyField where
  edition : BitVec 4
  version : BitVec 4
  sect : Byte
  page : Byte
  zone : Byte
deriving DecidableEq, Repr

/-- A feed frame as it arrives on the feed port (R205). `length` is the length field, `crc` the frame CRC. -/
structure FeedFrame where
  kind : Byte
  tag : Byte
  length : Half
  payload : List Byte
  crc : Word
deriving DecidableEq, Repr

/-- A return frame as it arrives on a site port (R211). `length` is the field length, `fields` the bytes from 4 on. -/
structure ReturnFrame where
  kind : Byte
  length : Byte
  code : Half
  fields : List Byte
  crc : Word
deriving DecidableEq, Repr

/-- The fields of OPEN PAGE after its code (R207). -/
structure OpenPageArgs where
  key : KeyField
  width : Half
  height : Half
  seps : Byte
  flags : Byte
  releaseAt : Word
  latest : Word
deriving DecidableEq, Repr

/-- The fields of APPROVE (R207). -/
structure ApproveArgs where
  key : KeyField
  station : Byte
  expected : Word
deriving DecidableEq, Repr

/-- The fields of DEFINE AREA (R207): match in the upper and mask in the lower four bits of the last byte. -/
structure DefineAreaArgs where
  area : Byte
  flags : Byte
  base : Half
  length : Half
  mtch : BitVec 4
  mask : BitVec 4
deriving DecidableEq, Repr

/-- The fields of SET SITE (R207). -/
structure SetSiteArgs where
  site : Byte
  code : Half
  port : Half
  flow : Byte
  gapLength : Half
  ackTimeout : Half
  retryLimit : Half
  highMark : Half
  lowMark : Half
  gateTimeout : Half
  haltMask : Byte
  gains : Vector Half 4
  minDot : Half
  maxDot : Half
  solidHold : Byte
deriving DecidableEq, Repr

/-- The fields of SET GROUP TARGET (R207). -/
structure SetGroupTargetArgs where
  stock : Byte
  density : Vector Half 4
  tvi : Vector Half 8
deriving DecidableEq, Repr

/-- The fields of SET SITE TARGET (R207): the twelve offsets are two's complement. -/
structure SetSiteTargetArgs where
  site : Byte
  stock : Byte
  density : Vector Half 4
  tvi : Vector Half 8
  low : Half
  high : Half
deriving DecidableEq, Repr

/-- A command of the feed port as its payload carries it (R207), and `malformed` for a payload that the form check
of R195 refuses, with the command code its reply returns (00h for an empty payload, R196). -/
inductive Command where
  | openPage (a : OpenPageArgs)
  | approve (a : ApproveArgs)
  | withdraw (key : KeyField) (flags : Byte)
  | purge (key : KeyField)
  | sendPage (key : KeyField) (site : Byte)
  | setPlan (edition : Byte) (entries : Vector Byte 8)
  | holdEdition (edition : Byte)
  | openEdition (edition : Byte)
  | setClock (count : Word)
  | defineArea (a : DefineAreaArgs)
  | setSite (a : SetSiteArgs)
  | enableSite (site : Byte)
  | disableSite (site : Byte)
  | resumeSite (site : Byte)
  | setAllotment (site : Byte) (allotment : Word)
  | setPort (port : Byte) (period : Half)
  | loadCurve (site : Byte) (sep : Byte) (knots : Vector Half 17)
  | armCurves (site : Byte) (stock : Byte) (flags : Byte)
  | setGroupTarget (a : SetGroupTargetArgs)
  | setSiteTarget (a : SetSiteTargetArgs)
  | quiesce
  | resume
  | dayReset
  | queryPage (key : KeyField)
  | querySite (site : Byte)
  | queryArea (area : Byte)
  | queryDevice
  | readCurve (site : Byte)
  | malformed (code : Byte)
deriving DecidableEq, Repr

/-- The commands of the block: one constructor for each row of spec/opcode_table.json, in the table's order. -/
inductive Instr where
  /-- POWER_ON_RESET: the reset input is asserted and released. -/
  | powerOnReset
  /-- TICK_1MS: the timebase makes a 1 ms tick (and what R51 makes of it). -/
  | tick1ms
  /-- TICK_10MS: a 10 ms tick. -/
  | tick10ms
  /-- TICK_100MS: a 100 ms tick. -/
  | tick100ms
  /-- PERIOD_END: a port's pacing count reaches 0. -/
  | periodEnd (port : PortId)
  /-- GAP_TIMER_EXPIRY: a site's gap count reaches 0. -/
  | gapTimerExpiry (site : SiteId)
  /-- ACK_TIMER_EXPIRY: a site's ack count reaches 0. -/
  | ackTimerExpiry (site : SiteId)
  /-- PROBE_TIMER_EXPIRY: a site's probe count reaches 0. -/
  | probeTimerExpiry (site : SiteId)
  /-- GATE_TIMER_EXPIRY: a site's gate count reaches 0. -/
  | gateTimerExpiry (site : SiteId)
  /-- BAND_FRAME_ARRIVAL_BEGINS. -/
  | bandFrameArrivalBegins
  /-- BAND_FRAME: a band frame has arrived whole. -/
  | bandFrame (frame : FeedFrame)
  /-- COMMAND_FRAME: a command frame has arrived whole. -/
  | commandFrame (frame : FeedFrame)
  /-- FEED_LINK_LOST. -/
  | feedLinkLost
  /-- FEED_LINK_REGAINED. -/
  | feedLinkRegained
  /-- FEED_FRAME_SENT: the outbound frame is reported sent. -/
  | feedFrameSent
  /-- BAND_WRITE_COMPLETE: the new-band write of an intake buffer completes. -/
  | bandWriteComplete (buffer : Fin 4)
  /-- REPAIR_WRITE_COMPLETE: the repair write of an intake buffer ends. -/
  | repairWriteComplete (buffer : Fin 4)
  /-- PREPARATION_COMPLETE: the preparation in flight completes. -/
  | preparationComplete
  /-- UNCORRECTABLE_READ: the band read of the preparation in flight meets an uncorrectable error. -/
  | uncorrectableRead
  /-- TRANSMISSION_END: a site port reports its block sent. -/
  | transmissionEnd (port : PortId)
  /-- ACK: a return frame on a site port. -/
  | ack (port : PortId) (frame : ReturnFrame)
  /-- MISS. -/
  | miss (port : PortId) (frame : ReturnFrame)
  /-- PAUSE. -/
  | pause (port : PortId) (frame : ReturnFrame)
  /-- RESUME_FRAME. -/
  | resumeFrame (port : PortId) (frame : ReturnFrame)
  /-- HELLO. -/
  | hello (port : PortId) (frame : ReturnFrame)
  /-- REMAKE. -/
  | remake (port : PortId) (frame : ReturnFrame)
  | openPage (tag : Byte) (a : OpenPageArgs)
  | approve (tag : Byte) (a : ApproveArgs)
  | withdraw (tag : Byte) (key : KeyField) (flags : Byte)
  | purge (tag : Byte) (key : KeyField)
  | sendPage (tag : Byte) (key : KeyField) (site : Byte)
  | setPlan (tag : Byte) (edition : Byte) (entries : Vector Byte 8)
  | holdEdition (tag : Byte) (edition : Byte)
  | openEdition (tag : Byte) (edition : Byte)
  | setClock (tag : Byte) (count : Word)
  | defineArea (tag : Byte) (a : DefineAreaArgs)
  | setSite (tag : Byte) (a : SetSiteArgs)
  | enableSite (tag : Byte) (site : Byte)
  | disableSite (tag : Byte) (site : Byte)
  | resumeSite (tag : Byte) (site : Byte)
  | setAllotment (tag : Byte) (site : Byte) (allotment : Word)
  | setPort (tag : Byte) (port : Byte) (period : Half)
  | loadCurve (tag : Byte) (site : Byte) (sep : Byte) (knots : Vector Half 17)
  | armCurves (tag : Byte) (site : Byte) (stock : Byte) (flags : Byte)
  | setGroupTarget (tag : Byte) (a : SetGroupTargetArgs)
  | setSiteTarget (tag : Byte) (a : SetSiteTargetArgs)
  | quiesce (tag : Byte)
  | resume (tag : Byte)
  | dayReset (tag : Byte)
  | queryPage (tag : Byte) (key : KeyField)
  | querySite (tag : Byte) (site : Byte)
  | queryArea (tag : Byte) (area : Byte)
  | queryDevice (tag : Byte)
  | readCurve (tag : Byte) (site : Byte)
deriving DecidableEq, Repr

end Sys2Proof
end

