-- ==== Sys2Proof/WellFormed.lean ====
section
/-!
DEFINITION. The checks a command term meets when it can stand for a frame on a port: the payload of a feed frame is
counted by its 16-bit length field at most (R205), and a return frame's fields by its one-byte length field (R211).
Every other operand's type admits exactly what its field can carry.
-/

namespace Sys2Proof

/-- The payload is no longer than a length field can say (R205). -/
abbrev FeedFrame.Fits (f : FeedFrame) : Prop := f.payload.length ≤ 65535

/-- The fields are no longer than a field length can say (R211). -/
abbrev ReturnFrame.Fits (f : ReturnFrame) : Prop := f.fields.length ≤ 255

/-- What a term must meet to stand for a command of the block. -/
def Instr.WellFormed : Instr → Bool
  | .bandFrame f => decide f.Fits
  | .commandFrame f => decide f.Fits
  | .ack _ f => decide f.Fits
  | .miss _ f => decide f.Fits
  | .pause _ f => decide f.Fits
  | .resumeFrame _ f => decide f.Fits
  | .hello _ f => decide f.Fits
  | .remake _ f => decide f.Fits
  | .powerOnReset => true
  | .tick1ms => true
  | .tick10ms => true
  | .tick100ms => true
  | .periodEnd _ => true
  | .gapTimerExpiry _ => true
  | .ackTimerExpiry _ => true
  | .probeTimerExpiry _ => true
  | .gateTimerExpiry _ => true
  | .bandFrameArrivalBegins => true
  | .feedLinkLost => true
  | .feedLinkRegained => true
  | .feedFrameSent => true
  | .bandWriteComplete _ => true
  | .repairWriteComplete _ => true
  | .preparationComplete => true
  | .uncorrectableRead => true
  | .transmissionEnd _ => true
  | .openPage _ _ => true
  | .approve _ _ => true
  | .withdraw _ _ _ => true
  | .purge _ _ => true
  | .sendPage _ _ _ => true
  | .setPlan _ _ _ => true
  | .holdEdition _ _ => true
  | .openEdition _ _ => true
  | .setClock _ _ => true
  | .defineArea _ _ => true
  | .setSite _ _ => true
  | .enableSite _ _ => true
  | .disableSite _ _ => true
  | .resumeSite _ _ => true
  | .setAllotment _ _ _ => true
  | .setPort _ _ _ => true
  | .loadCurve _ _ _ _ => true
  | .armCurves _ _ _ _ => true
  | .setGroupTarget _ _ => true
  | .setSiteTarget _ _ => true
  | .quiesce _ => true
  | .resume _ => true
  | .dayReset _ => true
  | .queryPage _ _ => true
  | .querySite _ _ => true
  | .queryArea _ _ => true
  | .queryDevice _ => true
  | .readCurve _ _ => true

end Sys2Proof
end

