-- ==== Sys2Proof/Decode.lean ====
section
/-!
DEFINITION. Reading and writing the command payloads of R207 (most significant byte first, R203), the form check of
R195, and the host's `decodeTableWord`: the opcode table gives its rows no bits, so no word spells a command.
-/

namespace Sys2Proof

/-- The two bytes of a 16-bit field (R203). -/
def halfBytes (h : Half) : List Byte := [h.extractLsb' 8 8, h.extractLsb' 0 8]

/-- The four bytes of a 32-bit field (R203). -/
def wordBytes (w : Word) : List Byte :=
  [w.extractLsb' 24 8, w.extractLsb' 16 8, w.extractLsb' 8 8, w.extractLsb' 0 8]

/-- The four bytes of a page key and version in a feed frame (R203). -/
def KeyField.bytes (k : KeyField) : List Byte := [k.edition ++ k.version, k.sect, k.page, k.zone]

/-- The bytes of a list of 16-bit fields (R203). -/
def halvesBytes (hs : List Half) : List Byte := hs.flatMap halfBytes

/-- The first byte of a payload's rest. -/
def getByte : List Byte → Option (Byte × List Byte)
  | a :: r => some (a, r)
  | _ => none

/-- The first 16-bit field of a payload's rest (R203). -/
def getHalf : List Byte → Option (Half × List Byte)
  | a :: b :: r => some (a ++ b, r)
  | _ => none

/-- The first 32-bit field of a payload's rest (R203). -/
def getWord : List Byte → Option (Word × List Byte)
  | a :: b :: c :: d :: r => some (a ++ b ++ c ++ d, r)
  | _ => none

/-- The page key and version at the head of a payload's rest (R203). -/
def getKey : List Byte → Option (KeyField × List Byte)
  | a :: b :: c :: d :: r =>
    some ({ edition := a.extractLsb' 4 4, version := a.extractLsb' 0 4, sect := b, page := c, zone := d }, r)
  | _ => none

/-- The first `n` 16-bit fields of a payload's rest (R203). -/
def getHalves : Nat → List Byte → Option (List Half × List Byte)
  | 0, r => some ([], r)
  | n + 1, r => (getHalf r).bind fun p => (getHalves n p.2).map fun q => (p.1 :: q.1, q.2)

/-- A list of exactly `n` things as a table. -/
def tableOf {α : Type} (n : Nat) (l : List α) : Option (Vector α n) :=
  if h : l.length = n then some ⟨l.toArray, by simp [h]⟩ else none

/-- A table of `n` 16-bit fields at the head of a payload's rest. -/
def getTable (n : Nat) (r : List Byte) : Option (Vector Half n × List Byte) :=
  (getHalves n r).bind fun p => (tableOf n p.1).map fun v => (v, p.2)

/-- A command whose payload has been read to its end (R195: the length is exactly the table's). -/
def ended {α : Type} (x : α) : List Byte → Option α
  | [] => some x
  | _ => none

/-- OPEN PAGE's fields (R207, code 01h). -/
def readOpenPage (r : List Byte) : Option Command := do
  let (key, r) ← getKey r
  let (width, r) ← getHalf r
  let (height, r) ← getHalf r
  let (seps, r) ← getByte r
  let (flags, r) ← getByte r
  let (releaseAt, r) ← getWord r
  let (latest, r) ← getWord r
  ended (.openPage { key, width, height, seps, flags, releaseAt, latest }) r

/-- APPROVE's fields (R207, code 02h). -/
def readApprove (r : List Byte) : Option Command := do
  let (key, r) ← getKey r
  let (station, r) ← getByte r
  let (expected, r) ← getWord r
  ended (.approve { key, station, expected }) r

/-- WITHDRAW's fields (R207, code 03h). -/
def readWithdraw (r : List Byte) : Option Command := do
  let (key, r) ← getKey r
  let (flags, r) ← getByte r
  ended (.withdraw key flags) r

/-- PURGE's field (R207, code 04h). -/
def readPurge (r : List Byte) : Option Command := do
  let (key, r) ← getKey r
  ended (.purge key) r

/-- SEND PAGE's fields (R207, code 05h). -/
def readSendPage (r : List Byte) : Option Command := do
  let (key, r) ← getKey r
  let (site, r) ← getByte r
  ended (.sendPage key site) r

/-- SET PLAN's fields (R207, code 10h). -/
def readSetPlan (r : List Byte) : Option Command := do
  let (edition, r) ← getByte r
  (tableOf 8 r).map fun entries => .setPlan edition entries

/-- A command of one byte field (R207). -/
def readByteCommand (make : Byte → Command) (r : List Byte) : Option Command := do
  let (b, r) ← getByte r
  ended (make b) r

/-- SET CLOCK's field (R207, code 13h). -/
def readSetClock (r : List Byte) : Option Command := do
  let (count, r) ← getWord r
  ended (.setClock count) r

/-- DEFINE AREA's fields (R207, code 18h). -/
def readDefineArea (r : List Byte) : Option Command := do
  let (area, r) ← getByte r
  let (flags, r) ← getByte r
  let (base, r) ← getHalf r
  let (length, r) ← getHalf r
  let (m, r) ← getByte r
  ended (.defineArea { area, flags, base, length, mtch := m.extractLsb' 4 4, mask := m.extractLsb' 0 4 }) r

/-- SET SITE's fields (R207, code 20h). -/
def readSetSite (r : List Byte) : Option Command := do
  let (site, r) ← getByte r
  let (code, r) ← getHalf r
  let (port, r) ← getHalf r
  let (flow, r) ← getByte r
  let (gapLength, r) ← getHalf r
  let (ackTimeout, r) ← getHalf r
  let (retryLimit, r) ← getHalf r
  let (highMark, r) ← getHalf r
  let (lowMark, r) ← getHalf r
  let (gateTimeout, r) ← getHalf r
  let (haltMask, r) ← getByte r
  let (gains, r) ← getTable 4 r
  let (minDot, r) ← getHalf r
  let (maxDot, r) ← getHalf r
  let (solidHold, r) ← getByte r
  ended (.setSite
    { site, code, port, flow, gapLength, ackTimeout, retryLimit, highMark, lowMark, gateTimeout, haltMask, gains,
      minDot, maxDot, solidHold }) r

/-- SET ALLOTMENT's fields (R207, code 24h). -/
def readSetAllotment (r : List Byte) : Option Command := do
  let (site, r) ← getByte r
  let (allotment, r) ← getWord r
  ended (.setAllotment site allotment) r

/-- SET PORT's fields (R207, code 28h). -/
def readSetPort (r : List Byte) : Option Command := do
  let (port, r) ← getByte r
  let (period, r) ← getHalf r
  ended (.setPort port period) r

/-- LOAD CURVE's fields (R207, code 30h). -/
def readLoadCurve (r : List Byte) : Option Command := do
  let (site, r) ← getByte r
  let (sep, r) ← getByte r
  let (knots, r) ← getTable 17 r
  ended (.loadCurve site sep knots) r

/-- ARM CURVES' fields (R207, code 31h). -/
def readArmCurves (r : List Byte) : Option Command := do
  let (site, r) ← getByte r
  let (stock, r) ← getByte r
  let (flags, r) ← getByte r
  ended (.armCurves site stock flags) r

/-- SET GROUP TARGET's fields (R207, code 38h). -/
def readSetGroupTarget (r : List Byte) : Option Command := do
  let (stock, r) ← getByte r
  let (density, r) ← getTable 4 r
  let (tvi, r) ← getTable 8 r
  ended (.setGroupTarget { stock, density, tvi }) r

/-- SET SITE TARGET's fields (R207, code 39h). -/
def readSetSiteTarget (r : List Byte) : Option Command := do
  let (site, r) ← getByte r
  let (stock, r) ← getByte r
  let (density, r) ← getTable 4 r
  let (tvi, r) ← getTable 8 r
  let (low, r) ← getHalf r
  let (high, r) ← getHalf r
  ended (.setSiteTarget { site, stock, density, tvi, low, high }) r

/-- The reader of a command code's fields (R207); `none` where the code is not of the table. -/
def readFields (code : Byte) (r : List Byte) : Option Command :=
  if code = 0x01 then readOpenPage r
  else if code = 0x02 then readApprove r
  else if code = 0x03 then readWithdraw r
  else if code = 0x04 then readPurge r
  else if code = 0x05 then readSendPage r
  else if code = 0x10 then readSetPlan r
  else if code = 0x11 then readByteCommand .holdEdition r
  else if code = 0x12 then readByteCommand .openEdition r
  else if code = 0x13 then readSetClock r
  else if code = 0x18 then readDefineArea r
  else if code = 0x20 then readSetSite r
  else if code = 0x21 then readByteCommand .enableSite r
  else if code = 0x22 then readByteCommand .disableSite r
  else if code = 0x23 then readByteCommand .resumeSite r
  else if code = 0x24 then readSetAllotment r
  else if code = 0x28 then readSetPort r
  else if code = 0x30 then readLoadCurve r
  else if code = 0x31 then readArmCurves r
  else if code = 0x38 then readSetGroupTarget r
  else if code = 0x39 then readSetSiteTarget r
  else if code = 0x40 then ended .quiesce r
  else if code = 0x41 then ended .resume r
  else if code = 0x42 then ended .dayReset r
  else if code = 0x48 then (getKey r).bind fun p => ended (.queryPage p.1) p.2
  else if code = 0x49 then readByteCommand .querySite r
  else if code = 0x4A then readByteCommand .queryArea r
  else if code = 0x4B then ended .queryDevice r
  else if code = 0x4C then readByteCommand .readCurve r
  else none

/-- The form check of R195: a command payload is a command of R207 of exactly its length, or is malformed. -/
def parseCommand : List Byte → Command
  | [] => .malformed 0x00
  | code :: r => (readFields code r).getD (.malformed code)

/-- The code of a command (R207); a malformed one returns the code as received (R196). -/
def Command.code : Command → Byte
  | .openPage _ => 0x01
  | .approve _ => 0x02
  | .withdraw _ _ => 0x03
  | .purge _ => 0x04
  | .sendPage _ _ => 0x05
  | .setPlan _ _ => 0x10
  | .holdEdition _ => 0x11
  | .openEdition _ => 0x12
  | .setClock _ => 0x13
  | .defineArea _ => 0x18
  | .setSite _ => 0x20
  | .enableSite _ => 0x21
  | .disableSite _ => 0x22
  | .resumeSite _ => 0x23
  | .setAllotment _ _ => 0x24
  | .setPort _ _ => 0x28
  | .loadCurve _ _ _ => 0x30
  | .armCurves _ _ _ => 0x31
  | .setGroupTarget _ => 0x38
  | .setSiteTarget _ => 0x39
  | .quiesce => 0x40
  | .resume => 0x41
  | .dayReset => 0x42
  | .queryPage _ => 0x48
  | .querySite _ => 0x49
  | .queryArea _ => 0x4A
  | .queryDevice => 0x4B
  | .readCurve _ => 0x4C
  | .malformed code => code

/-- The fields of a command after its code (R207). -/
def Command.fields : Command → List Byte
  | .openPage a =>
    a.key.bytes ++ (halfBytes a.width ++ (halfBytes a.height ++ (a.seps :: a.flags ::
      (wordBytes a.releaseAt ++ wordBytes a.latest))))
  | .approve a => a.key.bytes ++ (a.station :: wordBytes a.expected)
  | .withdraw key flags => key.bytes ++ [flags]
  | .purge key => key.bytes
  | .sendPage key site => key.bytes ++ [site]
  | .setPlan edition entries => edition :: entries.toList
  | .holdEdition edition => [edition]
  | .openEdition edition => [edition]
  | .setClock count => wordBytes count
  | .defineArea a =>
    a.area :: a.flags :: (halfBytes a.base ++ (halfBytes a.length ++ [a.mtch ++ a.mask]))
  | .setSite a =>
    a.site :: (halfBytes a.code ++ (halfBytes a.port ++ (a.flow :: (halfBytes a.gapLength ++
      (halfBytes a.ackTimeout ++ (halfBytes a.retryLimit ++ (halfBytes a.highMark ++ (halfBytes a.lowMark ++
      (halfBytes a.gateTimeout ++ (a.haltMask :: (halvesBytes a.gains.toList ++ (halfBytes a.minDot ++
      (halfBytes a.maxDot ++ [a.solidHold])))))))))))))
  | .enableSite site => [site]
  | .disableSite site => [site]
  | .resumeSite site => [site]
  | .setAllotment site allotment => site :: wordBytes allotment
  | .setPort port period => port :: halfBytes period
  | .loadCurve site sep knots => site :: sep :: halvesBytes knots.toList
  | .armCurves site stock flags => [site, stock, flags]
  | .setGroupTarget a => a.stock :: (halvesBytes a.density.toList ++ halvesBytes a.tvi.toList)
  | .setSiteTarget a =>
    a.site :: a.stock :: (halvesBytes a.density.toList ++ (halvesBytes a.tvi.toList ++
      (halfBytes a.low ++ halfBytes a.high)))
  | .quiesce => []
  | .resume => []
  | .dayReset => []
  | .queryPage key => key.bytes
  | .querySite site => [site]
  | .queryArea area => [area]
  | .queryDevice => []
  | .readCurve site => [site]
  | .malformed _ => []

/-- The payload of a command frame (R207). -/
def Command.encode (c : Command) : List Byte := c.code :: c.fields

/-- The command is one of the table of R207. -/
def Command.isFormed : Command → Bool
  | .malformed _ => false
  | _ => true

/-- The command that a word spells by the table's bits: the table gives its rows no bits, so none. -/
def decodeTableWord (_nbits _w : Nat) : Option Instr := none

end Sys2Proof
end

