-- ==== Sys2Proof/Machine/State.lean ====
section
/-!
DEFINITION. Everything the manual gives the HMR-84 to hold, as plain data, and the machine after reset. `Device` is
the part; `State` adds the queue of commands that wait for it. What R31 (free sets), R30 (slots in use), R194 (feed
hold) and section 1.2 (class, band count, complete) define from other state is computed in the files beside this one.
-/

namespace Sys2Proof.Machine

/-! ## Pages (chapter 1) -/

/-- A page position: edition, section, page number (section 0.6). -/
structure Position where
  edition : Nat
  sect : Nat
  page : Nat
deriving DecidableEq, Repr

/-- A page key: a position and a zone, 0 for the common page (section 0.6). -/
structure PageKey where
  pos : Position
  zone : Nat
deriving DecidableEq, Repr

/-- A reference to one page version record. `uid` tells it from a later record of the same key and version (R41). -/
structure PageRef where
  uid : Nat
  key : PageKey
  version : Nat
deriving DecidableEq, Repr

/-- The separations of a page or a delivery, bit `i` for separation `i` (R203). -/
abbrev SepSet := BitVec 4

/-- The version states of section 1.3. -/
inductive VersionState where
  | filling | held | approved | released | delivered | superseded | withdrawn
deriving DecidableEq, Repr

/-- The seven site conditions, in the order of the halt mask's bits (R207). -/
inductive Condition where
  | storeError | ackRange | portMismatch | late | targetTimeout | linkLost | controlOverflow
deriving DecidableEq, Repr

/-- The delivery states of R3. -/
inductive DeliveryState where
  | none | queued | sending | acked | cancelled | failed
deriving DecidableEq, Repr

/-- A delivery record: the state of one version at one site (R3). -/
structure DeliveryRecord where
  state : DeliveryState
  late : Bool
  cause : Option Condition
deriving DecidableEq, Repr

/-- A present entry of a band map (section 1.2). -/
structure BandEntry where
  cell : Nat
  crc : Word
  fault : Bool
deriving DecidableEq, Repr

/-- A recorded approval (section 1.2); `approvedAt` is absent when the clock was unset (R11). -/
structure Approval where
  station : Nat
  expected : Word
  approvedAt : Option Nat
  checked : Bool
deriving DecidableEq, Repr

/-- A page version record (section 1.2). `bands` has an empty list for a separation not in `seps`. -/
structure PageVersion where
  uid : Nat
  key : PageKey
  version : Nat
  width : Nat
  height : Nat
  seps : SepSet
  bands : Vector (List (Option BandEntry)) 4
  area : Fin 8
  digest : Word
  releaseAt : Option Nat
  latest : Option Nat
  approval : Option Approval
  state : VersionState
  records : Vector DeliveryRecord 8
  retained : Option Word
deriving DecidableEq, Repr

/-! ## Store (chapter 2) -/

/-- The plate store: bytes at cell * 32768 + offset, addresses strictly rising, no byte 0 listed. -/
abbrev Memory := List Host.Cell

/-- A store area's definition (R31). -/
structure Area where
  enabled : Bool
  base : Nat
  length : Nat
  mtch : BitVec 4
  mask : BitVec 4
deriving DecidableEq, Repr

/-- A band write in flight (R41). `ended` marks a repair write that ended during a read of its entry (R47), and
`dayReset` one whose record DAY RESET removed (R44). -/
structure BandWrite where
  tag : Byte
  ref : PageRef
  sep : Sep
  band : Nat
  crc : Word
  repair : Bool
  cell : Nat
  payload : List Byte
  ended : Bool
  dayReset : Bool
deriving DecidableEq, Repr

/-- A band intake buffer (R192): free, taken by a frame that is arriving, or held by a band write. -/
inductive Buffer where
  | free
  | receiving
  | writing (w : BandWrite)
deriving DecidableEq, Repr

/-! ## Release unit (chapter 3) -/

/-- The night clock (R52). -/
structure Clock where
  count : Nat
  unset : Bool
deriving DecidableEq, Repr

/-- An edition plan: for each site a zone or not printing, and the held flag (R56). -/
structure Plan where
  entries : Vector (Option Nat) 8
  held : Bool
deriving DecidableEq, Repr

/-! ## Tone engine and block builder (chapter 4) -/

/-- A curve's seventeen knots, in sixteenths of a tone step (R76). -/
abbrev Curve := Vector Nat 17

/-- A curve set (R75). -/
structure CurveSet where
  curves : Vector Curve 4
  stock : Stock
deriving DecidableEq, Repr

/-- An armed pending set (R75). -/
structure Arm where
  stock : Stock
  gated : Bool
deriving DecidableEq, Repr

/-- A site's curves, arm state and clamp count (R75, R90). -/
structure Tone where
  active : CurveSet
  pending : CurveSet
  arm : Option Arm
  clampCount : Nat
deriving DecidableEq, Repr

/-! ## Targets (chapter 5) -/

/-- Twelve colour aims: four densities and eight tone value increases K40, K80, C40 … Y80 (R100, R207). -/
structure Aims where
  density : Vector Nat 4
  tvi : Vector Nat 8
deriving DecidableEq, Repr

/-- A group target (R100). -/
structure GroupTarget where
  set : Bool
  aims : Aims
deriving DecidableEq, Repr

/-- The offsets and limits of one site and stock (R102). -/
structure SiteOffsets where
  density : Vector Int 4
  tvi : Vector Int 8
  low : Nat
  high : Nat
deriving DecidableEq, Repr

/-- The target record of one site and stock (R105). -/
structure TargetRecord where
  aims : Option Aims
  latestGen : Byte
  ackedGen : Byte
  owed : Bool
deriving DecidableEq, Repr

/-- A gate state (R112); the count is in units of 100 ms. -/
inductive Gate where
  | idle
  | wait (count : Nat)
  | bypass
deriving DecidableEq, Repr

/-- A site's part of the target unit. -/
structure Targets where
  offsets : Vector SiteOffsets 4
  records : Vector TargetRecord 4
  gate : Gate
deriving DecidableEq, Repr

/-! ## Site queue unit (chapter 6) -/

/-- The class of a delivery (R115). -/
inductive DeliveryClass where
  | first | replate | remake
deriving DecidableEq, Repr

/-- A site queue entry (R115). -/
structure QueueEntry where
  ref : PageRef
  cls : DeliveryClass
  seps : SepSet
  order : Word
deriving DecidableEq, Repr

/-- A current delivery (R117). `id` is the delivery a rank's delivery reference names; a cursor of `none` is at end. -/
structure Delivery where
  id : Nat
  ref : PageRef
  cls : DeliveryClass
  seps : SepSet
  cursor : Option (Sep × Nat)
  sent : Word
  pageEnd : Bool
deriving DecidableEq, Repr

/-- The reason of a CANCEL (R128). -/
inductive CancelReason where
  | superseded | withdrawn | displaced | failed | recalled
deriving DecidableEq, Repr

/-- The reason of a NOTAVAIL (R131). -/
inductive NotAvailReason where
  | noVersion | notReleased | notReceived
deriving DecidableEq, Repr

/-- A control list entry (R120). -/
inductive ControlEntry where
  | target (stock : Stock) (gen : Byte) (aims : Aims)
  | cancel (key : PageKey) (version : Nat) (reason : CancelReason)
  | notAvail (pos : Position) (reason : NotAvailReason)
deriving DecidableEq, Repr

/-- A site's queue, current delivery and control list. -/
structure SiteQueue where
  queue : List QueueEntry
  current : Option Delivery
  control : List ControlEntry
deriving DecidableEq, Repr

/-! ## Send windows (chapter 7) -/

/-- The kinds of site blocks (R209). -/
inductive BlockKind where
  | plate | pageEnd | target | cancel | notAvail | void
deriving DecidableEq, Repr

/-- A block's identity: what its header says beyond kind, sequence number and site code (R137, R209). A field the
kind does not use is 0. -/
structure Ident where
  cls : Byte
  edition : Byte
  sect : Byte
  page : Byte
  zone : Byte
  version : Byte
  sep : Byte
  sepSet : Byte
  band : Byte
  bandCount : Byte
  lines : Byte
  width : Half
  height : Half
  crc : Word
deriving DecidableEq, Repr

/-- A block as the builder leaves it prepared (R95, R96). `delivery` is the delivery reference, `target` the stock
and generation of a TARGET block; `size` counts the header. -/
structure Block where
  kind : BlockKind
  slot : Option (Fin 16)
  delivery : Option Nat
  ident : Ident
  target : Option (Stock × Byte)
  size : Nat
deriving DecidableEq, Repr

/-- A rank of a send window (R137). -/
structure Rank where
  seq : Half
  block : Block
  pending : Bool
deriving DecidableEq, Repr

/-- The ack timer (R145): stopped, running with a count, or held after an expiry. -/
inductive AckTimer where
  | stopped
  | running (count : Nat)
  | held
deriving DecidableEq, Repr

/-- The link states (section 7.9). -/
inductive LinkState where
  | disabled | waiting | active | linkLost | halted
deriving DecidableEq, Repr

/-- A site's send window, timers and link state (R137, R145, R149, R156). -/
structure Window where
  ranks : List Rank
  nextSeq : Half
  prepared : Option Block
  ackTimer : AckTimer
  probeTimer : Option Nat
  retry : Nat
  link : LinkState
  closing : Bool
deriving DecidableEq, Repr

/-! ## Site ports and pacer (chapter 8) -/

/-- The flow modes (R172). -/
inductive FlowMode where
  | obey | ignore | gap | gapObey
deriving DecidableEq, Repr

/-- A site's pacer, flow and gauge state (R163 to R166, R172, R174, R176). A gap timer of `none` is stopped. -/
structure Pacer where
  active : Nat
  staged : Option Nat
  eCur : Nat
  credit : Int
  level : Nat
  refCount : Nat
  resendCount : Nat
  ready : Bool
  gap : Option Nat
deriving DecidableEq, Repr

/-- A block on the wire of a site port: the port's own copy (R139, R169). -/
structure Transmission where
  site : SiteId
  kind : BlockKind
  header : List Byte
  payload : List Byte
deriving DecidableEq, Repr

/-- A site port (R161, R168, R170). -/
structure Port where
  active : Nat
  staged : Option Nat
  remaining : Nat
  last : SiteId
  tx : Option Transmission
deriving DecidableEq, Repr

/-! ## Site conditions (chapter 9) -/

/-- What a condition carries (section 9.1). -/
inductive CondDetails where
  | storeError (key : PageKey) (version : Nat) (sep : Sep) (band : Nat)
  | ackRange (frameKind : Byte) (n : Half) (s1 : Half) (ranks : Nat)
  | portMismatch (arrived : PortId) (mapped : PortId)
  | late (key : PageKey) (version : Nat) (count : Nat)
  | targetTimeout (stock : Stock) (latest : Byte) (acked : Byte)
  | linkLost (retry : Nat) (seq : Half)
  | overflowCancel (key : PageKey) (version : Nat)
  | overflowNotAvail (pos : Position)
deriving DecidableEq, Repr

/-- The outcome of a condition (R179); `dropped` where the site is DISABLED or closing. -/
inductive CondOutcome where
  | halt | alreadyHalted | action | dropped
deriving DecidableEq, Repr

/-- A halt record (R182). -/
structure HaltRecord where
  details : CondDetails
  clock : Option Nat
  resume : LinkState
deriving DecidableEq, Repr

/-- The settings SET SITE carries (R197). -/
structure Settings where
  code : Half
  port : PortId
  flow : FlowMode
  gapLength : Nat
  ackTimeout : Nat
  retryLimit : Nat
  highMark : Nat
  lowMark : Nat
  gateTimeout : Nat
  haltMask : BitVec 7
  gains : Vector Nat 4
  minDot : Nat
  maxDot : Nat
  solidHold : Bool
deriving DecidableEq, Repr

/-- Everything the part holds for one site. -/
structure Site where
  cfg : Settings
  tone : Tone
  tgt : Targets
  q : SiteQueue
  win : Window
  pace : Pacer
  halt : Option HaltRecord
deriving DecidableEq, Repr

/-! ## The block builder (section 4.7) -/

/-- What a grant fixes for a PLATE block (R93). -/
structure PlateJob where
  delivery : Nat
  ref : PageRef
  sep : Sep
  band : Nat
  cell : Nat
  pixels : Nat
  curve : Curve
  gain : Nat
  minDot : Nat
  maxDot : Nat
  solidHold : Bool
  ident : Ident
deriving DecidableEq, Repr

/-- What a grant fixes (R93): a PLATE block, a PAGE_END block with its payload, or a control list entry. -/
inductive Job where
  | plate (j : PlateJob)
  | pageEnd (delivery : Nat) (ref : PageRef) (ident : Ident) (payload : List Byte)
  | control (e : ControlEntry)
deriving DecidableEq, Repr

/-- A preparation in flight (R93, R94). -/
structure Preparation where
  site : SiteId
  slot : Fin 16
  job : Job
  discard : Bool
deriving DecidableEq, Repr

/-- The block builder (R92, R99). -/
structure Builder where
  inFlight : Option Preparation
  last : SiteId
deriving DecidableEq, Repr

/-! ## Feed port (chapter 10) -/

/-- The result codes of R196. -/
inductive Result where
  | ok | format | range | noPage | state | staleVersion | tableFull | noArea | areaBusy | areaOverlap | curveOrder
  | noTarget | digest | siteState
deriving DecidableEq, Repr

/-- The reply flags of R196. -/
structure ReplyFlags where
  clamped : Bool := false
  pending : Bool := false
  absorbed : Bool := false
  reclaimed : Bool := false
  changed : Bool := false
  swapped : Bool := false
deriving DecidableEq, Repr

/-- What a command answers (R196). -/
structure Answer where
  result : Result
  flags : ReplyFlags := {}
  data : List Byte := []
deriving DecidableEq, Repr

/-- A reply in the reply queue (R196). -/
structure Reply where
  tag : Byte
  code : Byte
  answer : Answer
deriving DecidableEq, Repr

/-- The BAND_REFUSED reasons (R38). -/
inductive RefusedReason where
  | noPage | closed | range | runs | areaFull | repairMismatch
deriving DecidableEq, Repr

/-- The causes of a reclaim (R24). -/
inductive ReclaimCause where
  | table | area | purge
deriving DecidableEq, Repr

/-- The causes of SITE_LINK (R150, R153, R154). -/
inductive LinkCause where
  | returnFrame | hello | helloRestart
deriving DecidableEq, Repr

/-- The causes of FEED_OVERRUN (R192, R193). -/
inductive OverrunCause where
  | noBuffer | queueFull
deriving DecidableEq, Repr

/-- The events of R208, each with the fields its rule names, in its order. -/
inductive Event where
  | pageComplete (key : PageKey) (version : Nat) (digest : Word) (approved : Bool)
  | approvalMismatch (key : PageKey) (version : Nat) (station : Nat) (expected : Word) (digest : Word)
  | pageSuperseded (key : PageKey) (version : Nat) (left : VersionState) (byVersion : Nat)
  | pageReleased (key : PageKey) (version : Nat) (cls : DeliveryClass) (targets : Byte) (at_ : Option Nat)
  | pageDelivered (key : PageKey) (version : Nat) (records : Vector DeliveryRecord 8)
  | versionReclaimed (key : PageKey) (version : Nat) (was : VersionState) (area : Fin 8) (cells : Nat)
      (cause : ReclaimCause)
  | bandRefused (tag : Byte) (key : PageKey) (version : Nat) (sep : Nat) (band : Nat) (reason : RefusedReason)
  | bandRepaired (key : PageKey) (version : Nat) (sep : Nat) (band : Nat) (faulty : Nat) (enqueued : Nat)
  | slotError (site : SiteId) (slot : Fin 16) (seq : Half)
  | zoneReverted (pos : Position) (zone : Nat) (withdrawn : Nat) (common : Option Nat) (sites : Byte)
  | curvesSwitched (site : SiteId) (before : Stock) (after : Stock) (gated : Bool) (bypassed : Bool) (key : PageKey)
      (version : Nat)
  | targetApplied (site : SiteId) (stock : Stock) (gen : Byte) (current : Bool)
  | siteDelivered (site : SiteId) (key : PageKey) (version : Nat) (cls : DeliveryClass) (sent : Word) (late : Bool)
  | remakeTaken (site : SiteId) (pos : Position) (resolved : Option (Nat × Nat)) (seps : SepSet) (absorbed : Bool)
  | remakeUnavailable (site : SiteId) (pos : Position) (reason : NotAvailReason) (dropped : Bool)
  | siteLink (site : SiteId) (before : LinkState) (after : LinkState) (cause : LinkCause)
  | degradeChanged (site : SiteId) (before : Nat) (after : Nat) (resends : Nat)
  | feedOverrun (kind : Byte) (tag : Byte) (cause : OverrunCause)
  | condition (site : SiteId) (before : LinkState) (outcome : CondOutcome) (after : LinkState) (details : CondDetails)
deriving DecidableEq, Repr

/-- An event in the event queue; `mark` is the overflow mark it has taken (R198). -/
structure QueuedEvent where
  event : Event
  mark : Bool
deriving DecidableEq, Repr

/-- A command frame in the command queue (R193). Its payload is held as the command it spells. -/
structure QueuedCommand where
  tag : Byte
  cmd : Command
deriving DecidableEq, Repr

/-- Whose frame the feed transmitter is sending; `orphan` is an event frame whose queue DAY RESET emptied (R199). -/
inductive TxSource where
  | reply | event | orphan
deriving DecidableEq, Repr

/-- The outbound feed frame in transmission (R199), with its bytes (R205). -/
structure FeedTx where
  source : TxSource
  bytes : List Byte
deriving DecidableEq, Repr

/-- The feed port (chapter 10). `arrivals` are the band frames begun and not yet whole, oldest first, each with its
buffer or with none. -/
structure Feed where
  buffers : Vector Buffer 4
  arrivals : List (Option (Fin 4))
  cmds : List QueuedCommand
  replies : List Reply
  events : List QueuedEvent
  overflow : Bool
  overrun : Nat
  linkUp : Bool
  tx : Option FeedTx
deriving DecidableEq, Repr

/-! ## The part -/

/-- The state that only ticks and device-level commands change: timebase, night clock, plans, areas, group targets
and the quiesced flag (R31, R51, R52, R56, R100, R200). -/
structure Base where
  ms : Nat
  tens : Nat
  clock : Clock
  plans : Vector Plan 16
  areas : Vector Area 8
  groups : Vector GroupTarget 4
  quiesced : Bool
deriving DecidableEq, Repr

/-- The HMR-84. `serial` numbers records and deliveries and `free` the readings of free values: the model's own. -/
structure Device where
  base : Base
  orderCounter : Word
  table : List PageVersion
  retained : List Nat
  retainedCount : Word
  store : Memory
  sites : Vector Site 8
  builder : Builder
  ports : Vector Port 4
  feed : Feed
  serial : Nat
  free : Nat
deriving DecidableEq, Repr

/-- The part and the commands that wait for it, first in, first out. -/
structure State where
  pending : List Instr
  dev : Device
deriving DecidableEq, Repr

/-- The reasons the part can stop. There is none: the manual answers every trouble with a reply code, an event or a
site condition and goes on (R180, R196), so no step of the model faults. -/
inductive Fault where
deriving DecidableEq, Repr

/-- The reasons a step can be refused. -/
inductive Refusal where
  /-- Raised by an arm of `exec` whose command has no meaning yet; no arm does. Safe: a refused step proves nothing. -/
  | notModelled (mnemonic : String)
deriving DecidableEq, Repr

/-! ## After reset (section 10.5) -/

/-- The identity curve (R76). -/
def identityCurve : Curve :=
  #v[0, 256, 512, 768, 1024, 1280, 1536, 1792, 2048, 2304, 2560, 2816, 3072, 3328, 3584, 3840, 4080]

/-- The curve set of power-on (R75). -/
def identitySet : CurveSet := { curves := Vector.replicate 4 identityCurve, stock := 0 }

/-- No ident: every header field 0 (R209). -/
def Ident.zero : Ident :=
  { cls := 0, edition := 0, sect := 0, page := 0, zone := 0, version := 0, sep := 0, sepSet := 0, band := 0,
    bandCount := 0, lines := 0, width := 0, height := 0, crc := 0 }

/-- Every aim 0 (R100). -/
def Aims.zero : Aims := { density := Vector.replicate 4 0, tvi := Vector.replicate 8 0 }

/-- A delivery record at OPEN PAGE (R3). -/
def DeliveryRecord.fresh : DeliveryRecord := { state := .none, late := false, cause := none }

/-- The settings of a site at power-on: site code the site's index, port the index modulo 4, ack timeout 20, retry
limit 6, marks 8 and 1, gate timeout 30, STORE_ERROR and PORT_MISMATCH selected, gain 256, dots 0 and 255, solid
hold on (R84, R112, R138, R159, R172, R177, R181). -/
def Settings.reset (code : Half) (port : PortId) : Settings :=
  { code, port, flow := .obey, gapLength := 0, ackTimeout := 20, retryLimit := 6, highMark := 8, lowMark := 1,
    gateTimeout := 30, haltMask := 0b0000101, gains := Vector.replicate 4 256, minDot := 0, maxDot := 255,
    solidHold := true }

/-- The tone engine's part of a site at power-on (R75, R90). -/
def Tone.reset : Tone := { active := identitySet, pending := identitySet, arm := none, clampCount := 0 }

/-- The target unit's part of a site at power-on (R102, R105, R114). -/
def Targets.reset : Targets :=
  { offsets := Vector.replicate 4
      { density := Vector.replicate 4 0, tvi := Vector.replicate 8 0, low := 0, high := 250 },
    records := Vector.replicate 4 { aims := none, latestGen := 0, ackedGen := 0, owed := false }, gate := .idle }

/-- An empty queue, delivery and control list (R135). -/
def SiteQueue.empty : SiteQueue := { queue := [], current := none, control := [] }

/-- The window of a DISABLED site (R137, R145, R149, R156). -/
def Window.reset : Window :=
  { ranks := [], nextSeq := 0, prepared := none, ackTimer := .stopped, probeTimer := none, retry := 0,
    link := .disabled, closing := false }

/-- The pacer of a site at power-on (R163, R164, R166, R172, R174, R177). -/
def Pacer.reset : Pacer :=
  { active := 65536, staged := none, eCur := 65536, credit := 0, level := 0, refCount := 0, resendCount := 0,
    ready := true, gap := none }

/-- A site at power-on. -/
def Site.reset (code : Half) (port : PortId) : Site :=
  { cfg := Settings.reset code port, tone := Tone.reset, tgt := Targets.reset, q := SiteQueue.empty,
    win := Window.reset, pace := Pacer.reset, halt := none }

/-- A port at power-on (R161, R168, R170). -/
def Port.reset : Port := { active := 100, staged := none, remaining := 100, last := 7, tx := none }

/-- A disabled store area (R31). -/
def Area.off : Area := { enabled := false, base := 0, length := 0, mtch := 0, mask := 0 }

/-- Area 0 at power-on (R31). -/
def Area.whole : Area := { enabled := true, base := 0, length := 32640, mtch := 0, mask := 0 }

/-- An edition plan at power-on (R56). -/
def Plan.reset : Plan := { entries := Vector.replicate 8 none, held := false }

/-- Timebase, clock, plans, areas, group targets and quiesced flag at power-on (R31, R51, R52, R56, R100, R200). -/
def Base.reset : Base :=
  { ms := 0, tens := 0, clock := { count := 0, unset := true }, plans := Vector.replicate 16 Plan.reset,
    areas := #v[Area.whole, Area.off, Area.off, Area.off, Area.off, Area.off, Area.off, Area.off],
    groups := Vector.replicate 4 { set := false, aims := Aims.zero }, quiesced := false }

/-- The feed port at power-on (R192 to R199). DESIGN CHOICE (log 13): the feed link is up. -/
def Feed.reset : Feed :=
  { buffers := Vector.replicate 4 .free, arrivals := [], cmds := [], replies := [], events := [], overflow := false,
    overrun := 0, linkUp := true, tx := none }

/-- The part at power-on (section 10.5). DESIGN CHOICE (log 8, 10, 24): the model's counters and store content. -/
def Device.reset : Device :=
  { base := Base.reset, orderCounter := 0, table := [], retained := [], retainedCount := 0, store := [],
    sites := #v[Site.reset 0 0, Site.reset 1 1, Site.reset 2 2, Site.reset 3 3, Site.reset 4 0, Site.reset 5 1,
      Site.reset 6 2, Site.reset 7 3],
    builder := { inFlight := none, last := 7 }, ports := Vector.replicate 4 Port.reset, feed := Feed.reset,
    serial := 0, free := 0 }

/-- The machine after reset, with no command waiting. -/
def State.reset : State := { pending := [], dev := Device.reset }

end Sys2Proof.Machine
end

