-- ==== Sys2Proof/Machine/Operands.lean ====
section
/-!
DEFINITION. Reading the fields of frames: page keys, sites, ports, stocks, separation sets, plan entries, option
flags, and the clamping of section 0.9.
-/

namespace Sys2Proof.Machine

/-- The page key of a key field (R203). -/
def keyOf (k : KeyField) : PageKey :=
  { pos := { edition := k.edition.toNat, sect := k.sect.toNat, page := k.page.toNat }, zone := k.zone.toNat }

/-- The version number of a key field (R203). -/
def versionOf (k : KeyField) : Nat := k.version.toNat

/-- Section 0-7 and page number 1-96 (R4, R130). -/
def placeInRange (sect page : Nat) : Bool := decide (sect ≤ 7) && decide (1 ≤ page) && decide (page ≤ 96)

/-- The section, page number and zone of a key are in the ranges of R4. -/
def keyInRange (k : KeyField) : Bool :=
  placeInRange k.sect.toNat k.page.toNat && decide (k.zone.toNat ≤ 7)

/-- A site, area or edition entry index below eight. -/
def eightOf (b : Byte) : Option (Fin 8) := if h : b.toNat < 8 then some ⟨b.toNat, h⟩ else none

/-- A port, stock or separation number below four. -/
def fourOf (b : Byte) : Option (Fin 4) := if h : b.toNat < 4 then some ⟨b.toNat, h⟩ else none

/-- A whole-byte edition field 0-15 (R195). -/
def editionOf (b : Byte) : Option (Fin 16) := if h : b.toNat < 16 then some ⟨b.toNat, h⟩ else none

/-- A port number carried in a 16-bit field (R159). -/
def portOf (h : Half) : Option PortId := if lt : h.toNat < 4 then some ⟨h.toNat, lt⟩ else none

/-- The edition of a position as an index of the sixteen plans, when it is one. -/
def planIndex (edition : Nat) : Option (Fin 16) := if h : edition < 16 then some ⟨edition, h⟩ else none

/-- A separation set in a command: bits 4-7 must be clear (R203). -/
def sepsOf (b : Byte) : Option SepSet := if b.toNat < 16 then some (b.setWidth 4) else none

/-- The separation `i` is in the set. -/
def SepSet.has (s : SepSet) (i : Sep) : Bool := s.getLsbD i.val

/-- The separations of a set in the order K, C, M, Y (R118). -/
def SepSet.list (s : SepSet) : List Sep := allFour.filter s.has

/-- A plan entry (R203): `some none` is not printing. -/
def planEntryOf (b : Byte) : Option (Option Nat) :=
  if b = 0xFF then some none else if b.toNat ≤ 7 then some (some b.toNat) else none

/-- A flow mode code (R207). -/
def flowOf (b : Byte) : Option FlowMode :=
  if b = 0 then some .obey else if b = 1 then some .ignore else if b = 2 then some .gap
  else if b = 3 then some .gapObey else none

/-- A one-byte field that is 0 or 1 (R197). -/
def boolOf (b : Byte) : Option Bool := if b = 0 then some false else if b = 1 then some true else none

/-- Bit `i` of an option-flag byte (R203); bits not named are disregarded. -/
def optionFlag (b : Byte) (i : Nat) : Bool := b.getLsbD i

/-- The halt mask of SET SITE; bit 7 is unused and refuses (R197, R207). -/
def haltMaskOf (b : Byte) : Option (BitVec 7) := if b.getLsbD 7 then none else some (b.setWidth 7)

/-- Clamping to a range (section 0.9). -/
def clamp (lo hi n : Nat) : Nat := min (max n lo) hi

/-- Clamping of a signed value to `-m..m` (R102). -/
def clampInt (m : Int) (n : Int) : Int := min (max n (-m)) m

/-- The bit of a condition in the halt mask byte (R207). -/
def Condition.bit : Condition → Nat
  | .storeError => 0
  | .ackRange => 1
  | .portMismatch => 2
  | .late => 3
  | .targetTimeout => 4
  | .linkLost => 5
  | .controlOverflow => 6

/-- The condition that carries the details. -/
def CondDetails.condition : CondDetails → Condition
  | .storeError _ _ _ _ => .storeError
  | .ackRange _ _ _ _ => .ackRange
  | .portMismatch _ _ => .portMismatch
  | .late _ _ _ => .late
  | .targetTimeout _ _ _ => .targetTimeout
  | .linkLost _ _ => .linkLost
  | .overflowCancel _ _ => .controlOverflow
  | .overflowNotAvail _ => .controlOverflow

/-- The sites of a list as eight flags, bit `i` for site `i` (R208). -/
def siteFlags (l : List SiteId) : Byte := l.foldl (fun b i => b ||| (1#8 <<< i.val)) 0

end Sys2Proof.Machine
end

