-- ==== Sys2Proof/Machine/Formats.lean ====
section
/-!
DEFINITION. The CRC of R204 and the layouts of section 10.6: feed frames, reply and event payloads with the codes and
widths of R208, the site block header and payloads (R209, R210), and the frame checks of R191 and R203.
-/

namespace Sys2Proof.Machine

/-! ## CRC (R204) -/

/-- One shift of the CRC register toward its least significant end (R204). -/
def crcShift (r : Word) : Word := if r.getLsbD 0 then (r >>> 1) ^^^ 0xEDB88320 else r >>> 1

/-- The register after `n` shifts. -/
def crcShifts : Nat → Word → Word
  | 0, r => r
  | n + 1, r => crcShifts n (crcShift r)

/-- The register after one byte (R204). -/
def crcByte (r : Word) (b : Byte) : Word := crcShifts 8 (r ^^^ b.setWidth 32)

/-- The CRC of a list of bytes (R204). -/
def crc32 (bs : List Byte) : Word := bs.foldl crcByte 0xFFFFFFFF ^^^ 0xFFFFFFFF

/-! ## Fields (R203, R208) -/

/-- A one-byte field. -/
def byteN (n : Nat) : Byte := BitVec.ofNat 8 n

/-- A two-byte field, most significant byte first. -/
def halfN (n : Nat) : List Byte := halfBytes (BitVec.ofNat 16 n)

/-- A four-byte field, most significant byte first. -/
def wordN (n : Nat) : List Byte := wordBytes (BitVec.ofNat 32 n)

/-- A flag: one byte, 0 clear and 1 set (R208). -/
def flagByte (b : Bool) : Byte := if b then 1 else 0

/-- A value with a present byte before it (R208). DEDUCED (log 17): an absent value has no bytes after its 0. -/
def withPresentByte (bytes : Option (List Byte)) : List Byte :=
  match bytes with
  | none => [0]
  | some v => 1 :: v

/-- A page key and version in four bytes (R203). DEDUCED (log 35): where an event or a reply carries the key and the
version, the version stands in these four bytes only. -/
def keyBytes (k : PageKey) (version : Nat) : List Byte :=
  [BitVec.ofNat 4 k.pos.edition ++ BitVec.ofNat 4 version, byteN k.pos.sect, byteN k.pos.page, byteN k.zone]

/-- A page position in three bytes: edition, section, page (R210's NOTAVAIL). -/
def posBytes (p : Position) : List Byte := [byteN p.edition, byteN p.sect, byteN p.page]

/-- A time of night or clock count with its present byte. -/
def timeBytes (t : Option Nat) : List Byte := withPresentByte (t.map wordN)

/-- The code of a version state (R208). -/
def VersionState.code : VersionState → Byte
  | .filling => 1
  | .held => 2
  | .approved => 3
  | .released => 4
  | .delivered => 5
  | .superseded => 6
  | .withdrawn => 7

/-- The code of a delivery state (R208). -/
def DeliveryState.code : DeliveryState → Byte
  | .none => 0
  | .queued => 1
  | .sending => 2
  | .acked => 3
  | .cancelled => 4
  | .failed => 5

/-- The code of a delivery cause: FFh when absent, otherwise the condition (R208). -/
def causeCode (c : Option Condition) : Byte :=
  match c with
  | none => 0xFF
  | some k => byteN k.bit

/-- The code of a link state (R208). -/
def LinkState.code : LinkState → Byte
  | .disabled => 0
  | .waiting => 1
  | .active => 2
  | .linkLost => 3
  | .halted => 4

/-- The code of a condition outcome (R208); a dropped condition has no event. -/
def CondOutcome.code : CondOutcome → Byte
  | .halt => 1
  | .alreadyHalted => 2
  | .action => 3
  | .dropped => 0

/-- The code of a BAND_REFUSED reason (R208). -/
def RefusedReason.code : RefusedReason → Byte
  | .noPage => 1
  | .closed => 2
  | .range => 3
  | .runs => 4
  | .areaFull => 5
  | .repairMismatch => 6

/-- The code of a reclaim cause (R208). -/
def ReclaimCause.code : ReclaimCause → Byte
  | .table => 1
  | .area => 2
  | .purge => 3

/-- The code of a SITE_LINK cause (R208). -/
def LinkCause.code : LinkCause → Byte
  | .returnFrame => 1
  | .hello => 2
  | .helloRestart => 3

/-- The code of a FEED_OVERRUN cause (R208). -/
def OverrunCause.code : OverrunCause → Byte
  | .noBuffer => 1
  | .queueFull => 2

/-- The code of a delivery class (R209). -/
def DeliveryClass.code : DeliveryClass → Byte
  | .first => 1
  | .replate => 2
  | .remake => 3

/-- The code of a site block kind (R209). -/
def BlockKind.code : BlockKind → Byte
  | .plate => 1
  | .pageEnd => 2
  | .target => 3
  | .cancel => 4
  | .notAvail => 5
  | .void => 6

/-- The code of a flow mode (R207). -/
def FlowMode.code : FlowMode → Byte
  | .obey => 0
  | .ignore => 1
  | .gap => 2
  | .gapObey => 3

/-- The code of a CANCEL reason (R210). -/
def CancelReason.code : CancelReason → Byte
  | .superseded => 1
  | .withdrawn => 2
  | .displaced => 3
  | .failed => 4
  | .recalled => 5

/-- The code of a NOTAVAIL reason (R210). -/
def NotAvailReason.code : NotAvailReason → Byte
  | .noVersion => 1
  | .notReleased => 2
  | .notReceived => 3

/-- The code of a result (R196). -/
def Result.code : Result → Byte
  | .ok => 0x00
  | .format => 0x01
  | .range => 0x02
  | .noPage => 0x03
  | .state => 0x04
  | .staleVersion => 0x05
  | .tableFull => 0x06
  | .noArea => 0x07
  | .areaBusy => 0x08
  | .areaOverlap => 0x09
  | .curveOrder => 0x0A
  | .noTarget => 0x0B
  | .digest => 0x0C
  | .siteState => 0x0D

/-- The flags byte of a reply (R208). -/
def ReplyFlags.byte (f : ReplyFlags) : Byte :=
  (if f.clamped then 1 else 0) ||| (if f.pending then 2 else 0) ||| (if f.absorbed then 4 else 0) |||
    (if f.reclaimed then 8 else 0) ||| (if f.changed then 16 else 0) ||| (if f.swapped then 32 else 0)

/-! ## Feed frames (R205, R208) -/

/-- What a condition carries, as bytes (section 9.1, R208). -/
def CondDetails.bytes : CondDetails → List Byte
  | .storeError key version sep band => keyBytes key version ++ [byteN sep.val, byteN band]
  | .ackRange kind n s1 ranks => kind :: (halfBytes n ++ halfBytes s1 ++ halfN ranks)
  | .portMismatch arrived mapped => [byteN arrived.val, byteN mapped.val]
  | .late key version count => keyBytes key version ++ wordN count
  | .targetTimeout stock latest acked => [byteN stock.val, latest, acked]
  | .linkLost retry seq => byteN retry :: halfBytes seq
  | .overflowCancel key version => BlockKind.cancel.code :: keyBytes key version
  | .overflowNotAvail pos => BlockKind.notAvail.code :: posBytes pos

/-- The event codes of R208. -/
def Event.code : Event → Byte
  | .pageComplete .. => 0x01
  | .approvalMismatch .. => 0x02
  | .pageSuperseded .. => 0x03
  | .pageReleased .. => 0x04
  | .pageDelivered .. => 0x05
  | .versionReclaimed .. => 0x06
  | .bandRefused .. => 0x07
  | .bandRepaired .. => 0x08
  | .slotError .. => 0x09
  | .zoneReverted .. => 0x0A
  | .curvesSwitched .. => 0x0B
  | .targetApplied .. => 0x0C
  | .siteDelivered .. => 0x0D
  | .remakeTaken .. => 0x0E
  | .remakeUnavailable .. => 0x0F
  | .siteLink .. => 0x10
  | .degradeChanged .. => 0x11
  | .feedOverrun .. => 0x12
  | .condition _ _ _ _ d => byteN (0x20 + d.condition.bit)

/-- The fields of an event, in its rule's order and the widths of R208. -/
def Event.fields : Event → List Byte
  | .pageComplete key version digest approved => keyBytes key version ++ wordBytes digest ++ [flagByte approved]
  | .approvalMismatch key version station expected digest =>
    keyBytes key version ++ [byteN station] ++ wordBytes expected ++ wordBytes digest
  | .pageSuperseded key version left byVersion => keyBytes key version ++ [left.code, byteN byVersion]
  | .pageReleased key version cls targets at_ => keyBytes key version ++ [cls.code, targets] ++ timeBytes at_
  | .pageDelivered key version records =>
    keyBytes key version ++ records.toList.flatMap fun r => [r.state.code, causeCode r.cause]
  | .versionReclaimed key version was area cells cause =>
    keyBytes key version ++ [was.code, byteN area.val] ++ halfN cells ++ [cause.code]
  | .bandRefused tag key version sep band reason =>
    tag :: (keyBytes key version ++ [byteN sep, byteN band, reason.code])
  | .bandRepaired key version sep band faulty enqueued =>
    keyBytes key version ++ [byteN sep, byteN band] ++ halfN faulty ++ halfN enqueued
  | .slotError site slot seq => byteN site.val :: byteN slot.val :: halfBytes seq
  | .zoneReverted pos zone withdrawn common sites =>
    posBytes pos ++ [byteN zone, byteN withdrawn] ++ withPresentByte (common.map fun v => [byteN v]) ++ [sites]
  | .curvesSwitched site before after gated bypassed key version =>
    [byteN site.val, byteN before.val, byteN after.val, flagByte gated, flagByte bypassed] ++ keyBytes key version
  | .targetApplied site stock gen current => [byteN site.val, byteN stock.val, gen, flagByte current]
  | .siteDelivered site key version cls sent late =>
    byteN site.val :: (keyBytes key version ++ [cls.code] ++ wordBytes sent ++ [flagByte late])
  | .remakeTaken site pos resolved seps absorbed =>
    byteN site.val :: (posBytes pos ++ withPresentByte (resolved.map fun p => [byteN p.1, byteN p.2]) ++
      [seps.setWidth 8, flagByte absorbed])
  | .remakeUnavailable site pos reason dropped =>
    byteN site.val :: (posBytes pos ++ [reason.code, flagByte dropped])
  | .siteLink site before after cause => [byteN site.val, before.code, after.code, cause.code]
  | .degradeChanged site before after resends => [byteN site.val, byteN before, byteN after] ++ halfN resends
  | .feedOverrun kind tag cause => [kind, tag, cause.code]
  | .condition site before outcome after details =>
    [byteN site.val, before.code, outcome.code, after.code] ++ details.bytes

/-- A feed frame's bytes (R205): header, payload and the frame CRC over both. -/
def feedFrameBytes (kind tag : Byte) (payload : List Byte) : List Byte :=
  let body := kind :: tag :: (halfN payload.length ++ payload)
  body ++ wordBytes (crc32 body)

/-- A reply frame's bytes (R196, R208). -/
def Reply.frame (r : Reply) : List Byte :=
  feedFrameBytes 0x81 r.tag (r.answer.result.code :: r.code :: r.answer.flags.byte :: r.answer.data)

/-- An event frame's bytes (R199, R208): tag 0, the event code, the flags byte with the overflow mark, the fields. -/
def QueuedEvent.frame (e : QueuedEvent) : List Byte :=
  feedFrameBytes 0x82 0 (e.event.code :: flagByte e.mark :: e.event.fields)

/-! ## Inbound checks -/

/-- The frame checks of R191 but for the kind and the band frame's least length: length field and frame CRC. -/
def frameWhole (f : FeedFrame) : Bool :=
  decide (f.length.toNat = f.payload.length) &&
    decide (f.crc = crc32 (f.kind :: f.tag :: (halfBytes f.length ++ f.payload)))

/-- A band frame that passes R191. -/
def bandPasses (f : FeedFrame) : Bool :=
  decide (f.kind = 0x01) && frameWhole f && decide (10 ≤ f.payload.length)

/-- A command frame that passes R191. -/
def commandPasses (f : FeedFrame) : Bool := decide (f.kind = 0x02) && frameWhole f

/-- A return frame of kind `kind` with field length `len` that passes the port's frame check (R151, R203, R211). -/
def returnPasses (f : ReturnFrame) (kind : Byte) (len : Nat) : Bool :=
  decide (f.kind = kind) && decide (f.length.toNat = len) && decide (f.fields.length = len) &&
    decide (f.crc = crc32 (f.kind :: f.length :: (halfBytes f.code ++ f.fields)))

/-! ## Site blocks (R209, R210) -/

/-- The 32-byte header of a site block (R209): the identity, the sequence number, the site's present code. -/
def headerOf (kind : BlockKind) (seq code : Half) (i : Ident) (payloadLength : Nat) : List Byte :=
  let body := kind.code :: i.cls :: (halfBytes seq ++ halfBytes code ++
    [i.edition, i.sect, i.page, i.zone, i.version, i.sep, i.sepSet, i.band, i.bandCount, i.lines] ++
    halfBytes i.width ++ halfBytes i.height ++ wordN payloadLength ++ wordBytes i.crc)
  body ++ wordBytes (crc32 body)

/-- The payload of a TARGET block (R210). -/
def targetPayload (stock : Stock) (gen : Byte) (a : Aims) : List Byte :=
  byteN stock.val :: gen :: (a.density.toList.flatMap halfN ++ a.tvi.toList.map byteN)

/-- The payload of a CANCEL block (R210). -/
def cancelPayload (key : PageKey) (version : Nat) (reason : CancelReason) : List Byte :=
  posBytes key.pos ++ [byteN key.zone, byteN version, reason.code]

/-- The payload of a NOTAVAIL block (R210). -/
def notAvailPayload (pos : Position) (reason : NotAvailReason) : List Byte := posBytes pos ++ [reason.code]

/-- The payload of a control list entry's block (R210). -/
def ControlEntry.payload : ControlEntry → List Byte
  | .target stock gen aims => targetPayload stock gen aims
  | .cancel key version reason => cancelPayload key version reason
  | .notAvail pos reason => notAvailPayload pos reason

/-- The block kind of a control list entry. -/
def ControlEntry.kind : ControlEntry → BlockKind
  | .target _ _ _ => .target
  | .cancel _ _ _ => .cancel
  | .notAvail _ _ => .notAvail

/-- The header identity of a control list entry's block (R209): a CANCEL carries its key and version, a NOTAVAIL its
position, a TARGET neither. -/
def ControlEntry.ident : ControlEntry → Ident
  | .target _ _ _ => Ident.zero
  | .cancel key version _ =>
    { Ident.zero with edition := byteN key.pos.edition, sect := byteN key.pos.sect, page := byteN key.pos.page,
                      zone := byteN key.zone, version := byteN version }
  | .notAvail pos _ =>
    { Ident.zero with edition := byteN pos.edition, sect := byteN pos.sect, page := byteN pos.page }

/-- The stock and generation a TARGET entry's rank carries (R110). -/
def ControlEntry.target? : ControlEntry → Option (Stock × Byte)
  | .target stock gen _ => some (stock, gen)
  | _ => none

end Sys2Proof.Machine
end

