-- ==== Sys2Proof/Machine/Ops.lean ====
section
/-!
DEFINITION. The named operations over the store, the tables of sites and ports, the page table and the feed port's
two outbound queues. Every other file reads and writes the device through these.
-/

namespace Sys2Proof.Machine

/-! ## The plate store (R29) -/

/-- The byte at an address. DESIGN CHOICE (log 10): an address not listed reads 0. -/
def memRead : Memory → Nat → Byte
  | [], _ => 0
  | (a, b) :: m, x => if a = x then b else memRead m x

/-- The store with one byte written, in canonical form. -/
def memWrite : Memory → Nat → Byte → Memory
  | [], x, v => if v = 0 then [] else [(x, v)]
  | (a, b) :: m, x, v =>
    if x < a then (if v = 0 then (a, b) :: m else (x, v) :: (a, b) :: m)
    else if x = a then (if v = 0 then m else (x, v) :: m)
    else (a, b) :: memWrite m x v

/-- The canonical form: addresses strictly rising, no entry equal to what an unlisted address reads. -/
abbrev Memory.wf (m : Memory) : Prop :=
  m.Pairwise (fun p q => p.1 < q.1) ∧ ∀ c ∈ m, c.2 ≠ 0

/-- `n` bytes from an address on. -/
def readBytes (m : Memory) : Nat → Nat → List Byte
  | _, 0 => []
  | a, n + 1 => memRead m a :: readBytes m (a + 1) n

/-- The store with a list of bytes written from an address on. -/
def writeBytes (m : Memory) : Nat → List Byte → Memory
  | _, [] => m
  | a, b :: bs => writeBytes (memWrite m a b) (a + 1) bs

/-- The address of a cell's first byte (section 2.1). -/
def cellAddr (cell : Nat) : Nat := cell * Config.cellBytes

/-- The cell of a resend slot (R30). -/
def slotCell (i : SiteId) (k : Fin 16) : Nat := Config.bandCells + 16 * i.val + k.val

/-! ## Sites and ports -/

/-- Site `i`. -/
def Device.site (d : Device) (i : SiteId) : Site := entryOf d.sites i

/-- The device with site `i` changed. -/
def Device.onSite (d : Device) (i : SiteId) (f : Site → Site) : Device := { d with sites := modifyAt d.sites i f }

/-- The device with site `i`'s window changed. -/
def Device.onWin (d : Device) (i : SiteId) (f : Window → Window) : Device :=
  d.onSite i fun st => { st with win := f st.win }

/-- The device with site `i`'s queue, delivery or control list changed. -/
def Device.onQueue (d : Device) (i : SiteId) (f : SiteQueue → SiteQueue) : Device :=
  d.onSite i fun st => { st with q := f st.q }

/-- The device with site `i`'s tone state changed. -/
def Device.onTone (d : Device) (i : SiteId) (f : Tone → Tone) : Device :=
  d.onSite i fun st => { st with tone := f st.tone }

/-- The device with site `i`'s targets changed. -/
def Device.onTgt (d : Device) (i : SiteId) (f : Targets → Targets) : Device :=
  d.onSite i fun st => { st with tgt := f st.tgt }

/-- The device with site `i`'s pacer state changed. -/
def Device.onPace (d : Device) (i : SiteId) (f : Pacer → Pacer) : Device :=
  d.onSite i fun st => { st with pace := f st.pace }

/-- The device with one target record changed. -/
def Device.onTarget (d : Device) (i : SiteId) (k : Stock) (f : TargetRecord → TargetRecord) : Device :=
  d.onTgt i fun t => { t with records := modifyAt t.records k f }

/-- The target record of a site and stock. -/
def Site.target (st : Site) (k : Stock) : TargetRecord := entryOf st.tgt.records k

/-- Port `p`. -/
def Device.port (d : Device) (p : PortId) : Port := entryOf d.ports p

/-- The device with port `p` changed. -/
def Device.onPort (d : Device) (p : PortId) (f : Port → Port) : Device := { d with ports := modifyAt d.ports p f }

/-- One thing done at every site in ascending site index. -/
def forSites (f : SiteId → Device → Device) (d : Device) : Device := allSites.foldl (fun d i => f i d) d

/-- One thing done at every port in ascending number. -/
def forPorts (f : PortId → Device → Device) (d : Device) : Device := allFour.foldl (fun d p => f p d) d

/-- The site is DISABLED or closing: every enqueue, posting and production passes it over (R156). -/
def Site.absent (st : Site) : Bool := decide (st.win.link = .disabled) || st.win.closing

/-- The site is paused by its flow mode (R173). -/
def Site.paused (st : Site) : Bool :=
  (decide (st.cfg.flow = .obey) || decide (st.cfg.flow = .gapObey)) && !st.pace.ready

/-- The prepared block counts one toward the window's sixteen (R137). -/
def Window.count (w : Window) : Nat := w.ranks.length + (if w.prepared.isSome then 1 else 0)

/-- A transmission for the site is in progress on some port (R167). -/
def Device.transmitting (d : Device) (i : SiteId) : Bool :=
  allFour.any fun p => match (d.port p).tx with
    | some t => decide (t.site = i)
    | none => false

/-- The night clock count, absent while the clock is unset (R11, R52). -/
def Device.time (d : Device) : Option Nat := if d.base.clock.unset then none else some d.base.clock.count

/-! ## The block builder's preparation in flight -/

/-- A preparation for the site is in flight. -/
def Device.preparing (d : Device) (i : SiteId) : Bool :=
  match d.builder.inFlight with
  | some p => decide (p.site = i)
  | none => false

/-- The discard mark is set if the preparation in flight meets `test` (R94). -/
def Device.markIf (d : Device) (test : Preparation → Bool) : Device :=
  { d with builder := { d.builder with
      inFlight := d.builder.inFlight.map fun p => if test p then { p with discard := true } else p } }

/-- The discard mark of a preparation in flight for site `i` is set (R94). -/
def Device.markSite (d : Device) (i : SiteId) : Device := d.markIf fun p => decide (p.site = i)

/-- The delivery a job belongs to, if any. -/
def Job.delivery : Job → Option Nat
  | .plate j => some j.delivery
  | .pageEnd id _ _ _ => some id
  | .control _ => none

/-- The version a job reads, if any (R23). -/
def Job.ref : Job → Option PageRef
  | .plate j => some j.ref
  | .pageEnd _ ref _ _ => some ref
  | .control _ => none

/-! ## The page table (R1 to R3) -/

/-- The record with an identity. -/
def Device.record (d : Device) (uid : Nat) : Option PageVersion := d.table.find? fun v => decide (v.uid = uid)

/-- The record of a key and version (R1). -/
def Device.lookup (d : Device) (key : PageKey) (version : Nat) : Option PageVersion :=
  d.table.find? fun v => decide (v.key = key) && decide (v.version = version)

/-- The device with the record of an identity changed. -/
def Device.onRecord (d : Device) (uid : Nat) (f : PageVersion → PageVersion) : Device :=
  { d with table := d.table.map fun v => if v.uid = uid then f v else v }

/-- The reference to a record. -/
def PageVersion.ref (v : PageVersion) : PageRef := { uid := v.uid, key := v.key, version := v.version }

/-- FIRST for version 1, REPLATE for versions 2-15 (R8). -/
def PageVersion.cls (v : PageVersion) : DeliveryClass := if v.version = 1 then .first else .replate

/-- The band count: ceil(height / 128) (section 1.2). -/
def PageVersion.bandCount (v : PageVersion) : Nat := (v.height + 127) / 128

/-- The line count of a band (R36). -/
def PageVersion.lines (v : PageVersion) (band : Nat) : Nat :=
  if band + 1 < v.bandCount then 128 else v.height - 128 * (v.bandCount - 1)

/-- The pixel count of a band (R36). -/
def PageVersion.pixels (v : PageVersion) (band : Nat) : Nat := v.width * v.lines band

/-- The band map entry of a separation and band index (R2). -/
def PageVersion.entry (v : PageVersion) (sep : Sep) (band : Nat) : Option BandEntry :=
  ((entryOf v.bands sep)[band]?).join

/-- The record with a band map entry replaced. -/
def PageVersion.withEntry (v : PageVersion) (sep : Sep) (band : Nat) (e : BandEntry) : PageVersion :=
  { v with bands := modifyAt v.bands sep fun l => l.set band (some e) }

/-- Every entry of every list of the band map is present (R2). -/
def PageVersion.complete (v : PageVersion) : Bool := v.bands.toList.all fun l => l.all Option.isSome

/-- The recorded entries of a version. -/
def PageVersion.entries (v : PageVersion) : List BandEntry := v.bands.toList.flatMap fun l => l.filterMap id

/-- The number of entries that carry the fault flag (R48). -/
def PageVersion.faulty (v : PageVersion) : Nat := (v.entries.filter (·.fault)).length

/-- The delivery record of a version at a site (R3). -/
def PageVersion.at (v : PageVersion) (i : SiteId) : DeliveryRecord := entryOf v.records i

/-- QUEUED and SENDING are non-final (R3). -/
def DeliveryState.final : DeliveryState → Bool
  | .queued => false
  | .sending => false
  | _ => true

/-- Present and neither WITHDRAWN nor SUPERSEDED (section 1.1); used of records in the table. -/
def PageVersion.live (v : PageVersion) : Bool :=
  !(decide (v.state = .withdrawn) || decide (v.state = .superseded))

/-- RELEASED or DELIVERED. -/
def PageVersion.out (v : PageVersion) : Bool := decide (v.state = .released) || decide (v.state = .delivered)

/-- The device with a version's delivery record at a site changed. -/
def Device.onDelivery (d : Device) (uid : Nat) (i : SiteId) (f : DeliveryRecord → DeliveryRecord) : Device :=
  d.onRecord uid fun v => { v with records := modifyAt v.records i f }

/-! ## The outbound feed (R198, R199) -/

/-- The feed transmitter is asked: idle and with the link up, it begins the head of the reply queue, or else the head
of the event queue, which takes the overflow mark if the flag is set (R198, R199). -/
def feedAsk (f : Feed) : Feed :=
  if f.linkUp && f.tx.isNone then
    match f.replies with
    | r :: _ => { f with tx := some { source := .reply, bytes := r.frame } }
    | [] =>
      match f.events with
      | e :: es =>
        let e := { e with mark := e.mark || f.overflow }
        { f with events := e :: es, overflow := false, tx := some { source := .event, bytes := e.frame } }
      | [] => f
  else f

/-- An event joins the event queue, or is lost and sets the overflow flag when the queue holds 32 (R198). -/
def joinEvent (e : Event) (f : Feed) : Feed :=
  if f.events.length < Config.eventCapacity then
    feedAsk { f with events := f.events ++ [{ event := e, mark := false }] }
  else { f with overflow := true }

/-- A reply joins the reply queue (R195, R198). -/
def joinReply (r : Reply) (f : Feed) : Feed := feedAsk { f with replies := f.replies ++ [r] }

/-- A rule sends an event. -/
def Device.event (d : Device) (e : Event) : Device := { d with feed := joinEvent e d.feed }

/-- An event is sent when the test holds; only the feed port can change (used where the test is a free value). -/
def Device.eventIf (d : Device) (test : Bool) (e : Event) : Device :=
  { d with feed := if test then joinEvent e d.feed else d.feed }

/-- The device with an intake buffer changed. -/
def Device.onBuffer (d : Device) (b : Fin 4) (x : Buffer) : Device :=
  { d with feed := { d.feed with buffers := modifyAt d.feed.buffers b fun _ => x } }

/-- The feed hold indication (R194). -/
def Feed.hold (f : Feed) : Bool :=
  decide (Config.holdThreshold ≤ f.cmds.length) || f.buffers.toList.all (fun b => decide (b ≠ .free))

end Sys2Proof.Machine
end

