-- ==== Sys2Proof/Machine/Timers.lean ====
section
/-!
DEFINITION. When a site's ack and probe timers run (R145, R146, R149). `syncTimers` is applied wherever one of the
conditions they run under may have changed.
-/

namespace Sys2Proof.Machine

/-- The ack timer may run (R145): ACTIVE, at least one rank, not paused, not quiesced; a closing site's timers are
stopped (R156). -/
def ackMayRun (quiesced : Bool) (st : Site) : Bool :=
  decide (st.win.link = .active) && !st.win.closing && !st.win.ranks.isEmpty && !st.paused && !quiesced

/-- The ack timer after a change of the conditions it runs under (R145): it starts in full when they come to hold,
unless it is held; it stops when one ceases; a hold ends when the window is empty or the site is not ACTIVE. -/
def syncAck (quiesced : Bool) (st : Site) : AckTimer :=
  if ackMayRun quiesced st then
    match st.win.ackTimer with
    | .stopped => .running st.cfg.ackTimeout
    | t => t
  else
    match st.win.ackTimer with
    | .held => if decide (st.win.link = .active) && !st.win.closing && !st.win.ranks.isEmpty then .held else .stopped
    | _ => .stopped

/-- The ack timer started or restarted with a full count where it may run (R146); this ends a hold. -/
def restartAck (quiesced : Bool) (st : Site) : AckTimer :=
  if ackMayRun quiesced st then .running st.cfg.ackTimeout else .stopped

/-- The full count of the probe timer (R149). -/
def probeFull (st : Site) : Nat := 4 * st.cfg.ackTimeout

/-- The probe timer after a change of the conditions it runs under (R149). -/
def syncProbe (quiesced : Bool) (st : Site) : Option Nat :=
  if decide (st.win.link = .linkLost) && !st.win.closing && !quiesced then
    some (st.win.probeTimer.getD (probeFull st))
  else none

/-- Both timers of a site follow the conditions they run under. -/
def syncTimers (i : SiteId) (d : Device) : Device :=
  d.onSite i fun st =>
    { st with win := { st.win with ackTimer := syncAck d.base.quiesced st, probeTimer := syncProbe d.base.quiesced st } }

/-- The ack timer of a site is started or restarted (R146). -/
def startAck (i : SiteId) (d : Device) : Device :=
  d.onSite i fun st => { st with win := { st.win with ackTimer := restartAck d.base.quiesced st } }

end Sys2Proof.Machine
end

