-- ==== Sys2Proof/Machine/Conditions.lean ====
section
/-!
DEFINITION. The site condition logic of chapter 9: the outcome of a condition (R179), its event (R180) and the halt
of a site (R182).
-/

namespace Sys2Proof.Machine

/-- A condition is selected at a site when its flag in the halt mask is set (R181). -/
def Site.selects (st : Site) (c : Condition) : Bool := st.cfg.haltMask.getLsbD c.bit

/-- The outcome of a condition at a site (R179). -/
def outcomeOf (st : Site) (c : Condition) : CondOutcome :=
  if st.absent then .dropped
  else if st.selects c then (if st.win.link = .halted then .alreadyHalted else .halt)
  else .action

/-- The link state after a condition (R180): HALTED after a halt, LINK_LOST when that condition's action is taken. -/
def stateAfter (st : Site) (c : Condition) (o : CondOutcome) : LinkState :=
  match o with
  | .halt => .halted
  | .action => if c = .linkLost then .linkLost else st.win.link
  | .alreadyHalted => st.win.link
  | .dropped => st.win.link

/-- The resume state of a halt (R182). -/
def resumeStateOf (l : LinkState) : LinkState := if l = .waiting then .waiting else .active

/-- The halt of a site (R182, R183): link state HALTED, the halt record filled, the ack and probe timers stopped. -/
def haltSite (i : SiteId) (det : CondDetails) (d : Device) : Device :=
  syncTimers i <| d.onSite i fun st =>
    { st with
      win := { st.win with link := .halted }
      halt := some { details := det, clock := d.time, resume := resumeStateOf st.win.link } }

/-- A condition is raised at a site (R179, R180): its event first, then the halt when that is the outcome. The raising
rule carries out the action when `outcomeOf` says so. -/
def raise (i : SiteId) (det : CondDetails) (d : Device) : Device :=
  let st := d.site i
  let o := outcomeOf st det.condition
  let told := d.event (.condition i st.win.link o (stateAfter st det.condition o) det)
  match o with
  | .dropped => d
  | .halt => haltSite i det told
  | .alreadyHalted => told
  | .action => told

end Sys2Proof.Machine
end

