-- ==== Sys2Proof/Machine/Control.lean ====
section
/-!
DEFINITION. Control lists (R120, R121) and the target unit's arithmetic, productions, postings and acknowledgement
(R104 to R106, R108, R110).
-/

namespace Sys2Proof.Machine

/-! ## CANCEL and NOTAVAIL (R121) -/

/-- The control list has room (R120). -/
def Site.controlRoom (st : Site) : Bool := decide (st.q.control.length < Config.controlCapacity)

/-- An entry is added at the tail of a control list (R120). -/
def appendControl (i : SiteId) (e : ControlEntry) (d : Device) : Device :=
  d.onQueue i fun q => { q with control := q.control ++ [e] }

/-- A CANCEL is posted (R121): at the tail when there is room, or dropped with CONTROL_OVERFLOW; a DISABLED or
closing site is passed over. -/
def postCancel (i : SiteId) (key : PageKey) (version : Nat) (reason : CancelReason) (d : Device) : Device :=
  if (d.site i).absent then d
  else if (d.site i).controlRoom then appendControl i (.cancel key version reason) d
  else raise i (.overflowCancel key version) d

/-- A NOTAVAIL is posted (R121). -/
def postNotAvail (i : SiteId) (pos : Position) (reason : NotAvailReason) (d : Device) : Device :=
  if (d.site i).absent then d
  else if (d.site i).controlRoom then appendControl i (.notAvail pos reason) d
  else raise i (.overflowNotAvail pos) d

/-! ## Site targets (R104 to R106) -/

/-- A site target's density aim (R104). -/
def densityAim (group : Nat) (offset : Int) (low high : Nat) : Nat :=
  (min (max ((group : Int) + offset) (low : Int)) (high : Int)).toNat

/-- A site target's tone value increase aim (R104). -/
def tviAim (group : Nat) (offset : Int) : Nat := (min (max ((group : Int) + offset) 0) 50).toNat

/-- The site target of a group target and a site's offsets and limits (R104). -/
def siteTarget (g : Aims) (o : SiteOffsets) : Aims :=
  { density := Vector.zipWith (fun a x => densityAim a x o.low o.high) g.density o.density
    tvi := Vector.zipWith tviAim g.tvi o.tvi }

/-- A control entry is the TARGET entry of stock `k`. -/
def ControlEntry.isTarget (k : Stock) : ControlEntry → Bool
  | .target s _ _ => decide (s = k)
  | _ => false

/-- A preparation makes the TARGET block of stock `k` at site `i`. -/
def Preparation.makesTarget (i : SiteId) (k : Stock) (p : Preparation) : Bool :=
  decide (p.site = i) && match p.job with
    | .control e => e.isTarget k
    | _ => false

/-- The posting of a production (R106): the entry of the stock replaced in place, with the discard mark of its
preparation set (R94); or added at the tail; or owed when the list is full. -/
def postProduced (i : SiteId) (k : Stock) (gen : Byte) (aims : Aims) (d : Device) : Device :=
  let e := ControlEntry.target k gen aims
  if (d.site i).q.control.any (·.isTarget k) then
    (d.onQueue i fun q => { q with control := q.control.map fun x => if x.isTarget k then e else x }).markIf
      (·.makesTarget i k)
  else if (d.site i).controlRoom then
    appendControl i e (d.onTarget i k fun r => { r with owed := false })
  else d.onTarget i k fun r => { r with owed := true }

/-- A production for a site and stock (R106): not made at a DISABLED site or while the group target is not set. -/
def produce (i : SiteId) (k : Stock) (d : Device) : Device :=
  let st := d.site i
  let g := entryOf d.base.groups k
  if st.absent || !g.set then d
  else
    let aims := siteTarget g.aims (entryOf st.tgt.offsets k)
    let gen := (st.target k).latestGen + 1
    postProduced i k gen aims (d.onTarget i k fun r => { r with aims := some aims, latestGen := gen })

/-- One owed TARGET is posted if it is owed and the control list has room (R108). -/
def postOwedStock (i : SiteId) (k : Stock) (d : Device) : Device :=
  let r := (d.site i).target k
  if r.owed && (d.site i).controlRoom then
    appendControl i (.target k r.latestGen (r.aims.getD Aims.zero)) (d.onTarget i k fun r => { r with owed := false })
  else d

/-- The owed TARGETs of a site are posted in ascending stock order while the list has room (R108). -/
def postOwed (i : SiteId) (d : Device) : Device := allFour.foldl (fun d k => postOwedStock i k d) d

/-- After a restart or DAY RESET: a stock whose acknowledged generation differs from its latest and which has no
TARGET entry becomes owed, and the owed stocks are posted (R108). -/
def oweUnacknowledged (i : SiteId) (d : Device) : Device :=
  postOwed i <| allFour.foldl (fun d k =>
    if ((d.site i).target k).ackedGen = ((d.site i).target k).latestGen then d
    else if (d.site i).q.control.any (·.isTarget k) then d
    else d.onTarget i k fun r => { r with owed := true }) d

/-- The gate waits on stock `k`: GATE_WAIT under a gated arm of that stock (R110, R112). -/
def Site.gateWaitsOn (st : Site) (k : Stock) : Bool :=
  match st.tgt.gate, st.tone.arm with
  | .wait _, some a => a.gated && decide (a.stock = k)
  | _, _ => false

/-- A TARGET rank is acknowledged (R110): its generation becomes the acknowledged one, TARGET_APPLIED is sent, and a
gate that waits on the stock goes to IDLE when the generation is the latest (R112). -/
def applyTarget (i : SiteId) (k : Stock) (gen : Byte) (d : Device) : Device :=
  let current := decide (gen = ((d.site i).target k).latestGen)
  let d := (d.onTarget i k fun r => { r with ackedGen := gen }).event (.targetApplied i k gen current)
  if current && (d.site i).gateWaitsOn k then d.onTgt i fun t => { t with gate := .idle } else d

end Sys2Proof.Machine
end

