-- ==== Sys2Proof/Machine/Deliveries.lean ====
section
/-!
DEFINITION. The retained list and the delivered check (R18, R22), cancellation (R126, R127, R144), the curve switch
and the target gate at page start (R81, R82, R112), page start (R123), enqueue (R115, R116) and the end of a delivery
(R125).
-/

namespace Sys2Proof.Machine

/-! ## The retained list and the delivered check -/

/-- A version enters the retained list at the tail, once (R22). -/
def retain (uid : Nat) (d : Device) : Device :=
  if uid ∈ d.retained then d
  else
    { d.onRecord uid (fun v => { v with retained := some d.retainedCount }) with
      retained := d.retained ++ [uid], retainedCount := d.retainedCount + 1 }

/-- The eight delivery records are final (R18). -/
def PageVersion.allFinal (v : PageVersion) : Bool := v.records.toList.all fun r => r.state.final

/-- The delivered check of a version (R18). -/
def deliveredCheck (uid : Nat) (d : Device) : Device :=
  match d.record uid with
  | some v =>
    if v.state = .released ∧ v.allFinal then
      (retain uid (d.onRecord uid fun v => { v with state := .delivered })).event
        (.pageDelivered v.key v.version v.records)
    else d
  | none => d

/-- A delivery record becomes final and is reported to the page table (R3, R18). -/
def finalRecord (uid : Nat) (i : SiteId) (state : DeliveryState) (cause : Option Condition) (d : Device) : Device :=
  deliveredCheck uid (d.onDelivery uid i fun r => { r with state := state, cause := cause })

/-! ## Cancellation -/

/-- The causes of a cancellation (section 6.6). -/
inductive CancelCause where
  | superseded | withdrawn | displaced | storeError | disable
deriving DecidableEq, Repr

/-- The reason of the CANCEL a cancelled current delivery posts (section 6.6); none for DISABLE SITE. -/
def CancelCause.reason : CancelCause → Option CancelReason
  | .superseded => some .superseded
  | .withdrawn => some .withdrawn
  | .displaced => some .displaced
  | .storeError => some .failed
  | .disable => none

/-- What the record of a cancelled current delivery becomes (R127). -/
def CancelCause.state : CancelCause → DeliveryState
  | .storeError => .failed
  | _ => .cancelled

/-- The cause field of that record (R3, R127). -/
def CancelCause.condition : CancelCause → Option Condition
  | .storeError => some .storeError
  | _ => none

/-- The block of a rank made VOID (R144). -/
def voidBlock : Block :=
  { kind := .void, slot := none, delivery := none, ident := Ident.zero, target := none, size := Config.headerBytes }

/-- A rank of delivery `id` is made VOID; its number, place and resend-pending flag are kept (R144). -/
def voidIf (id : Nat) (r : Rank) : Rank := if r.block.delivery = some id then { r with block := voidBlock } else r

/-- The window after the cancellation of delivery `id` (R127, R144): its ranks VOID, its prepared block discarded. -/
def Window.cancelled (w : Window) (id : Nat) : Window :=
  { w with ranks := w.ranks.map (voidIf id), prepared := w.prepared.filter fun b => decide (b.delivery ≠ some id) }

/-- The cancellation of the current delivery `c` of a site, in the order of R127. -/
def cancelCurrent (i : SiteId) (c : Delivery) (cause : CancelCause) (d : Device) : Device :=
  let d := d.onWin i fun w => w.cancelled c.id
  let d := d.markIf fun p => decide (p.site = i) && decide (p.job.delivery = some c.id)
  let d := match cause.reason with
    | some r => postCancel i c.ref.key c.ref.version r d
    | none => d
  let d := d.onQueue i fun q => { q with current := none }
  finalRecord c.ref.uid i cause.state cause.condition d

/-- The cancellation of a queued delivery (R126). -/
def cancelQueued (i : SiteId) (uid : Nat) (d : Device) : Device :=
  finalRecord uid i .cancelled none
    (d.onQueue i fun q => { q with queue := q.queue.filter fun e => decide (e.ref.uid ≠ uid) })

/-- The cancellation of a version's delivery at a site; a delivery that is neither current nor queued there is left
as it is (R126). -/
def cancelDelivery (i : SiteId) (uid : Nat) (cause : CancelCause) (d : Device) : Device :=
  match (d.site i).q.current with
  | some c =>
    if c.ref.uid = uid then cancelCurrent i c cause d
    else if (d.site i).q.queue.any (fun e => decide (e.ref.uid = uid)) then cancelQueued i uid d else d
  | none => if (d.site i).q.queue.any (fun e => decide (e.ref.uid = uid)) then cancelQueued i uid d else d

/-- Every non-final delivery record of a version is handed over for cancellation (R16, R20, R127). DESIGN CHOICE
(log 31): the sites in ascending index. -/
def cancelAll (uid : Nat) (cause : CancelCause) (d : Device) : Device :=
  forSites (fun i d =>
    match d.record uid with
    | some v => if (v.at i).state.final then d else cancelDelivery i uid cause d
    | none => d) d

/-! ## Page start -/

/-- The first band of the first separation of a set (R118). -/
def firstCursor (seps : SepSet) : Option (Sep × Nat) := seps.list.head?.map fun s => (s, 0)

/-- The conditions of a page start but for the switch condition (R123). -/
def Site.startReady (st : Site) : Bool :=
  decide (st.win.link = .active) && !st.win.closing && st.q.current.isNone && st.q.control.isEmpty &&
    !st.q.queue.isEmpty && st.pace.gap.isNone && decide (st.win.count < Config.windowCapacity)

/-- A site's gate takes a value. -/
def setGate (i : SiteId) (g : Gate) (d : Device) : Device := d.onTgt i fun t => { t with gate := g }

/-- The switch of R82 for the page start of the queue head. -/
def switchCurves (i : SiteId) (a : Arm) (bypassed : Bool) (d : Device) : Device :=
  let st := d.site i
  let d := d.onTone i fun t => { t with active := t.pending, arm := none }
  match st.q.queue with
  | e :: _ =>
    d.event (.curvesSwitched i st.tone.active.stock st.tone.pending.stock a.gated bypassed e.ref.key e.ref.version)
  | [] => d

/-- The queue head becomes the current delivery (R123). -/
def takeHead (i : SiteId) (d : Device) : Device :=
  match (d.site i).q.queue with
  | e :: rest =>
    let c : Delivery :=
      { id := d.serial, ref := e.ref, cls := e.cls, seps := e.seps, cursor := firstCursor e.seps, sent := 0,
        pageEnd := false }
    ({ d with serial := d.serial + 1 }.onQueue i fun q => { q with queue := rest, current := some c }).onDelivery
      e.ref.uid i fun r => { r with state := .sending }
  | [] => d

/-- The site queue unit looks for a page start at a site (R123), with the switch condition of R81 and the gate's
answer of R112. -/
def lookPageStart (i : SiteId) (d : Device) : Device :=
  let st := d.site i
  if st.startReady then
    match st.tone.arm with
    | none => takeHead i d
    | some a =>
      if a.gated then
        if (st.target a.stock).ackedGen = (st.target a.stock).latestGen then
          takeHead i (switchCurves i a false (setGate i .idle d))
        else
          match st.tgt.gate with
          | .idle => setGate i (.wait (10 * st.cfg.gateTimeout)) d
          | .wait _ => d
          | .bypass => takeHead i (switchCurves i a true (setGate i .idle d))
      else takeHead i (switchCurves i a false d)
  else d

/-! ## Enqueue -/

/-- The order of the classes: REMAKE before REPLATE before FIRST (R115). -/
def DeliveryClass.rank : DeliveryClass → Nat
  | .remake => 0
  | .replate => 1
  | .first => 2

/-- An entry joins a queue behind every entry of its own and higher classes (R116). -/
def insertEntry (e : QueueEntry) : List QueueEntry → List QueueEntry
  | [] => [e]
  | x :: xs => if e.cls.rank < x.cls.rank then e :: x :: xs else x :: insertEntry e xs

/-- The site has a delivery of the position queued or current (R67). -/
def Site.hasPosition (st : Site) (pos : Position) : Bool :=
  st.q.queue.any (fun e => decide (e.ref.key.pos = pos)) ||
    match st.q.current with
    | some c => decide (c.ref.key.pos = pos)
    | none => false

/-- An enqueue at a site (R63, R116), after which the site queue unit looks for a page start (R123). -/
def enqueue (i : SiteId) (ref : PageRef) (cls : DeliveryClass) (seps : SepSet) (d : Device) : Device :=
  let e : QueueEntry := { ref := ref, cls := cls, seps := seps, order := d.orderCounter }
  let d := { d with orderCounter := d.orderCounter + 1 }.onQueue i fun q => { q with queue := insertEntry e q.queue }
  lookPageStart i (d.onDelivery ref.uid i fun r => { r with state := .queued, cause := none })

/-! ## The end of a delivery -/

/-- The PAGE_END rank of delivery `id` is acknowledged (R125). -/
def endDelivery (i : SiteId) (id : Nat) (d : Device) : Device :=
  match (d.site i).q.current with
  | some c =>
    if c.id = id then
      let late := match d.record c.ref.uid with
        | some v => (v.at i).late
        | none => false
      let d := d.onDelivery c.ref.uid i fun r => { r with state := .acked, cause := none }
      let d := d.onQueue i fun q => { q with current := none }
      deliveredCheck c.ref.uid (d.event (.siteDelivered i c.ref.key c.ref.version c.cls c.sent late))
    else d
  | none => d

/-- A HELLO with the restart flag restarts the current delivery (R119). -/
def Delivery.restart (c : Delivery) : Delivery := { c with cursor := firstCursor c.seps, sent := 0, pageEnd := false }

end Sys2Proof.Machine
end

