-- ==== Sys2Proof/Machine/Store.lean ====
section
/-!
DEFINITION. Store areas, free cells, reclaim, allocation and repair (R23, R24, R31, R32, R39, R40, R47, R48).
-/

namespace Sys2Proof.Machine

/-! ## Cells -/

/-- The cell is recorded in the band map of a present version (R31). -/
def Device.cellRecorded (d : Device) (cell : Nat) : Bool :=
  d.table.any fun v => v.entries.any fun e => decide (e.cell = cell)

/-- The cell is held by a band write in flight (R31). -/
def Device.cellHeld (d : Device) (cell : Nat) : Bool :=
  d.feed.buffers.toList.any fun b => match b with
    | .writing w => decide (w.cell = cell)
    | _ => false

/-- The cell is in the area's free set (R31). -/
def Device.cellFree (d : Device) (a : Area) (cell : Nat) : Bool :=
  a.enabled && decide (a.base ≤ cell) && decide (cell < a.base + a.length) && !d.cellRecorded cell && !d.cellHeld cell

/-- The first of `n` cells from `cell` on that meets the test. -/
def firstCell (test : Nat → Bool) : Nat → Nat → Option Nat
  | _, 0 => none
  | cell, n + 1 => if test cell then some cell else firstCell test (cell + 1) n

/-- The lowest-numbered cell of an area's free set (R39). -/
def Device.lowestFree (d : Device) (a : Area) : Option Nat := firstCell (d.cellFree a) a.base a.length

/-- The cells of an area's extent recorded in band maps (R35). -/
def Device.recordedIn (d : Device) (a : Area) : Nat :=
  (d.table.flatMap fun v => v.entries.filter fun e =>
    decide (a.base ≤ e.cell) && decide (e.cell < a.base + a.length)).length

/-- The cells of an area's extent held by band writes in flight (R35). -/
def Device.heldIn (d : Device) (a : Area) : Nat :=
  (d.feed.buffers.toList.filter fun b => match b with
    | .writing w => decide (a.base ≤ w.cell) && decide (w.cell < a.base + a.length)
    | _ => false).length

/-- The present versions that refer to an area (R33, R35). -/
def Device.referring (d : Device) (n : Fin 8) : Nat := (d.table.filter fun v => decide (v.area = n)).length

/-! ## Area resolution (R32) -/

/-- Area 0-6 number `n` takes edition `e` (R32). -/
def Area.takes (a : Area) (e : BitVec 4) : Bool := a.enabled && decide (e &&& a.mask = a.mtch &&& a.mask)

/-- The store area an edition resolves to (R32). -/
def Device.resolveArea (d : Device) (e : BitVec 4) : Option (Fin 8) :=
  match [0, 1, 2, 3, 4, 5, 6].find? fun n : Fin 8 => (entryOf d.base.areas n).takes e with
  | some n => some n
  | none => if (entryOf d.base.areas 7).enabled then some 7 else none

/-! ## Reclaim (R23, R24) -/

/-- The site has a delivery of the version queued or current (R23). -/
def Site.holds (st : Site) (uid : Nat) : Bool :=
  st.q.queue.any (fun e => decide (e.ref.uid = uid)) ||
    match st.q.current with
    | some c => decide (c.ref.uid = uid)
    | none => false

/-- A block of the version is in preparation (R23). -/
def Device.preparesVersion (d : Device) (uid : Nat) : Bool :=
  match d.builder.inFlight with
  | some p => match p.job.ref with
    | some r => decide (r.uid = uid)
    | none => false
  | none => false

/-- The version is reclaimable (R23). -/
def Device.reclaimable (d : Device) (v : PageVersion) : Bool :=
  decide (v.uid ∈ d.retained) &&
    (decide (v.state = .delivered) || decide (v.state = .superseded) || decide (v.state = .withdrawn)) &&
    !allSites.any (fun i => (d.site i).holds v.uid) && !d.preparesVersion v.uid

/-- The oldest retained version that is reclaimable and meets the test (R24). -/
def Device.candidate (d : Device) (test : PageVersion → Bool) : Option PageVersion :=
  d.retained.findSome? fun uid => (d.record uid).filter fun v => d.reclaimable v && test v

/-- The removal of a reclaimed version, with its event (R24); its cells are free because they are recorded no more. -/
def removeVersion (v : PageVersion) (cause : ReclaimCause) (d : Device) : Device :=
  { d with table := d.table.filter (fun x => decide (x.uid ≠ v.uid)),
           retained := d.retained.filter (fun u => decide (u ≠ v.uid)) }.event
    (.versionReclaimed v.key v.version v.state v.area v.entries.length cause)

/-! ## Allocation (R39) -/

/-- A reclaim with area scope, passing over the version `uid` (R24, R39). -/
def reclaimForArea (n : Fin 8) (uid : Nat) (d : Device) : Device :=
  match d.candidate fun v => decide (v.area = n) && !v.entries.isEmpty && decide (v.uid ≠ uid) with
  | some v => removeVersion v .area d
  | none => d

/-- Allocation in an area for version `uid`: the lowest free cell, after one reclaim when the free set is empty (R39).
The device answered has the reclaim made; the cell is held once the band write begins. -/
def allocate (n : Fin 8) (uid : Nat) (d : Device) : Device × Option Nat :=
  match d.lowestFree (entryOf d.base.areas n) with
  | some c => (d, some c)
  | none =>
    let d := reclaimForArea n uid d
    (d, d.lowestFree (entryOf d.base.areas n))

/-! ## Writes into the store -/

/-- A band's payload in its cell (R29): the write completes in the store, whatever follows. -/
def storePayload (cell : Nat) (payload : List Byte) (d : Device) : Device :=
  { d with store := writeBytes d.store (cellAddr cell) payload }

/-- BAND_REFUSED for a band write that is discarded at completion (R38, R44); none for one whose record DAY RESET
removed. -/
def refuseWrite (w : BandWrite) (d : Device) : Device :=
  if (d.record w.ref.uid).isSome then
    d.event (.bandRefused w.tag w.ref.key w.ref.version w.sep.val w.band .closed)
  else if w.dayReset then d
  else d.event (.bandRefused w.tag w.ref.key w.ref.version w.sep.val w.band .noPage)

/-! ## Repair (R47, R48) -/

/-- The delivery record at site `i` is enqueued again once no band of the version is faulty (R48). -/
def requeues (d : Device) (v : PageVersion) (i : SiteId) : Bool :=
  decide ((v.at i).state = .failed) && decide ((v.at i).cause = some .storeError) && !(d.site i).absent &&
    !(d.site i).hasPosition v.key.pos

/-- The repair re-queue of R48, with the number of deliveries enqueued. -/
def repairRequeue (uid : Nat) (d : Device) : Device × Nat :=
  allSites.foldl (fun (p : Device × Nat) i =>
    match p.1.record uid with
    | some v =>
      if v.faulty = 0 ∧ requeues p.1 v i then (enqueue i v.ref .replate v.seps p.1, p.2 + 1) else p
    | none => p) (d, 0)

/-- A preparation in flight is reading the entry's current cell (R47). -/
def Device.reading (d : Device) (w : BandWrite) : Bool :=
  match d.builder.inFlight, (d.record w.ref.uid).bind (·.entry w.sep w.band) with
  | some p, some e => match p.job with
    | .plate j => decide (j.ref.uid = w.ref.uid) && decide (j.sep = w.sep) && decide (j.band = w.band) &&
        decide (j.cell = e.cell)
    | _ => false
  | _, _ => false

/-- A repair write is completed: recorded with the re-queue and BAND_REPAIRED of R48, or discarded (R44, R47). The
buffer is handed back. -/
def finishRepair (b : Fin 4) (w : BandWrite) (d : Device) : Device :=
  let d := (storePayload w.cell w.payload d).onBuffer b .free
  match d.record w.ref.uid with
  | some v =>
    if v.out then
      let d := d.onRecord v.uid fun v => v.withEntry w.sep w.band { cell := w.cell, crc := w.crc, fault := false }
      let q := repairRequeue v.uid d
      let left := match q.1.record v.uid with
        | some v => v.faulty
        | none => 0
      q.1.event (.bandRepaired v.key v.version w.sep.val w.band left q.2)
    else refuseWrite w d
  | none => refuseWrite w d

/-- The repair writes that ended during a read which has now ended are completed (R47), in buffer order (log 23). -/
def finishEnded (d : Device) : Device :=
  allFour.foldl (fun d b =>
    match entryOf d.feed.buffers b with
    | .writing w => if w.repair ∧ w.ended ∧ ¬ d.reading w then finishRepair b w d else d
    | _ => d) d

end Sys2Proof.Machine
end

