-- ==== Sys2Proof/Machine/Tone.lean ====
section
/-!
DEFINITION. The tone engine's computation (R85 to R88) and the compensation of a band's runs (R29, R90, R95).
-/

namespace Sys2Proof.Machine

/-- Knot `j` of a curve (R76). -/
def knot (k : Curve) (j : Nat) : Nat := (k[j]?).getD 0

/-- The segment of a tone value (R85). -/
def segment (v : Nat) : Nat := min (v / 16) 15

/-- The width of a segment (R85). -/
def segmentWidth (j : Nat) : Nat := if j = 15 then 15 else 16

/-- The interpolation of R86, in sixteenths of a tone step. -/
def interpolate (c : Curve) (v : Nat) : Nat :=
  let j := segment v
  let w := segmentWidth j
  let off := v - 16 * j
  knot c j + (2 * (knot c (j + 1) - knot c j) * off + w) / (2 * w)

/-- The gain stage of R87. -/
def applyGain (y g : Nat) : Nat := min ((y * g + 128) / 256) 4080

/-- The conversion to tone steps of R87. -/
def toTone (z : Nat) : Nat := (z + 8) / 16

/-- The holds of R88: the output, and whether line 3 or line 4 gave it (R90). -/
def applyHolds (v t minDot maxDot : Nat) (solidHold : Bool) : Nat × Bool :=
  if v = 0 then (0, false)
  else if v = 255 ∧ solidHold then (255, false)
  else if t < minDot then (minDot, true)
  else if v ≤ 254 ∧ maxDot < t then (maxDot, true)
  else (t, false)

/-- The computation of section 4.5 for one tone value. -/
def compensate (c : Curve) (gain minDot maxDot : Nat) (solidHold : Bool) (v : Nat) : Nat × Bool :=
  applyHolds v (toTone (applyGain (interpolate c v) gain)) minDot maxDot solidHold

/-- The runs of a band cell: taken from its start until their pixel counts reach the band's (R29). A run is its count
byte and its tone byte. -/
def takeRuns (m : Memory) : Nat → Nat → Nat → List (Byte × Byte)
  | 0, _, _ => []
  | n + 1, a, pixels =>
    if pixels = 0 then []
    else
      let count := memRead m a
      (count, memRead m (a + 1)) :: takeRuns m n (a + 2) (pixels - (count.toNat + 1))

/-- The most runs a cell holds (R37, check 6). -/
def maxRuns : Nat := 16384

/-- The output of a job's curve and settings for one tone value. -/
def PlateJob.tone (j : PlateJob) (v : Nat) : Nat × Bool := compensate j.curve j.gain j.minDot j.maxDot j.solidHold v

/-- The compensated payload of a PLATE block (R95): each run keeps its count. -/
def PlateJob.payload (j : PlateJob) (m : Memory) : List Byte :=
  (takeRuns m maxRuns (cellAddr j.cell) j.pixels).flatMap fun r => [r.1, byteN (j.tone r.2.toNat).1]

/-- The runs changed by the dot limits (R90). -/
def PlateJob.clamps (j : PlateJob) (m : Memory) : Nat :=
  ((takeRuns m maxRuns (cellAddr j.cell) j.pixels).filter fun r => (j.tone r.2.toNat).2).length

end Sys2Proof.Machine
end

