-- ==== Sys2Proof/Machine/Builder.lean ====
section
/-!
DEFINITION. The block builder (section 4.7): requests and grants (R91 to R93), completion (R95 to R97), uncorrectable
reads and STORE_ERROR (R49, R98, R129), and the contents of PLATE and PAGE_END blocks (R118, R124, R209, R210).
-/

namespace Sys2Proof.Machine

/-! ## The next new block (R122) -/

/-- The header identity of a delivery's block (R209). -/
def deliveryIdent (c : Delivery) (v : PageVersion) : Ident :=
  { Ident.zero with
    cls := c.cls.code, edition := byteN v.key.pos.edition, sect := byteN v.key.pos.sect,
    page := byteN v.key.pos.page, zone := byteN v.key.zone, version := byteN v.version, sepSet := c.seps.setWidth 8,
    bandCount := byteN v.bandCount, width := BitVec.ofNat 16 v.width, height := BitVec.ofNat 16 v.height }

/-- The approved-at bytes of a PAGE_END payload with their present byte; an absent one's value is free (log 9). -/
def approvedAtBytes (t : Option Nat) (n : Nat) : List Byte :=
  match t with
  | some c => 1 :: wordN c
  | none => 0 :: wordBytes (Config.absentTime n)

/-- The payload of a PAGE_END block (R124, R210); `n` numbers the reading of a free value. -/
def pageEndPayload (c : Delivery) (v : PageVersion) (n : Nat) : List Byte :=
  [c.seps.setWidth 8, c.cls.code, byteN v.bandCount] ++ halfN (v.bandCount * c.seps.list.length) ++
    wordBytes c.sent ++ [byteN (v.approval.elim 0 (·.station))] ++ approvedAtBytes (v.approval.bind (·.approvedAt)) n

/-- The PLATE job of band (sep, band) of a current delivery, with what a grant fixes (R93). -/
def plateJob (st : Site) (c : Delivery) (v : PageVersion) (sep : Sep) (band : Nat) (e : BandEntry) : PlateJob :=
  { delivery := c.id, ref := c.ref, sep, band, cell := e.cell, pixels := v.pixels band,
    curve := entryOf st.tone.active.curves sep, gain := entryOf st.cfg.gains sep, minDot := st.cfg.minDot,
    maxDot := st.cfg.maxDot, solidHold := st.cfg.solidHold,
    ident := { deliveryIdent c v with sep := byteN sep.val, band := byteN band, lines := byteN (v.lines band) } }

/-- The site's next new block as it stands (R122), as the job a grant would fix. -/
def Device.nextJob (d : Device) (i : SiteId) : Option Job :=
  let st := d.site i
  match st.q.control with
  | e :: _ => some (.control e)
  | [] =>
    match st.q.current with
    | none => none
    | some c =>
      match d.record c.ref.uid with
      | none => none
      | some v =>
        match c.cursor with
        | some (sep, band) => (v.entry sep band).map fun e => .plate (plateJob st c v sep band e)
        | none => if c.pageEnd then none else some (.pageEnd c.id c.ref (deliveryIdent c v) (pageEndPayload c v d.free))

/-- The site requests preparation (R91). -/
def Device.requests (d : Device) (i : SiteId) : Bool :=
  let st := d.site i
  (d.nextJob i).isSome && decide (st.win.count < Config.windowCapacity) && st.win.prepared.isNone && !d.preparing i &&
    (decide (st.win.link = .active) || decide (st.win.link = .linkLost)) && !st.win.closing

/-! ## Grants (R92, R93) -/

/-- The sites in ascending index after `last`, going round from 7 to 0 (R92, R168). -/
def roundAfter (last : SiteId) : List SiteId :=
  allSites.filter (fun i => decide (last < i)) ++ allSites.filter (fun i => decide (i ≤ last))

/-- The sixteen slot numbers of a site in ascending order (R30). -/
def allSlots : List (Fin 16) := [0, 1, 2, 3, 4, 5, 6, 7, 8, 9, 10, 11, 12, 13, 14, 15]

/-- The slot is in use (R30): named by a rank, by the prepared block or by the preparation in flight. -/
def Device.slotUsed (d : Device) (i : SiteId) (k : Fin 16) : Bool :=
  (d.site i).win.ranks.any (fun r => decide (r.block.slot = some k)) ||
    (match (d.site i).win.prepared with
      | some b => decide (b.slot = some k)
      | none => false) ||
    match d.builder.inFlight with
    | some p => decide (p.site = i) && decide (p.slot = k)
    | none => false

/-- The lowest-numbered free slot of a site (R30, R93). -/
def Device.freeSlot (d : Device) (i : SiteId) : Option (Fin 16) := allSlots.find? fun k => !d.slotUsed i k

/-- A PLATE job's band entry carries the fault flag (R49). -/
def Device.jobFaulty (d : Device) (job : Job) : Bool :=
  match job with
  | .plate j => match (d.record j.ref.uid).bind (·.entry j.sep j.band) with
    | some e => e.fault
    | none => false
  | _ => false

/-- STORE_ERROR is raised at a site by an uncorrectable read (R98), and its action fails the delivery (R129). -/
def storeErrorAt (i : SiteId) (j : PlateJob) (d : Device) : Device :=
  let acts := decide (outcomeOf (d.site i) .storeError = .action)
  let d := raise i (.storeError j.ref.key j.ref.version j.sep j.band) d
  if acts then
    match (d.site i).q.current with
    | some c => if c.id = j.delivery then cancelCurrent i c .storeError d else d
    | none => d
  else d

/-- A grant of a job to a site (R93); a read of an entry that carries the fault flag ends at once (R49, R98). -/
def grant (i : SiteId) (slot : Fin 16) (job : Job) (d : Device) : Device :=
  let d := { d with builder := { d.builder with last := i }, free := d.free + 1 }
  match job with
  | .plate j =>
    if d.jobFaulty job then storeErrorAt i j d
    else { d with builder := { d.builder with inFlight := some { site := i, slot := slot, job := job, discard := false } } }
  | _ => { d with builder := { d.builder with inFlight := some { site := i, slot := slot, job := job, discard := false } } }

/-- The block builder grants while it is idle and a site requests (R92). A grant that ends at once leaves it idle, and
the site then is HALTED or has a control block to offer, so nine rounds are enough for the eight sites. -/
def grantRounds : Nat → Device → Device
  | 0, d => d
  | n + 1, d =>
    match d.builder.inFlight with
    | some _ => d
    | none =>
      match (roundAfter d.builder.last).find? d.requests with
      | none => d
      | some i =>
        match d.freeSlot i, d.nextJob i with
        | some slot, some job => grantRounds n (grant i slot job d)
        | _, _ => d

/-- The block builder is asked. -/
def askBuilder (d : Device) : Device := grantRounds 9 d

/-! ## Completion (R95 to R97) -/

/-- The next band of a delivery's separation set after (sep, band); at end after the last (R118). -/
def nextCursor (seps : SepSet) (bandCount : Nat) (sep : Sep) (band : Nat) : Option (Sep × Nat) :=
  if band + 1 < bandCount then some (sep, band + 1)
  else (seps.list.find? fun s => decide (sep < s)).map fun s => (s, 0)

/-- A block is left prepared in its slot (R95, R96): the payload in the resend region, the block in the window. -/
def leavePrepared (i : SiteId) (slot : Fin 16) (kind : BlockKind) (delivery : Option Nat) (ident : Ident)
    (target : Option (Stock × Byte)) (payload : List Byte) (d : Device) : Device :=
  (storePayload (slotCell i slot) payload d).onWin i fun w =>
    { w with prepared := some ({
        kind := kind, slot := some slot, delivery := delivery, ident := { ident with crc := crc32 payload },
        target := target, size := Config.headerBytes + payload.length } : Block) }

/-- The current delivery after one of its PLATE blocks has been prepared (R95, R118). -/
def Delivery.plateDone (c : Delivery) (bandCount : Nat) (j : PlateJob) (crc : Word) : Delivery :=
  { c with sent := c.sent + crc, cursor := nextCursor c.seps bandCount j.sep j.band }

/-- The completion of a PLATE preparation whose mark is clear (R90, R95). -/
def completePlate (i : SiteId) (slot : Fin 16) (j : PlateJob) (d : Device) : Device :=
  let payload := j.payload d.store
  let clamps := j.clamps d.store
  let n := match d.record j.ref.uid with
    | some v => v.bandCount
    | none => 0
  let d := leavePrepared i slot .plate (some j.delivery) j.ident none payload d
  let d := d.onQueue i fun q => { q with current := q.current.map fun c => c.plateDone n j (crc32 payload) }
  d.onTone i fun t => { t with clampCount := min (t.clampCount + clamps) 65535 }

/-- The completion of a PAGE_END preparation whose mark is clear (R96, R124). -/
def completePageEnd (i : SiteId) (slot : Fin 16) (id : Nat) (ident : Ident) (payload : List Byte) (d : Device) :
    Device :=
  (leavePrepared i slot .pageEnd (some id) ident none payload d).onQueue i fun q =>
    { q with current := q.current.map fun c => { c with pageEnd := true } }

/-- The completion of a control block's preparation whose mark is clear (R96, R108, R120, R123). -/
def completeControl (i : SiteId) (slot : Fin 16) (e : ControlEntry) (d : Device) : Device :=
  let d := leavePrepared i slot e.kind none e.ident e.target? e.payload d
  let d := d.onQueue i fun q => { q with control := q.control.tail }
  lookPageStart i (postOwed i d)

/-- The builder becomes idle; its slot is free unless a block was left prepared in it (R97). -/
def Device.builderIdle (d : Device) : Device := { d with builder := { d.builder with inFlight := none } }

/-- The preparation in flight completes (R95 to R97). -/
def completePreparation (p : Preparation) (d : Device) : Device :=
  let d := d.builderIdle
  if p.discard then d
  else
    match p.job with
    | .plate j => completePlate p.site p.slot j d
    | .pageEnd id _ ident payload => completePageEnd p.site p.slot id ident payload d
    | .control e => completeControl p.site p.slot e d

/-- The fault flag of the band a job read is set, if the entry still records the cell read (R49). -/
def markFault (j : PlateJob) (d : Device) : Device :=
  d.onRecord j.ref.uid fun v =>
    match v.entry j.sep j.band with
    | some e => if e.cell = j.cell then v.withEntry j.sep j.band { e with fault := true } else v
    | none => v

/-- The read of a PLATE preparation in flight is uncorrectable (R49, R98). -/
def failRead (p : Preparation) (j : PlateJob) (d : Device) : Device :=
  let d := markFault j d.builderIdle
  if p.discard then d else storeErrorAt p.site j d

end Sys2Proof.Machine
end

