-- ==== Sys2Proof/Machine/Ports.lean ====
section
/-!
DEFINITION. Site ports, pacing and link quality (chapter 8): what a window offers (R140), eligibility and grants (R167,
R168), the beginning and end of a transmission (R139, R169, R170, R50, R176), period ends (R161, R164, R165), the end
of a closing site (R156), and the asking of the builder and the ports at the end of a step.
-/

namespace Sys2Proof.Machine

/-! ## Offers and eligibility -/

/-- What a window offers (R140): the rank at an index from rank 1 on, for resend, or the prepared block. -/
inductive Offer where
  | resend (index : Nat)
  | fresh (b : Block)
deriving DecidableEq, Repr

/-- The offer of a window by its link state (R140). -/
def Window.offer (w : Window) : Option Offer :=
  match w.link with
  | .active =>
    match w.ranks.findIdx? (·.pending) with
    | some k => some (.resend k)
    | none => w.prepared.map .fresh
  | .linkLost =>
    match w.ranks with
    | r :: _ => if r.pending then some (.resend 0) else none
    | [] => none
  | .disabled => none
  | .waiting => none
  | .halted => none

/-- The site is eligible on its port (R167). -/
def Device.eligible (d : Device) (i : SiteId) : Bool :=
  let st := d.site i
  st.win.offer.isSome && !st.win.closing && !st.paused && !d.base.quiesced && decide (0 < st.pace.credit) &&
    !d.transmitting i

/-! ## The beginning of a transmission (R169) -/

/-- The rank that an offer makes the transmission of, as it stands once taken (R139, R140). -/
def Window.offered (w : Window) : Offer → Option Rank
  | .fresh b => some { seq := w.nextSeq, block := b, pending := false }
  | .resend k => (w.ranks[k]?).map fun r => { r with pending := false }

/-- The window once an offer is taken (R139, R140). -/
def Window.taken (w : Window) : Offer → Window
  | .fresh b =>
    { w with ranks := w.ranks ++ [{ seq := w.nextSeq, block := b, pending := false }], nextSeq := w.nextSeq + 1,
             prepared := none }
  | .resend k => { w with ranks := w.ranks.modify k fun r => { r with pending := false } }

/-- The ack timer at the beginning of a transmission (R145, R146): started when the rank joins an empty window, and
at a resend in ACTIVE, but for a timer held after an expiry, which waits for the resend of rank 1. `before` is the
window as the grant found it. -/
def ackAtStart (i : SiteId) (before : Window) (o : Offer) (d : Device) : Device :=
  match o with
  | .fresh _ => if before.ranks.isEmpty then startAck i d else d
  | .resend k =>
    if before.link = .active ∧ (k = 0 ∨ before.ackTimer ≠ .held) then startAck i d else d

/-- The gauge's counts at the beginning of a transmission (R176). -/
def Pacer.counted (p : Pacer) (o : Offer) : Pacer :=
  match o with
  | .resend _ => { p with resendCount := min (p.resendCount + 1) 65535 }
  | .fresh b => if b.kind = .plate then { p with refCount := p.refCount + 1 } else p

/-- The degrade level at the end of a gauge window (R176). -/
def levelAfter (level resends high low : Nat) : Nat :=
  if high ≤ resends then min (level + 1) 3 else if resends ≤ low then level - 1 else level

/-- The end of a gauge window, once its reference count is 64 (R176). -/
def gaugeEnd (i : SiteId) (d : Device) : Device :=
  let st := d.site i
  if 64 ≤ st.pace.refCount then
    let level := levelAfter st.pace.level st.pace.resendCount st.cfg.highMark st.cfg.lowMark
    let d := d.onPace i fun p => { p with level := level, refCount := 0, resendCount := 0 }
    if level = st.pace.level then d else d.event (.degradeChanged i st.pace.level level st.pace.resendCount)
  else d

/-- The port reads the rank's slot, forms the header and begins to send (R139, R50). A reading that meets an
uncorrectable error sends SLOT_ERROR and the bytes as read; which readings do, and what they give, is free (log 8). -/
def sendRank (p : PortId) (i : SiteId) (r : Rank) (d : Device) : Device :=
  let code := (d.site i).cfg.code
  match r.block.slot with
  | none =>
    d.onPort p fun x =>
      { x with last := i, tx := some { site := i, kind := r.block.kind,
                                       header := headerOf r.block.kind r.seq code r.block.ident 0, payload := [] } }
  | some k =>
    let n := d.free
    let size := r.block.size - Config.headerBytes
    let stored := readBytes d.store (cellAddr (slotCell i k)) size
    let payload := if Config.slotFails n then (List.range size).map (Config.slotByte n) else stored
    ({ d with free := n + 1 }.eventIf (Config.slotFails n) (.slotError i k r.seq)).onPort p fun x =>
      { x with last := i, tx := some { site := i, kind := r.block.kind,
                                       header := headerOf r.block.kind r.seq code r.block.ident size,
                                       payload := payload } }

/-- A transmission of the offer of site `i` begins on port `p` (R169), in the order of that rule. -/
def beginTransmission (p : PortId) (i : SiteId) (o : Offer) (d : Device) : Device :=
  let before := (d.site i).win
  match before.offered o with
  | none => d
  | some r =>
    let d := d.onWin i fun w => w.taken o
    let d := d.onPace i fun pc => { pc with credit := pc.credit - (r.block.size : Int) }
    let d := gaugeEnd i (d.onPace i fun pc => pc.counted o)
    sendRank p i r (ackAtStart i before o d)

/-! ## The port arbiters (R168) -/

/-- The eligible site of port `p` that comes next in the round (R168). -/
def Device.nextGranted (d : Device) (p : PortId) : Option SiteId :=
  (roundAfter (d.port p).last).find? fun i => decide ((d.site i).cfg.port = p) && d.eligible i

/-- The arbiter of a port is asked (R168). -/
def askPort (p : PortId) (d : Device) : Device :=
  match (d.port p).tx with
  | some _ => d
  | none =>
    match d.nextGranted p with
    | none => d
    | some i =>
      match (d.site i).win.offer with
      | some o => beginTransmission p i o d
      | none => d

/-- The builder and the four ports are asked, at the end of a step. DESIGN CHOICE (log 6): the builder, the ports in
ascending number, and the builder again for the sites whose prepared block a port has taken. -/
def arbitrate (d : Device) : Device := askBuilder (forPorts askPort (askBuilder d))

/-! ## Period ends -/

/-- The effective allotment of an active allotment and a degrade level (R164). -/
def effective (allotment level : Nat) : Nat := max (allotment / 2 ^ level) (min allotment 2048)

/-- The period-end processing of one site (R165). -/
def refill (st : Site) : Site :=
  let active := st.pace.staged.getD st.pace.active
  let e := effective active st.pace.level
  let credit :=
    if st.absent then min st.pace.credit (e : Int) else min (st.pace.credit + (e : Int)) (e : Int)
  { st with pace := { st.pace with active := active, staged := none, eCur := e, credit := credit } }

/-- The period of port `p` ends (R161, R165). -/
def endPeriod (p : PortId) (d : Device) : Device :=
  let d := d.onPort p fun x =>
    let active := x.staged.getD x.active
    { x with active := active, staged := none, remaining := active }
  forSites (fun i d => d.onSite i fun st => if st.cfg.port = p then refill st else st) d

/-! ## The end of a transmission -/

/-- A site becomes DISABLED (R156): window emptied, next seq and retry count 0, timers stopped, credit 0, its halt
record emptied (R189), a preparation in flight marked. -/
def becomeDisabled (i : SiteId) (d : Device) : Device :=
  (d.markSite i).onSite i fun st =>
    { st with win := Window.reset, pace := { st.pace with credit := 0 }, halt := none }

/-- The gap timer is started with the gap length, unless that is 0 (R174). -/
def Pacer.startGap (p : Pacer) (gapLength : Nat) : Pacer := if gapLength = 0 then p else { p with gap := some gapLength }

/-- The flow mode gives a gap after a page (section 8.7). -/
def FlowMode.hasGap : FlowMode → Bool
  | .gap => true
  | .gapObey => true
  | .obey => false
  | .ignore => false

/-- The transmission `t` of port `p` has ended (R170), but for the asking of the arbiter. -/
def endTransmission (p : PortId) (t : Transmission) (d : Device) : Device :=
  let d := d.onPort p fun x => { x with tx := none }
  let d :=
    if t.kind = .pageEnd ∧ (d.site t.site).cfg.flow.hasGap then
      d.onSite t.site fun st => { st with pace := st.pace.startGap st.cfg.gapLength }
    else d
  if (d.site t.site).win.closing then becomeDisabled t.site d else d

end Sys2Proof.Machine
end

