-- ==== Sys2Proof/Machine/Window.lean ====
section
/-!
DEFINITION. Return frames at the site ports (chapter 7): demultiplexing (R151, R152), recovery (R150), ACK and MISS
(R141 to R143), PAUSE and RESUME (R172), HELLO (R153 to R155) and REMAKE (R130, R131).
-/

namespace Sys2Proof.Machine

/-! ## Demultiplexing -/

/-- The site mapped to port `p` whose code is `code` (R151). -/
def Device.siteOn (d : Device) (p : PortId) (code : Half) : Option SiteId :=
  allSites.find? fun i => decide ((d.site i).cfg.port = p) && decide ((d.site i).cfg.code = code)

/-- The site mapped to a port other than `p` whose code is `code` (R152). -/
def Device.siteOff (d : Device) (p : PortId) (code : Half) : Option SiteId :=
  allSites.find? fun i => decide ((d.site i).cfg.port ≠ p) && decide ((d.site i).cfg.code = code)

/-- The site is ACTIVE, LINK_LOST or HALTED and not closing: it takes return frames (R151, R156). -/
def Site.takesFrames (st : Site) : Bool := !st.absent && decide (st.win.link ≠ .waiting)

/-- The recovery of a site from LINK_LOST (R150). -/
def recover (i : SiteId) (cause : LinkCause) (d : Device) : Device :=
  let d := d.onWin i fun w => { w with link := .active, retry := 0, probeTimer := none }
  syncTimers i (d.event (.siteLink i .linkLost .active cause))

/-- A frame taken for a site (R151): a LINK_LOST site is recovered first, and the frame is then taken as its own rule
gives it, after which the site queue unit looks for a page start (R123). -/
def takeFrame (act : SiteId → Device → Device) (i : SiteId) (d : Device) : Device :=
  if (d.site i).takesFrames then
    let d := if (d.site i).win.link = .linkLost then recover i .returnFrame d else d
    arbitrate (lookPageStart i (syncTimers i (act i d)))
  else d

/-- A return frame other than HELLO that arrives whole on a port (R151, R203). -/
def takeReturn (kind : Byte) (len : Nat) (p : PortId) (f : ReturnFrame) (act : SiteId → Device → Device)
    (d : Device) : Device :=
  if returnPasses f kind len then
    match d.siteOn p f.code with
    | some i => takeFrame act i d
    | none => d
  else d

/-! ## ACK and MISS -/

/-- The 16-bit number an ACK or MISS names (R211). -/
def returnNumber (f : ReturnFrame) : Half :=
  match f.fields with
  | a :: b :: _ => a ++ b
  | _ => 0

/-- The sequence number of rank 1, or next seq of an empty window (R141). -/
def Window.first (w : Window) : Half :=
  match w.ranks with
  | r :: _ => r.seq
  | [] => w.nextSeq

/-- The distance of a number from rank 1 (R141). -/
def Window.distance (w : Window) (n : Half) : Nat := (n - w.first).toNat

/-- One removed rank is handed to its neighbour (R142). -/
def handOn (i : SiteId) (r : Rank) (d : Device) : Device :=
  match r.block.kind, r.block.target, r.block.delivery with
  | .target, some (k, gen), _ => applyTarget i k gen d
  | .pageEnd, _, some id => endDelivery i id d
  | _, _, _ => d

/-- The first `n` ranks leave the window by an ACK and are handed on, oldest first; then the retry count and the ack
timer are set (R141, R142). -/
def removeRanks (i : SiteId) (n : Nat) (d : Device) : Device :=
  let gone := (d.site i).win.ranks.take n
  let d := d.onWin i fun w => { w with ranks := w.ranks.drop n }
  let d := gone.foldl (fun d r => handOn i r d) d
  startAck i (d.onWin i fun w => { w with retry := 0 })

/-- ACK_RANGE is raised by a frame of kind `kind` that names `n` (R141, R143). -/
def raiseAckRange (i : SiteId) (kind : Byte) (n : Half) (d : Device) : Device :=
  raise i (.ackRange kind n (d.site i).win.first (d.site i).win.ranks.length) d

/-- An ACK taken for a site (R141). -/
def takeAck (n : Half) (i : SiteId) (d : Device) : Device :=
  let w := (d.site i).win
  if w.distance n < w.ranks.length then removeRanks i (w.distance n + 1) d
  else if 32768 ≤ w.distance n then d
  else raiseAckRange i 0x01 n d

/-- A MISS taken for a site (R143). -/
def takeMiss (n : Half) (i : SiteId) (d : Device) : Device :=
  let w := (d.site i).win
  if w.distance n < w.ranks.length then
    d.onWin i fun w => { w with ranks := w.ranks.modify (w.distance n) fun r => { r with pending := true } }
  else if 32768 ≤ w.distance n then d
  else raiseAckRange i 0x02 n d

/-! ## PAUSE and RESUME -/

/-- The flow mode obeys PAUSE and RESUME (section 8.7). -/
def FlowMode.obeys : FlowMode → Bool
  | .obey => true
  | .gapObey => true
  | .ignore => false
  | .gap => false

/-- A PAUSE or RESUME that reaches the pacer (R172). -/
def setReady (ready : Bool) (i : SiteId) (d : Device) : Device :=
  d.onSite i fun st => if st.cfg.flow.obeys then { st with pace := { st.pace with ready := ready } } else st

/-! ## HELLO -/

/-- The window emptied with nothing handed on, next seq and retry count 0, timers stopped (R153, R154, R157). -/
def Window.emptied (w : Window) : Window :=
  { w with ranks := [], nextSeq := 0, prepared := none, ackTimer := .stopped, probeTimer := none, retry := 0 }

/-- The restart flag of a HELLO (R203, R211). -/
def returnRestart (f : ReturnFrame) : Bool :=
  match f.fields with
  | b :: _ => optionFlag b 0
  | [] => false

/-- The SITE_LINK cause of a HELLO (R153). -/
def helloCause (restart : Bool) : LinkCause := if restart then .helloRestart else .hello

/-- A HELLO at a WAITING site (R153, R172). -/
def helloWaiting (restart : Bool) (i : SiteId) (d : Device) : Device :=
  let d := d.onSite i fun st =>
    { st with win := { st.win.emptied with link := .active }, pace := { st.pace with ready := true } }
  d.event (.siteLink i .waiting .active (helloCause restart))

/-- A restarting HELLO at a site that is ACTIVE, LINK_LOST or HALTED (R154, R119, R172, R182). -/
def helloRestart (i : SiteId) (d : Device) : Device :=
  let before := (d.site i).win.link
  let after := if before = .halted then LinkState.halted else .active
  let d := (d.markSite i).onSite i fun st =>
    { st with
      win := { st.win.emptied with link := after }
      pace := { st.pace with ready := true }
      halt := st.halt.map fun h => { h with resume := .active }
      q := { st.q with current := st.q.current.map Delivery.restart } }
  oweUnacknowledged i (d.event (.siteLink i before after .helloRestart))

/-- A HELLO with the restart flag clear at a site that is ACTIVE, LINK_LOST or HALTED (R155, R150, R172). DESIGN CHOICE
(log 34): the one that recovers a LINK_LOST site sets the ready flag too. -/
def helloAgain (i : SiteId) (d : Device) : Device :=
  if (d.site i).win.link = .linkLost then
    recover i .hello (d.onPace i fun p => { p with ready := true })
  else d

/-- A HELLO taken for a site (R151, R153 to R155), after which a page start is looked for. -/
def takeHello (restart : Bool) (i : SiteId) (d : Device) : Device :=
  if (d.site i).absent then d
  else
    let d :=
      if (d.site i).win.link = .waiting then helloWaiting restart i d
      else if restart then helloRestart i d
      else helloAgain i d
    arbitrate (lookPageStart i (syncTimers i d))

/-- A HELLO whose code no site mapped to the port has (R152). -/
def strayHello (p : PortId) (code : Half) (d : Device) : Device :=
  match d.siteOff p code with
  | some i => raise i (.portMismatch p (d.site i).cfg.port) d
  | none => d

/-! ## REMAKE -/

/-- The position a REMAKE frame names and its separation set (R203, R211). -/
def returnRemake (f : ReturnFrame) : Position × SepSet :=
  match f.fields with
  | e :: s :: pg :: seps :: _ => ({ edition := e.toNat, sect := s.toNat, page := pg.toNat }, seps.setWidth 4)
  | _ => ({ edition := 0, sect := 0, page := 0 }, 0)

/-- The site's plan entry for an edition (R56). -/
def Device.planEntry (d : Device) (i : SiteId) (edition : Nat) : Option Nat :=
  match planIndex edition with
  | some e => entryOf (entryOf d.base.plans e).entries i
  | none => none

/-- The record of the higher version of two. -/
def higher (best : Option PageVersion) (v : PageVersion) : Option PageVersion :=
  match best with
  | some b => if b.version < v.version then some v else some b
  | none => some v

/-- The highest version among the records that meet the test. -/
def Device.highest (d : Device) (test : PageVersion → Bool) : Option PageVersion :=
  (d.table.filter test).foldl higher none

/-- The highest live version of a key (R130). -/
def Device.highestLive (d : Device) (key : PageKey) : Option PageVersion :=
  d.highest fun v => decide (v.key = key) && v.live

/-- The effective version of a position at a site (R130). -/
def Device.effectiveVersion (d : Device) (i : SiteId) (pos : Position) : Option PageVersion :=
  if placeInRange pos.sect pos.page then
    match d.highestLive { pos := pos, zone := (d.planEntry i pos.edition).getD 0 } with
    | some v => some v
    | none => d.highestLive { pos := pos, zone := 0 }
  else none

/-- The separation set of a remake: the frame's within the version's, or the version's when that is empty (R131). -/
def remakeSeps (asked seps : SepSet) : SepSet := if asked &&& seps = 0 then seps else asked &&& seps

/-- A remake that cannot be served (R131). -/
def remakeUnavailable (i : SiteId) (pos : Position) (reason : NotAvailReason) (d : Device) : Device :=
  let dropped := !(d.site i).controlRoom
  (postNotAvail i pos reason d).event (.remakeUnavailable i pos reason dropped)

/-- A REMAKE taken for a site (R131). -/
def takeRemake (pos : Position) (asked : SepSet) (i : SiteId) (d : Device) : Device :=
  if (d.site i).hasPosition pos then d.event (.remakeTaken i pos none 0 true)
  else
    match d.effectiveVersion i pos with
    | none => remakeUnavailable i pos .noVersion d
    | some v =>
      if v.out then
        if (v.at i).state = .acked then
          let seps := remakeSeps asked v.seps
          (enqueue i v.ref .remake seps d).event (.remakeTaken i pos (some (v.version, v.key.zone)) seps false)
        else remakeUnavailable i pos .notReceived d
      else remakeUnavailable i pos .notReleased d

end Sys2Proof.Machine
end

