-- ==== Sys2Proof/Machine/Release.lean ====
section
/-!
DEFINITION. The release unit (chapter 3): reached times (R54), the release condition (R60), target sets (R65, R66),
supersede (R16), displacement (R67), release (R15, R62), the evaluations of R61, late pages (R73, R74), recall (R21)
and zone revert (R69, R70).
-/

namespace Sys2Proof.Machine

/-! ## The release condition -/

/-- A time of night is reached (R54). -/
def Clock.reached (c : Clock) (t : Nat) : Bool :=
  !c.unset && decide ((c.count + Config.dayUnits - t) % Config.dayUnits < Config.horizon)

/-- The edition's held flag (R56). -/
def Device.held (d : Device) (edition : Nat) : Bool :=
  match planIndex edition with
  | some e => (entryOf d.base.plans e).held
  | none => false

/-- The release condition of a version (R60). -/
def Device.releasable (d : Device) (v : PageVersion) : Bool :=
  decide (v.state = .approved) && !d.held v.key.pos.edition &&
    match v.releaseAt with
    | some t => d.base.clock.reached t
    | none => true

/-! ## Target sets -/

/-- A live version of the position with zone `p` is present: it blocks the common version there (R66). -/
def Device.blocks (d : Device) (pos : Position) (p : Nat) : Bool :=
  d.table.any fun v => decide (v.key = { pos := pos, zone := p }) && v.live

/-- Site `i` is in the target set of a version with key `key` (R65). -/
def Device.targets (d : Device) (key : PageKey) (i : SiteId) : Bool :=
  !(d.site i).absent &&
    match d.planEntry i key.pos.edition with
    | none => false
    | some p =>
      if key.zone ≠ 0 then decide (p = key.zone) else decide (p = 0) || !d.blocks key.pos p

/-! ## Release -/

/-- One version is superseded by version `byVersion` of its key (R16). -/
def supersedeOne (byVersion : Nat) (v : PageVersion) (d : Device) : Device :=
  let d := retain v.uid (d.onRecord v.uid fun x => { x with state := .superseded })
  (cancelAll v.uid .superseded d).event (.pageSuperseded v.key v.version v.state byVersion)

/-- A record placed in a list that ascends by version. -/
def insertByVersion (v : PageVersion) : List PageVersion → List PageVersion
  | [] => [v]
  | x :: xs => if v.version < x.version then v :: x :: xs else x :: insertByVersion v xs

/-- The records of a list in ascending version. -/
def sortByVersion (l : List PageVersion) : List PageVersion := l.foldr insertByVersion []

/-- Every lower live version of a key is superseded, in ascending version (R16). -/
def supersede (key : PageKey) (version : Nat) (d : Device) : Device :=
  (sortByVersion (d.table.filter fun x => decide (x.key = key) && decide (x.version < version) && x.live)).foldl
    (fun d x => supersedeOne version x d) d

/-- The deliveries of other versions of a position at a site are displaced (R67). -/
def displace (i : SiteId) (pos : Position) (uid : Nat) (d : Device) : Device :=
  let other := fun (r : PageRef) => decide (r.key.pos = pos) && decide (r.uid ≠ uid)
  let d := match (d.site i).q.current with
    | some c => if other c.ref then cancelCurrent i c .displaced d else d
    | none => d
  ((d.site i).q.queue.filter fun e => other e.ref).foldl (fun d e => cancelQueued i e.ref.uid d) d

/-- The release of a version (R15, R62). -/
def release (v : PageVersion) (d : Device) : Device :=
  let d := d.onRecord v.uid fun x => { x with state := .released }
  let d := supersede v.key v.version d
  let targets := allSites.filter (d.targets v.key)
  let d := targets.foldl (fun d i => enqueue i v.ref v.cls v.seps (displace i v.key.pos v.uid d)) d
  deliveredCheck v.uid (d.event (.pageReleased v.key v.version v.cls (siteFlags targets) d.time))

/-! ## Evaluations (R61) -/

/-- The order of page keys: edition, section, page number, zone (R61). -/
def PageKey.before (a b : PageKey) : Bool :=
  decide (a.pos.edition < b.pos.edition) || (decide (a.pos.edition = b.pos.edition) &&
    (decide (a.pos.sect < b.pos.sect) || (decide (a.pos.sect = b.pos.sect) &&
      (decide (a.pos.page < b.pos.page) || (decide (a.pos.page = b.pos.page) && decide (a.zone < b.zone))))))

/-- A record placed in a list that ascends by page key. -/
def insertByKey (v : PageVersion) : List PageVersion → List PageVersion
  | [] => [v]
  | x :: xs => if v.key.before x.key then v :: x :: xs else x :: insertByKey v xs

/-- The highest version of each key of a list, in ascending page key (R61). -/
def highestOfEach (l : List PageVersion) : List PageVersion :=
  (l.filter fun v => !l.any fun x => decide (x.key = v.key) && decide (v.version < x.version)).foldr insertByKey []

/-- A version found by an evaluation is released if it is still APPROVED (R61). -/
def releaseIfApproved (v : PageVersion) (d : Device) : Device :=
  match d.record v.uid with
  | some x => if x.state = .approved then release x d else d
  | none => d

/-- The evaluation of the release condition for the versions that meet the test (R61). -/
def evaluate (test : PageVersion → Bool) (d : Device) : Device :=
  (highestOfEach (d.table.filter fun v => test v && d.releasable v)).foldl (fun d v => releaseIfApproved v d) d

/-- The evaluation of one version, alone, when it becomes APPROVED (R61). -/
def evaluateOne (uid : Nat) (d : Device) : Device := evaluate (fun v => decide (v.uid = uid)) d

/-! ## Late pages -/

/-- Site `i` is late for a version whose latest time is reached (R73). -/
def Device.lateAt (d : Device) (v : PageVersion) (i : SiteId) : Bool :=
  (decide ((v.at i).state = .queued) || decide ((v.at i).state = .sending) || decide ((v.at i).state = .failed)) &&
    !(v.at i).late && !(d.site i).absent

/-- A late site is marked and LATE is raised at it (R73, R74). -/
def markLate (uid : Nat) (i : SiteId) (d : Device) : Device :=
  match d.record uid with
  | some v =>
    if d.lateAt v i then
      raise i (.late v.key v.version d.base.clock.count) (d.onDelivery uid i fun r => { r with late := true })
    else d
  | none => d

/-- The latest times are examined (R73). DESIGN CHOICE (log 22): the versions in table order. -/
def latestCheck (d : Device) : Device :=
  (d.table.filter fun v => decide (v.state = .released) && (v.latest.any d.base.clock.reached)).foldl
    (fun d v => forSites (markLate v.uid) d) d

/-! ## Recall and zone revert -/

/-- The recall of a withdrawn version, with the number of CANCEL entries posted (R21, R128). DESIGN CHOICE (log 31): the
sites in ascending index. -/
def recallVersion (uid : Nat) (d : Device) : Device × Nat :=
  allSites.foldl (fun (p : Device × Nat) i =>
    match p.1.record uid with
    | some v =>
      if (v.at i).state = .acked ∧ ¬ (p.1.site i).absent then
        (postCancel i v.key v.version .recalled p.1, p.2 + if (p.1.site i).controlRoom then 1 else 0)
      else p
    | none => p) (d, 0)

/-- Zone revert enqueues `c` at site `i` (R70). -/
def Device.revertsAt (d : Device) (c : PageVersion) (zone : Nat) (i : SiteId) : Bool :=
  !(d.site i).absent && decide (d.planEntry i c.key.pos.edition = some zone) &&
    decide ((c.at i).state ≠ .acked) && !(d.site i).hasPosition c.key.pos

/-- The zone revert check after the withdrawal of version `w` (R69, R70). -/
def zoneRevert (w : PageVersion) (d : Device) : Device :=
  if w.key.zone = 0 ∨ (d.highestLive w.key).isSome then d
  else
    match d.highest fun v => decide (v.key = { w.key with zone := 0 }) && v.out with
    | none => d.event (.zoneReverted w.key.pos w.key.zone w.version none 0)
    | some c =>
      let sites := allSites.filter (d.revertsAt c w.key.zone)
      let d := sites.foldl (fun d i => enqueue i c.ref .replate c.seps d) d
      d.event (.zoneReverted w.key.pos w.key.zone w.version (some c.version) (siteFlags sites))

end Sys2Proof.Machine
end

