-- ==== Sys2Proof/Machine/Intake.lean ====
section
/-!
DEFINITION. Band intake (chapter 2): intake buffers and arrivals (R192), the checks of band frames (R37), the
beginning and completion of band writes (R39, R41 to R44, R46, R47) and version completion (R9, R10).
-/

namespace Sys2Proof.Machine

/-! ## Arrivals and buffers (R192) -/

/-- The lowest-numbered free intake buffer (R192). -/
def Feed.freeBuffer (f : Feed) : Option (Fin 4) := allFour.find? fun b => decide (entryOf f.buffers b = .free)

/-- The arrival of a band frame begins (R192). -/
def beginArrival (d : Device) : Device :=
  match d.feed.freeBuffer with
  | some b =>
    let d := d.onBuffer b .receiving
    { d with feed := { d.feed with arrivals := d.feed.arrivals ++ [some b] } }
  | none => { d with feed := { d.feed with arrivals := d.feed.arrivals ++ [none] } }

/-- The oldest arrival ends: its buffer, if it has one, and the device with the arrival taken off (R192). -/
def endArrival (d : Device) : Device × Option (Fin 4) :=
  match d.feed.arrivals with
  | a :: rest => ({ d with feed := { d.feed with arrivals := rest } }, a)
  | [] => (d, none)

/-- A frame with no place to go is discarded: the overrun count increments and FEED_OVERRUN is sent (R192, R193). -/
def overrun (kind tag : Byte) (cause : OverrunCause) (d : Device) : Device :=
  { d with feed := { d.feed with overrun := min (d.feed.overrun + 1) 65535 } }.event (.feedOverrun kind tag cause)

/-! ## The checks of R37 -/

/-- The fields of a band frame's payload (R206). -/
structure BandFields where
  key : KeyField
  sep : Byte
  band : Byte
  crc : Word
  runs : List Byte
deriving DecidableEq, Repr

/-- Reading the fields of a band frame's payload (R206). -/
def readBand (payload : List Byte) : Option BandFields := do
  let (key, r) ← getKey payload
  let (sep, r) ← getByte r
  let (band, r) ← getByte r
  let (crc, r) ← getWord r
  some { key := key, sep := sep, band := band, crc := crc, runs := r }

/-- The sum of the runs' pixel counts (section 2.3). -/
def runPixels : List Byte → Nat
  | count :: _ :: r => count.toNat + 1 + runPixels r
  | _ => 0

/-- Checks 1 to 4 of R37: the record and the separation. -/
def Device.bandPlace (d : Device) (b : BandFields) : Except RefusedReason (PageVersion × Sep) :=
  if keyInRange b.key = false ∨ versionOf b.key = 0 then .error .range
  else
    match d.lookup (keyOf b.key) (versionOf b.key) with
    | none => .error .noPage
    | some v =>
      if v.state = .held ∨ v.state = .approved ∨ v.state = .superseded ∨ v.state = .withdrawn then .error .closed
      else
        match fourOf b.sep with
        | none => .error .range
        | some s => if v.seps.has s ∧ b.band.toNat < v.bandCount then .ok (v, s) else .error .range

/-- Check 5 of R37: a band of a released version is accepted only as a repair of a faulty entry. -/
def PageVersion.repairable (v : PageVersion) (s : Sep) (band : Nat) : Bool :=
  !v.out || match v.entry s band with
    | some e => e.fault
    | none => false

/-- Checks 6 to 8 of R37: the run payload. -/
def PageVersion.runsPass (v : PageVersion) (b : BandFields) : Bool :=
  decide (b.runs.length ≠ 0) && decide (b.runs.length % 2 = 0) && decide (b.runs.length ≤ Config.cellBytes) &&
    decide (crc32 b.runs = b.crc) && decide (runPixels b.runs = v.pixels b.band.toNat)

/-- Check 9 of R37: a repair carries the CRC recorded. -/
def PageVersion.repairMatches (v : PageVersion) (s : Sep) (b : BandFields) : Bool :=
  !v.out || match v.entry s b.band.toNat with
    | some e => decide (e.crc = b.crc)
    | none => false

/-- Checks 1 to 9 of R37, in order. -/
def Device.checkBand (d : Device) (b : BandFields) : Except RefusedReason (PageVersion × Sep) :=
  match d.bandPlace b with
  | .error r => .error r
  | .ok (v, s) =>
    if v.repairable s b.band.toNat = false then .error .closed
    else if v.runsPass b = false then .error .runs
    else if v.repairMatches s b = false then .error .repairMismatch
    else .ok (v, s)

/-! ## Taking a band frame -/

/-- A band frame in buffer `n` is refused (R37, R38). -/
def refuseBand (n : Fin 4) (tag : Byte) (b : BandFields) (reason : RefusedReason) (d : Device) : Device :=
  (d.onBuffer n .free).event
    (.bandRefused tag (keyOf b.key) (versionOf b.key) b.sep.toNat b.band.toNat reason)

/-- Band intake takes a band frame from buffer `n` (R37, R39, R41, R46). -/
def takeBand (n : Fin 4) (tag : Byte) (b : BandFields) (d : Device) : Device :=
  match d.checkBand b with
  | .error r => refuseBand n tag b r d
  | .ok (v, s) =>
    match allocate v.area v.uid d with
    | (d, none) => refuseBand n tag b .areaFull d
    | (d, some cell) =>
      d.onBuffer n (.writing
        { tag := tag, ref := v.ref, sep := s, band := b.band.toNat, crc := b.crc, repair := v.out, cell := cell,
          payload := b.runs, ended := false, dayReset := false })

/-- A band frame has arrived whole, in a buffer or in none (R191, R192). -/
def bandArrived (buffer : Option (Fin 4)) (f : FeedFrame) (d : Device) : Device :=
  match buffer with
  | none => if bandPasses f then overrun f.kind f.tag .noBuffer d else d
  | some n =>
    if bandPasses f then
      match readBand f.payload with
      | some b => takeBand n f.tag b d
      | none => d.onBuffer n .free
    else d.onBuffer n .free

/-! ## Completion of new-band writes -/

/-- The device with a new band recorded in its entry (R42, R43); `old` is the entry replaced. -/
def recordBand (w : BandWrite) (old : Option BandEntry) (d : Device) : Device :=
  d.onRecord w.ref.uid fun v =>
    { v.withEntry w.sep w.band { cell := w.cell, crc := w.crc, fault := false } with
      digest := v.digest - (match old with
        | some e => e.crc
        | none => 0) + w.crc }

/-- A version has become complete (R9, R10). -/
def completeVersion (v : PageVersion) (d : Device) : Device :=
  match v.approval with
  | none =>
    (d.onRecord v.uid fun x => { x with state := .held }).event (.pageComplete v.key v.version v.digest false)
  | some a =>
    if a.expected = v.digest then
      evaluateOne v.uid <|
        (d.onRecord v.uid fun x =>
          { x with state := .approved, approval := some { a with checked := true } }).event
          (.pageComplete v.key v.version v.digest true)
    else
      (d.onRecord v.uid fun x => { x with state := .held, approval := none }).event
        (.approvalMismatch v.key v.version a.station a.expected v.digest)

/-- A new-band write completes (R42 to R44). -/
def finishNewBand (n : Fin 4) (w : BandWrite) (d : Device) : Device :=
  let d := (storePayload w.cell w.payload d).onBuffer n .free
  match d.record w.ref.uid with
  | none => refuseWrite w d
  | some v =>
    if v.state = .filling then
      let old := v.entry w.sep w.band
      let d := recordBand w old d
      if old.isNone then
        match d.record w.ref.uid with
        | some x => if x.complete then completeVersion x d else d
        | none => d
      else d
    else refuseWrite w d

/-- A repair write ends (R47): it is completed unless a preparation is reading the entry's cell. -/
def endRepair (n : Fin 4) (w : BandWrite) (d : Device) : Device :=
  if d.reading w then d.onBuffer n (.writing { w with ended := true }) else finishRepair n w d

end Sys2Proof.Machine
end

