-- ==== Sys2Proof/Machine/Time.lean ====
section
/-!
DEFINITION. Time: the ticks of the timebase and what each does (R51, R52, R161, R174), and the expiries of the gap,
ack, probe and gate timers (R174, R147, R149, R113). DESIGN CHOICE (log 5): inside one 100 ms tick every count is
taken down first, then the expiries are handled site by site (gate, ack, probe), then the night clock advances and the
release unit evaluates.
-/

namespace Sys2Proof.Machine

/-! ## Expiries -/

/-- The gap timer expires: it is stopped, and a page start is looked for (R174). -/
def expireGap (i : SiteId) (d : Device) : Device := lookPageStart i (d.onPace i fun p => { p with gap := none })

/-- Rank 1 is marked resend-pending. -/
def Window.markFirst (w : Window) : Window := { w with ranks := w.ranks.modify 0 fun r => { r with pending := true } }

/-- The ack timer expires (R147, R148): rank 1 marked, the retry count one higher, the timer held; LINK_LOST at the
retry limit, whose action takes the site to LINK_LOST. -/
def expireAck (i : SiteId) (d : Device) : Device :=
  let d := d.onWin i fun w => { w.markFirst with retry := min (w.retry + 1) 15, ackTimer := .held }
  let st := d.site i
  if st.cfg.retryLimit ≤ st.win.retry then
    let d := raise i (.linkLost st.win.retry st.win.first) d
    if outcomeOf st .linkLost = .action then syncTimers i (d.onWin i fun w => { w with link := .linkLost }) else d
  else d

/-- The probe timer expires: rank 1 is marked and the timer starts again at once in full (R149). -/
def expireProbe (i : SiteId) (d : Device) : Device :=
  d.onSite i fun st => { st with win := { st.win.markFirst with probeTimer := some (probeFull st) } }

/-- The gate timer expires (R113): TARGET_TIMEOUT, whose action sends the gate to BYPASS; otherwise it goes to IDLE. -/
def expireGate (i : SiteId) (d : Device) : Device :=
  let st := d.site i
  match st.tone.arm with
  | none => d
  | some a =>
    let r := st.target a.stock
    let d := raise i (.targetTimeout a.stock r.latestGen r.ackedGen) d
    if outcomeOf st .targetTimeout = .action then lookPageStart i (setGate i .bypass d) else setGate i .idle d

/-! ## The 10 ms tick -/

/-- The gap count of a site at a 10 ms tick (R174). DESIGN CHOICE (log 33): while counting is suspended the count stands
as it was. -/
def tickGap (i : SiteId) (d : Device) : Device :=
  let st := d.site i
  match st.pace.gap with
  | some n =>
    if d.base.quiesced ∨ st.win.link = .halted then d
    else if n ≤ 1 then expireGap i d
    else d.onPace i fun p => { p with gap := some (n - 1) }
  | none => d

/-! ## The 100 ms tick -/

/-- An ack timer at a 100 ms tick (R145). -/
def AckTimer.tick : AckTimer → AckTimer
  | .running n => .running (n - 1)
  | .stopped => .stopped
  | .held => .held

/-- A gate at a 100 ms tick at which it counts (R113). -/
def Gate.tick : Gate → Gate
  | .wait n => .wait (n - 1)
  | .idle => .idle
  | .bypass => .bypass

/-- The ack, probe and gate counts of a site at a 100 ms tick (R145, R149, R113). -/
def Site.tickCounts (quiesced : Bool) (st : Site) : Site :=
  { st with
    win := { st.win with ackTimer := st.win.ackTimer.tick, probeTimer := st.win.probeTimer.map (· - 1) }
    tgt := { st.tgt with
      gate := if quiesced ∨ st.win.link = .halted then st.tgt.gate else st.tgt.gate.tick } }

/-- The expiries of a site whose counts have reached 0 at this tick (log 5: gate, ack, probe). -/
def expireSite (i : SiteId) (d : Device) : Device :=
  let d := if (d.site i).tgt.gate = .wait 0 then expireGate i d else d
  let d := if (d.site i).win.ackTimer = .running 0 then expireAck i d else d
  if (d.site i).win.probeTimer = some 0 then expireProbe i d else d

/-- The night clock at a 100 ms tick (R52). -/
def Clock.tick (c : Clock) : Clock :=
  if c.unset then c else { c with count := (c.count + 1) % Config.dayUnits }

/-- The release unit at a 100 ms tick, while the night clock is set (R52, R61, R73). -/
def tickRelease (d : Device) : Device :=
  let d := { d with base := { d.base with clock := d.base.clock.tick } }
  if d.base.clock.unset then d else latestCheck (evaluate (fun v => v.releaseAt.isSome) d)

/-- A 100 ms tick. -/
def tick100 (d : Device) : Device :=
  let d := forSites (fun i d => d.onSite i (Site.tickCounts d.base.quiesced)) d
  tickRelease (forSites expireSite d)

/-- A 10 ms tick (R51): every tenth is a 100 ms tick. -/
def tick10 (d : Device) : Device :=
  let d := forSites tickGap { d with base := { d.base with tens := (d.base.tens + 1) % 10 } }
  if d.base.tens = 0 then tick100 d else d

/-! ## The 1 ms tick -/

/-- A port's remaining count at a 1 ms tick (R161). -/
def tickPort (p : PortId) (d : Device) : Device :=
  if (d.port p).remaining ≤ 1 then endPeriod p d
  else d.onPort p fun x => { x with remaining := x.remaining - 1 }

/-- A 1 ms tick (R51): every tenth is a 10 ms tick. -/
def tick1 (d : Device) : Device :=
  let d := forPorts tickPort { d with base := { d.base with ms := (d.base.ms + 1) % 10 } }
  if d.base.ms = 0 then tick10 d else d

end Sys2Proof.Machine
end

