-- ==== Sys2Proof/Machine/PageCommands.lean ====
section
/-!
DEFINITION. The commands of page versions, plans, the night clock and store areas: OPEN PAGE, APPROVE, WITHDRAW,
PURGE, SEND PAGE, SET PLAN, HOLD EDITION, OPEN EDITION, SET CLOCK and DEFINE AREA, each answering the device after it
and what its reply says (R196).
-/

namespace Sys2Proof.Machine

/-- A refusal without data: the part is unchanged (R196). -/
def refuse (r : Result) (d : Device) : Device × Answer := (d, { result := r })

/-- An OK answer with data and no flags. -/
def okay (d : Device) (data : List Byte) : Device × Answer := (d, { result := .ok, data := data })

/-! ## OPEN PAGE -/

/-- A present time field; the byte's bit says whether it is present (R203). -/
def timeOf (present : Bool) (w : Word) : Option Nat := if present then some w.toNat else none

/-- A time of night that is present is in range (R4). -/
def timeInRange (t : Option Nat) : Bool :=
  match t with
  | some n => decide (n < Config.dayUnits)
  | none => true

/-- The field checks of OPEN PAGE (R4). -/
def openInRange (a : OpenPageArgs) : Bool :=
  keyInRange a.key && decide (versionOf a.key ≠ 0) &&
    decide (1 ≤ a.width.toNat) && decide (a.width.toNat ≤ 8192) &&
    decide (1 ≤ a.height.toNat) && decide (a.height.toNat ≤ 8192) &&
    timeInRange (timeOf (optionFlag a.flags 0) a.releaseAt) && timeInRange (timeOf (optionFlag a.flags 1) a.latest)

/-- The record OPEN PAGE creates (R2, R3, R8). -/
def newVersion (uid : Nat) (a : OpenPageArgs) (seps : SepSet) (area : Fin 8) : PageVersion :=
  { uid := uid, key := keyOf a.key, version := versionOf a.key, width := a.width.toNat, height := a.height.toNat,
    seps := seps,
    bands := Vector.ofFn fun s : Fin 4 =>
      if seps.has s then List.replicate ((a.height.toNat + 127) / 128) none else [],
    area := area, digest := 0, releaseAt := timeOf (optionFlag a.flags 0) a.releaseAt,
    latest := timeOf (optionFlag a.flags 1) a.latest, approval := none, state := .filling,
    records := Vector.replicate 8 DeliveryRecord.fresh, retained := none }

/-- The highest version of a key that is present (R5). -/
def Device.highestPresent (d : Device) (key : PageKey) : Option PageVersion := d.highest fun v => decide (v.key = key)

/-- The record is created (R8). -/
def createVersion (a : OpenPageArgs) (seps : SepSet) (area : Fin 8) (reclaimed : Bool) (d : Device) :
    Device × Answer :=
  let v := newVersion d.serial a seps area
  ({ d with table := d.table ++ [v], serial := d.serial + 1 },
    { result := .ok, flags := { reclaimed := reclaimed }, data := [byteN area.val, byteN v.bandCount] })

/-- OPEN PAGE after its checks: one reclaim of table scope when the table is full (R7). -/
def openWithRoom (a : OpenPageArgs) (seps : SepSet) (area : Fin 8) (d : Device) : Device × Answer :=
  if d.table.length < Config.tableCapacity then createVersion a seps area false d
  else
    match d.candidate fun _ => true with
    | some v => createVersion a seps area true (removeVersion v .table d)
    | none => refuse .tableFull d

/-- OPEN PAGE (R4 to R8). -/
def applyOpenPage (a : OpenPageArgs) (d : Device) : Device × Answer :=
  match sepsOf a.seps with
  | none => refuse .range d
  | some seps =>
    if openInRange a = false ∨ seps = 0 then refuse .range d
    else
      match (d.highestPresent (keyOf a.key)).filter fun v => decide (versionOf a.key ≤ v.version) with
      | some v => (d, { result := .staleVersion, data := [byteN v.version] })
      | none =>
        match d.resolveArea a.key.edition with
        | none => refuse .noArea d
        | some area => openWithRoom a seps area d

/-! ## APPROVE -/

/-- APPROVE of a present version (R11 to R13). -/
def approveVersion (v : PageVersion) (approval : Approval) (d : Device) : Device × Answer :=
  match v.state with
  | .filling =>
    (d.onRecord v.uid fun x => { x with approval := some approval }, { result := .ok, flags := { pending := true } })
  | .held =>
    if approval.expected = v.digest then
      let d := d.onRecord v.uid fun x =>
        { x with state := .approved, approval := some { approval with checked := true } }
      okay (arbitrate (evaluateOne v.uid d)) []
    else (d, { result := .digest, data := wordBytes v.digest })
  | .approved => refuse .state d
  | .released => refuse .state d
  | .delivered => refuse .state d
  | .superseded => refuse .state d
  | .withdrawn => refuse .state d

/-- APPROVE (R11 to R13). -/
def applyApprove (a : ApproveArgs) (d : Device) : Device × Answer :=
  if a.station.toNat = 0 ∨ 63 < a.station.toNat then refuse .range d
  else
    match d.lookup (keyOf a.key) (versionOf a.key) with
    | none => refuse .noPage d
    | some v =>
      approveVersion v { station := a.station.toNat, expected := a.expected, approvedAt := d.time, checked := false } d

/-! ## WITHDRAW and PURGE -/

/-- The number of non-final delivery records of a version. -/
def PageVersion.unfinished (v : PageVersion) : Nat := (v.records.toList.filter fun r => !r.state.final).length

/-- The recall of a WITHDRAW, when its flag is set (R21). -/
def recallIf (asked : Bool) (uid : Nat) (d : Device) : Device × Nat := if asked then recallVersion uid d else (d, 0)

/-- WITHDRAW of a live version (R20, R21, R69): cancellations, recall, zone revert. -/
def withdrawVersion (v : PageVersion) (asked : Bool) (d : Device) : Device × Answer :=
  let d := retain v.uid (d.onRecord v.uid fun x => { x with state := .withdrawn })
  let d := cancelAll v.uid .withdrawn d
  let r := recallIf asked v.uid d
  okay (arbitrate (zoneRevert v r.1)) (halfN v.unfinished ++ halfN r.2)

/-- WITHDRAW (R20, R21). -/
def applyWithdraw (key : KeyField) (flags : Byte) (d : Device) : Device × Answer :=
  match d.lookup (keyOf key) (versionOf key) with
  | none => refuse .noPage d
  | some v => if v.live then withdrawVersion v (optionFlag flags 0) d else refuse .state d

/-- PURGE (R25). -/
def applyPurge (key : KeyField) (d : Device) : Device × Answer :=
  match d.lookup (keyOf key) (versionOf key) with
  | none => refuse .noPage d
  | some v => if d.reclaimable v then okay (removeVersion v .purge d) (halfN v.entries.length) else refuse .state d

/-! ## SEND PAGE -/

/-- SEND PAGE to a site (R71, R72). -/
def sendVersion (v : PageVersion) (i : SiteId) (d : Device) : Device × Answer :=
  if v.out = false then refuse .state d
  else if (d.site i).absent then refuse .siteState d
  else if (d.site i).hasPosition v.key.pos then (d, { result := .ok, flags := { absorbed := true } })
  else okay (arbitrate (enqueue i v.ref .replate v.seps d)) []

/-- SEND PAGE (R71, R72). -/
def applySendPage (key : KeyField) (site : Byte) (d : Device) : Device × Answer :=
  match eightOf site with
  | none => refuse .range d
  | some i =>
    if keyInRange key = false then refuse .range d
    else
      match d.lookup (keyOf key) (versionOf key) with
      | none => refuse .noPage d
      | some v => sendVersion v i d

/-! ## Plans and the night clock -/

/-- The device with an edition plan changed. -/
def Device.onPlan (d : Device) (e : Fin 16) (f : Plan → Plan) : Device :=
  { d with base := { d.base with plans := modifyAt d.base.plans e f } }

/-- A plan entry as a byte (R203). -/
def planByte (p : Option Nat) : Byte :=
  match p with
  | some z => byteN z
  | none => 0xFF

/-- The eight entries of a plan, as bytes. -/
def Plan.bytes (p : Plan) : List Byte := p.entries.toList.map planByte

/-- SET PLAN (R57). -/
def applySetPlan (edition : Byte) (entries : Vector Byte 8) (d : Device) : Device × Answer :=
  match editionOf edition with
  | none => refuse .range d
  | some e =>
    if entries.toList.all fun b => (planEntryOf b).isSome then
      okay (d.onPlan e fun p => { p with entries := entries.map fun b => (planEntryOf b).getD none })
        (entryOf d.base.plans e).bytes
    else refuse .range d

/-- HOLD EDITION (R58). -/
def applyHoldEdition (edition : Byte) (d : Device) : Device × Answer :=
  match editionOf edition with
  | none => refuse .range d
  | some e => okay (d.onPlan e fun p => { p with held := true }) [flagByte (entryOf d.base.plans e).held]

/-- OPEN EDITION (R59). -/
def applyOpenEdition (edition : Byte) (d : Device) : Device × Answer :=
  match editionOf edition with
  | none => refuse .range d
  | some e =>
    okay (arbitrate (evaluate (fun v => decide (v.key.pos.edition = e.val))
        (d.onPlan e fun p => { p with held := false }))) [flagByte (entryOf d.base.plans e).held]

/-- SET CLOCK (R53). -/
def applySetClock (count : Word) (d : Device) : Device × Answer :=
  if Config.dayUnits ≤ count.toNat then refuse .range d
  else
    let before := d.base.clock
    let d := { d with base := { d.base with clock := { count := count.toNat, unset := false } } }
    okay (arbitrate (evaluate (fun v => v.releaseAt.isSome) d)) (wordN before.count ++ [flagByte before.unset])

/-! ## Store areas -/

/-- A cell of the area's extent is held by a band write in flight, or a version refers to the area (R33). -/
def Device.areaBusy (d : Device) (n : Fin 8) : Bool :=
  let a := entryOf d.base.areas n
  decide (0 < d.referring n) || (a.enabled && decide (0 < d.heldIn a))

/-- The extents of two areas share a cell (R33). -/
def Area.shares (a b : Area) : Bool := decide (a.base < b.base + b.length) && decide (b.base < a.base + a.length)

/-- The new extent shares a cell with another enabled area (R33). -/
def Device.areaOverlaps (d : Device) (n : Fin 8) (a : Area) : Bool :=
  [0, 1, 2, 3, 4, 5, 6, 7].any fun k : Fin 8 =>
    decide (k ≠ n) && (entryOf d.base.areas k).enabled && a.shares (entryOf d.base.areas k)

/-- The area a DEFINE AREA gives (R34). -/
def areaOf (a : DefineAreaArgs) : Area :=
  { enabled := optionFlag a.flags 0, base := a.base.toNat, length := a.length.toNat, mtch := a.mtch, mask := a.mask }

/-- The extent of an area to be enabled is in the band region (R33). -/
def Area.inRange (a : Area) : Bool :=
  decide (a.length ≠ 0) && decide (a.base < Config.bandCells) && decide (a.base + a.length ≤ Config.bandCells)

/-- DEFINE AREA (R33, R34). The new free set is the whole new extent, or nothing for a disabled area. -/
def applyDefineArea (a : DefineAreaArgs) (d : Device) : Device × Answer :=
  match eightOf a.area with
  | none => refuse .range d
  | some n =>
    let x := areaOf a
    if x.enabled && !x.inRange then refuse .range d
    else if d.areaBusy n then refuse .areaBusy d
    else if x.enabled && d.areaOverlaps n x then refuse .areaOverlap d
    else
      okay { d with base := { d.base with areas := modifyAt d.base.areas n fun _ => x } }
        (halfN (if x.enabled then x.length else 0))

end Sys2Proof.Machine
end

