-- ==== Sys2Proof/Machine/SiteCommands.lean ====
section
/-!
DEFINITION. The commands of sites and ports: SET SITE, ENABLE SITE, DISABLE SITE, RESUME SITE, SET ALLOTMENT and SET
PORT (R133, R134, R156, R162, R163, R187, R197).
-/

namespace Sys2Proof.Machine

/-! ## SET SITE -/

/-- Another site has the code (R138). -/
def Device.codeTaken (d : Device) (i : SiteId) (code : Half) : Bool :=
  allSites.any fun k => decide (k ≠ i) && decide ((d.site k).cfg.code = code)

/-- The high mark of SET SITE (R177). -/
def highMarkOf (a : SetSiteArgs) : Nat := clamp 1 63 a.highMark.toNat

/-- The low mark of SET SITE, below the high mark (R177). -/
def lowMarkOf (a : SetSiteArgs) : Nat := min (clamp 0 62 a.lowMark.toNat) (highMarkOf a - 1)

/-- The settings of SET SITE, each clamped as its owning rule gives it (R84, R112, R138, R172, R177, R197). -/
def settingsOf (a : SetSiteArgs) (port : PortId) (flow : FlowMode) (mask : BitVec 7) (solid : Bool) : Settings :=
  { code := a.code, port := port, flow := flow, gapLength := clamp 0 255 a.gapLength.toNat,
    ackTimeout := clamp 1 255 a.ackTimeout.toNat, retryLimit := clamp 1 15 a.retryLimit.toNat,
    highMark := highMarkOf a, lowMark := lowMarkOf a, gateTimeout := clamp 1 255 a.gateTimeout.toNat,
    haltMask := mask, gains := a.gains.map fun g => clamp 224 288 g.toNat, minDot := clamp 0 31 a.minDot.toNat,
    maxDot := clamp 224 255 a.maxDot.toNat, solidHold := solid }

/-- A field of SET SITE was clamped (R197). -/
def wasClamped (a : SetSiteArgs) (s : Settings) : Bool :=
  decide (s.gapLength ≠ a.gapLength.toNat) || decide (s.ackTimeout ≠ a.ackTimeout.toNat) ||
    decide (s.retryLimit ≠ a.retryLimit.toNat) || decide (s.highMark ≠ a.highMark.toNat) ||
    decide (s.lowMark ≠ a.lowMark.toNat) || decide (s.gateTimeout ≠ a.gateTimeout.toNat) ||
    decide (s.gains ≠ a.gains.map BitVec.toNat) || decide (s.minDot ≠ a.minDot.toNat) ||
    decide (s.maxDot ≠ a.maxDot.toNat)

/-- The settings replace a site's; a change of flow mode sets the ready flag, and one to OBEY or IGNORE stops the gap
timer (R172, R174, R197). -/
def installSettings (i : SiteId) (s : Settings) (d : Device) : Device :=
  d.onSite i fun st =>
    { st with
      cfg := s
      pace :=
        if s.flow = st.cfg.flow then st.pace
        else { st.pace with ready := true, gap := if s.flow.hasGap then st.pace.gap else none } }

/-- SET SITE that is taken (R197). -/
def takeSettings (i : SiteId) (a : SetSiteArgs) (s : Settings) (d : Device) : Device × Answer :=
  (arbitrate (lookPageStart i (syncTimers i (installSettings i s d))),
    { result := .ok, flags := { clamped := wasClamped a s } })

/-- SET SITE (R197). -/
def applySetSite (a : SetSiteArgs) (d : Device) : Device × Answer :=
  match eightOf a.site, portOf a.port, flowOf a.flow, haltMaskOf a.haltMask, boolOf a.solidHold with
  | some i, some port, some flow, some mask, some solid =>
    if d.codeTaken i a.code then refuse .range d else takeSettings i a (settingsOf a port flow mask solid) d
  | _, _, _, _, _ => refuse .range d

/-! ## ENABLE SITE -/

/-- The productions of an enabled site: its active stock, and its armed stock when that differs (R107). -/
def produceEnabled (i : SiteId) (d : Device) : Device :=
  let t := (d.site i).tone
  let d := produce i t.active.stock d
  match t.arm with
  | some a => if a.stock = t.active.stock then d else produce i a.stock d
  | none => d

/-- A DISABLED site goes to WAITING (R134, R157, R172). -/
def enableSite (i : SiteId) (d : Device) : Device :=
  d.onSite i fun st =>
    { st with win := { Window.reset with link := .waiting }, pace := { st.pace with ready := true } }

/-- ENABLE SITE (R134). -/
def applyEnableSite (site : Byte) (d : Device) : Device × Answer :=
  match eightOf site with
  | none => refuse .range d
  | some i =>
    if (d.site i).win.link = .disabled then
      (produceEnabled i (enableSite i d), { result := .ok, flags := { changed := true } })
    else okay d []

/-! ## DISABLE SITE -/

/-- The deliveries of a site are cancelled: the queued ones in queue order, then the current one (R133). -/
def cancelSite (i : SiteId) (d : Device) : Device :=
  let d := (d.site i).q.queue.foldl (fun d e => cancelQueued i e.ref.uid d) d
  match (d.site i).q.current with
  | some c => cancelCurrent i c .disable d
  | none => d

/-- What DISABLE SITE does to a site beside its deliveries and before its window (R105, R114, R133, R174, R177): the
control list and the prepared block dropped, nothing owed, the gate IDLE, the gap timer stopped, the gauge at 0. -/
def clearDisabled (st : Site) : Site :=
  { st with
    q := { st.q with control := [] }
    win := { st.win with prepared := none }
    tgt := { st.tgt with records := st.tgt.records.map fun r => { r with owed := false }, gate := .idle }
    pace := { st.pace with gap := none, refCount := 0, resendCount := 0, level := 0 } }

/-- The site is closing until its transmission ends, its timers stopped (R156). -/
def beginClosing (i : SiteId) (d : Device) : Device :=
  d.onWin i fun w => { w with closing := true, ackTimer := .stopped, probeTimer := none }

/-- DISABLE SITE of a site that is neither DISABLED nor closing (R133, R156). -/
def disableSite (i : SiteId) (d : Device) : Device :=
  let d := ((cancelSite i d).markSite i).onSite i clearDisabled
  if d.transmitting i then beginClosing i d else becomeDisabled i d

/-- The number of delivery records a DISABLE SITE cancels. -/
def Site.deliveries (st : Site) : Nat := st.q.queue.length + (if st.q.current.isSome then 1 else 0)

/-- DISABLE SITE (R133, R156). DESIGN CHOICE (log 32): the reply for a site that is DISABLED or closing already carries
the count 0. -/
def applyDisableSite (site : Byte) (d : Device) : Device × Answer :=
  match eightOf site with
  | none => refuse .range d
  | some i =>
    if (d.site i).absent then okay d (halfN 0)
    else okay (arbitrate (disableSite i d)) (halfN (d.site i).deliveries)

/-! ## RESUME SITE -/

/-- The halt record in a reply (R182, R187, R190). -/
def HaltRecord.bytes (h : HaltRecord) : List Byte :=
  byteN h.details.condition.bit :: (h.details.bytes ++ timeBytes h.clock ++ [h.resume.code])

/-- A running gap timer takes a full count (R174). DEDUCED (log 20): a gap length of 0 stops it. -/
def Pacer.refillGap (p : Pacer) (gapLength : Nat) : Pacer :=
  { p with gap := p.gap.bind fun _ => if gapLength = 0 then none else some gapLength }

/-- A HALTED site goes to its resume state (R187, R114, R174). -/
def resumeHalted (i : SiteId) (h : HaltRecord) (d : Device) : Device :=
  lookPageStart i <| syncTimers i <| d.onSite i fun st =>
    { st with
      win := { st.win with link := h.resume, retry := 0 }
      halt := none
      tgt := { st.tgt with gate := .idle }
      pace := st.pace.refillGap st.cfg.gapLength }

/-- RESUME SITE (R187). A HALTED site holds a halt record. -/
def applyResumeSite (site : Byte) (d : Device) : Device × Answer :=
  match eightOf site with
  | none => refuse .range d
  | some i =>
    if (d.site i).win.link ≠ .halted ∨ (d.site i).win.closing then okay d []
    else
      match (d.site i).halt with
      | none => okay d []
      | some h => (arbitrate (resumeHalted i h d), { result := .ok, flags := { changed := true }, data := h.bytes })

/-! ## SET ALLOTMENT and SET PORT -/

/-- The largest allotment (R163). -/
def maxAllotment : Nat := 1048575

/-- SET ALLOTMENT (R163). -/
def applySetAllotment (site : Byte) (allotment : Word) (d : Device) : Device × Answer :=
  match eightOf site with
  | none => refuse .range d
  | some i =>
    (d.onPace i fun p => { p with staged := some (min allotment.toNat maxAllotment) },
      { result := .ok, flags := { clamped := decide (maxAllotment < allotment.toNat) },
        data := wordN (d.site i).pace.active })

/-- SET PORT (R162). -/
def applySetPort (port : Byte) (period : Half) (d : Device) : Device × Answer :=
  match fourOf port with
  | none => refuse .range d
  | some p =>
    (d.onPort p fun x => { x with staged := some (clamp 1 1000 period.toNat) },
      { result := .ok, flags := { clamped := decide (clamp 1 1000 period.toNat ≠ period.toNat) },
        data := halfN (d.port p).active ++ halfN (d.port p).remaining })

end Sys2Proof.Machine
end

