-- ==== Sys2Proof/Machine/ToneCommands.lean ====
section
/-!
DEFINITION. The commands of curves and colour targets: LOAD CURVE, ARM CURVES, SET GROUP TARGET and SET SITE TARGET
(R77, R79, R80, R100 to R103).
-/

namespace Sys2Proof.Machine

/-! ## LOAD CURVE -/

/-- The knots of LOAD CURVE after clamping (R77). -/
def clampKnots (knots : Vector Half 17) : Curve := knots.map fun k => min k.toNat 4080

/-- The index, counted from `n`, of the first value less than the one before it (R77). -/
def firstDrop : Nat → List Nat → Option Nat
  | n, a :: b :: r => if b < a then some (n + 1) else firstDrop (n + 1) (b :: r)
  | _, _ => none

/-- A curve of a site's pending set is replaced (R77). -/
def loadCurve (i : SiteId) (s : Sep) (c : Curve) (d : Device) : Device :=
  d.onTone i fun t => { t with pending := { t.pending with curves := modifyAt t.pending.curves s fun _ => c } }

/-- LOAD CURVE (R77). -/
def applyLoadCurve (site sep : Byte) (knots : Vector Half 17) (d : Device) : Device × Answer :=
  match eightOf site, fourOf sep with
  | some i, some s =>
    match firstDrop 0 (clampKnots knots).toList with
    | some k => (d, { result := .curveOrder, data := halfN k })
    | none =>
      (loadCurve i s (clampKnots knots) d,
        { result := .ok, flags := { clamped := decide (clampKnots knots ≠ knots.map BitVec.toNat) } })
  | _, _ => refuse .range d

/-! ## ARM CURVES -/

/-- An arm state in a reply (R79, R83). -/
def armBytes (a : Option Arm) : List Byte := withPresentByte (a.map fun x => [byteN x.stock.val, flagByte x.gated])

/-- A cancel of a site's arm (R79, R112). -/
def cancelArm (i : SiteId) (d : Device) : Device :=
  setGate i .idle (d.onTone i fun t => { t with pending := t.active, arm := none })

/-- A site is armed (R80, R107, R112). -/
def armSite (i : SiteId) (a : Arm) (d : Device) : Device :=
  let d := setGate i .idle (d.onTone i fun t => { t with pending := { t.pending with stock := a.stock }, arm := some a })
  if (d.site i).tone.active.stock = a.stock then d else produce i a.stock d

/-- ARM CURVES (R79, R80), after which the site looks for a page start (R123). -/
def applyArmCurves (site stock flags : Byte) (d : Device) : Device × Answer :=
  match eightOf site, fourOf stock with
  | some i, some k =>
    let before := armBytes (d.site i).tone.arm
    let a : Arm := { stock := k, gated := optionFlag flags 0 }
    if optionFlag flags 1 then okay (arbitrate (lookPageStart i (cancelArm i d))) before
    else if a.gated ∧ (entryOf d.base.groups k).set = false then refuse .noTarget d
    else okay (arbitrate (lookPageStart i (armSite i a d))) before
  | _, _ => refuse .range d

/-! ## Group and site targets -/

/-- The site prints stock `k` or is armed with it (R101, R103). -/
def Site.usesStock (st : Site) (k : Stock) : Bool :=
  decide (st.tone.active.stock = k) || match st.tone.arm with
    | some a => decide (a.stock = k)
    | none => false

/-- The aims of SET GROUP TARGET after clamping (R100). -/
def groupAims (a : SetGroupTargetArgs) : Aims :=
  { density := a.density.map fun x => min x.toNat 250, tvi := a.tvi.map fun x => min x.toNat 50 }

/-- An aim of SET GROUP TARGET was clamped (R100). -/
def groupClamped (a : SetGroupTargetArgs) : Bool :=
  a.density.toList.any (fun x => decide (250 < x.toNat)) || a.tvi.toList.any fun x => decide (50 < x.toNat)

/-- The device with a group target replaced (R100). -/
def Device.setGroup (d : Device) (k : Stock) (aims : Aims) : Device :=
  { d with base := { d.base with groups := modifyAt d.base.groups k fun _ => { set := true, aims := aims } } }

/-- A production at a site that prints or is armed with stock `k` (R101, R103); a DISABLED site is passed over by the
production itself (R106). -/
def produceIfUsed (k : Stock) (i : SiteId) (d : Device) : Device :=
  if (d.site i).usesStock k then produce i k d else d

/-- SET GROUP TARGET (R100, R101). -/
def applySetGroupTarget (a : SetGroupTargetArgs) (d : Device) : Device × Answer :=
  match fourOf a.stock with
  | none => refuse .range d
  | some k =>
    (arbitrate (forSites (produceIfUsed k) (d.setGroup k (groupAims a))),
      { result := .ok, flags := { clamped := groupClamped a }, data := [flagByte (entryOf d.base.groups k).set] })

/-- A limit of SET SITE TARGET after clamping (R102). -/
def limitOf (h : Half) : Nat := min h.toNat 250

/-- The offsets and limits of SET SITE TARGET, clamped, the limits in order (R102). -/
def offsetsOf (a : SetSiteTargetArgs) : SiteOffsets :=
  { density := a.density.map fun x => clampInt 30 x.toInt, tvi := a.tvi.map fun x => clampInt 10 x.toInt,
    low := min (limitOf a.low) (limitOf a.high), high := max (limitOf a.low) (limitOf a.high) }

/-- A value of SET SITE TARGET was clamped (R102). -/
def offsetsClamped (a : SetSiteTargetArgs) : Bool :=
  a.density.toList.any (fun x => decide (clampInt 30 x.toInt ≠ x.toInt)) ||
    a.tvi.toList.any (fun x => decide (clampInt 10 x.toInt ≠ x.toInt)) ||
    decide (250 < a.low.toNat) || decide (250 < a.high.toNat)

/-- The device with a site's offsets and limits for a stock replaced (R102). -/
def Device.setOffsets (d : Device) (i : SiteId) (k : Stock) (o : SiteOffsets) : Device :=
  d.onTgt i fun t => { t with offsets := modifyAt t.offsets k fun _ => o }

/-- SET SITE TARGET (R102, R103). -/
def applySetSiteTarget (a : SetSiteTargetArgs) (d : Device) : Device × Answer :=
  match eightOf a.site, fourOf a.stock with
  | some i, some k =>
    (arbitrate (produceIfUsed k i (d.setOffsets i k (offsetsOf a))),
      { result := .ok,
        flags := { clamped := offsetsClamped a, swapped := decide (limitOf a.high < limitOf a.low) } })
  | _, _ => refuse .range d

end Sys2Proof.Machine
end

