-- ==== Sys2Proof/Machine/DeviceCommands.lean ====
section
/-!
DEFINITION. The device-level commands QUIESCE, RESUME and DAY RESET (R200, R201 and the rules they name).
-/

namespace Sys2Proof.Machine

/-! ## QUIESCE and RESUME -/

/-- The ports with a transmission in progress as four flags (R200, R208). -/
def Device.busyPorts (d : Device) : Byte :=
  allFour.foldl (fun b p => if (d.port p).tx.isSome then b ||| (1#8 <<< p.val) else b) 0

/-- The device with the quiesced flag at a value. -/
def Device.setQuiesced (d : Device) (q : Bool) : Device := { d with base := { d.base with quiesced := q } }

/-- QUIESCE (R200): every ack and probe timer stops (R145, R149). DESIGN CHOICE (log 33): a running gap timer keeps the
count it has until RESUME sets it afresh (R174). -/
def applyQuiesce (d : Device) : Device × Answer :=
  (forSites syncTimers (d.setQuiesced true),
    { result := .ok, flags := { changed := !d.base.quiesced }, data := [d.busyPorts] })

/-- A GATE_WAIT gate takes a full count (R113). -/
def Gate.refill (timeout : Nat) : Gate → Gate
  | .wait _ => .wait (10 * timeout)
  | .idle => .idle
  | .bypass => .bypass

/-- A site at the end of quiescence: gap and gate take full counts, the timers start in full, and a page start is
looked for (R113, R145, R149, R174). -/
def unquiesceSite (i : SiteId) (d : Device) : Device :=
  lookPageStart i <| syncTimers i <| d.onSite i fun st =>
    { st with
      pace := st.pace.refillGap st.cfg.gapLength
      tgt := { st.tgt with gate := st.tgt.gate.refill st.cfg.gateTimeout } }

/-- RESUME (R171, R200). DEDUCED (log 19): in a part that is not quiesced it restarts nothing. -/
def applyResume (d : Device) : Device × Answer :=
  if d.base.quiesced then
    (arbitrate (forSites unquiesceSite (d.setQuiesced false)), { result := .ok, flags := { changed := true } })
  else okay d []

/-! ## DAY RESET -/

/-- The part's work of the night is discarded: page table, retained list, order counters, held flags, events, overrun
count (R28, R56, R63, R201), with the writes whose record is removed marked for R44. -/
def forgetNight (d : Device) : Device :=
  let mark := fun (b : Buffer) => match b with
    | .writing w => if (d.record w.ref.uid).isSome then .writing { w with dayReset := true } else .writing w
    | .free => .free
    | .receiving => .receiving
  { d with
    table := [], retained := [], retainedCount := 0, orderCounter := 0
    base := { d.base with plans := d.base.plans.map fun p => { p with held := false } }
    feed := { d.feed with
      buffers := d.feed.buffers.map mark, events := [], overflow := false, overrun := 0
      tx := d.feed.tx.map fun t => if t.source = .event then { t with source := .orphan } else t } }

/-- DAY RESET at one site that is neither DISABLED nor closing (R135, R157, R189). -/
def Site.dayReset (st : Site) : Site :=
  { st with
    q := SiteQueue.empty
    win := { st.win.emptied with link := .waiting }
    tgt := { st.tgt with gate := .idle }
    tone := { st.tone with clampCount := 0 }
    pace := { st.pace with credit := 0, level := 0, refCount := 0, resendCount := 0, ready := true, gap := none }
    halt := none }

/-- DAY RESET at a DISABLED site: clamp count, credit, gauge, ready flag, gap timer and gate (R90, R114, R166, R172,
R174, R177); it stays DISABLED (R157). -/
def Site.dayResetDisabled (st : Site) : Site :=
  { st with
    q := SiteQueue.empty
    tgt := { st.tgt with gate := .idle }
    tone := { st.tone with clampCount := 0 }
    pace := { st.pace with credit := 0, level := 0, refCount := 0, resendCount := 0, ready := true, gap := none } }

/-- DAY RESET at a site, with the owed postings of R108. At a closing site it changes nothing (R156; log 18). -/
def dayResetSite (i : SiteId) (d : Device) : Device :=
  if (d.site i).win.closing then d
  else if (d.site i).win.link = .disabled then d.onSite i Site.dayResetDisabled
  else oweUnacknowledged i (d.onSite i Site.dayReset)

/-- DAY RESET (R201). -/
def applyDayReset (d : Device) : Device × Answer :=
  okay (forSites dayResetSite ((forgetNight d).markIf fun _ => true)) []

end Sys2Proof.Machine
end

