-- ==== Sys2Proof/Machine/Query.lean ====
section
/-!
DEFINITION. The reports: QUERY PAGE, QUERY SITE, QUERY AREA, QUERY DEVICE and READ CURVE, byte by byte in the order
the owning rules name their items and in the widths of R208 (log 17 says what those leave open).
-/

namespace Sys2Proof.Machine

/-- A list whose length varies, behind a one-byte count of its members (R208). -/
def counted {α : Type} (f : α → List Byte) (l : List α) : List Byte := byteN l.length :: l.flatMap f

/-- A signed two-byte field (R203). -/
def signedHalf (n : Int) : List Byte := halfBytes (BitVec.ofInt 16 n)

/-! ## QUERY PAGE (R26, R27) -/

/-- Up to 64 flags in eight bytes, flag `b` in bit `b mod 8` of byte `b / 8` (R208). -/
def flagBytes (l : List Bool) : List Byte :=
  (List.range 8).map fun k => (List.range 8).foldl (fun byte j =>
    if (l[8 * k + j]?).getD false then byte ||| (1#8 <<< j) else byte) 0

/-- The present flags and the fault flags of a separation's bands (R26). -/
def bandFlags (l : List (Option BandEntry)) : List Byte :=
  flagBytes (l.map Option.isSome) ++ flagBytes (l.map fun e => e.any (·.fault))

/-- An approval with its present flag (R26). -/
def approvalBytes (a : Option Approval) : List Byte :=
  withPresentByte (a.map fun x =>
    byteN x.station :: (wordBytes x.expected ++ timeBytes x.approvedAt ++ [flagByte x.checked]))

/-- The report of one record (R26). The separations of the set, whose number varies, stand behind their count (R208). -/
def pageReport (d : Device) (v : PageVersion) : List Byte :=
  keyBytes v.key v.version ++ [v.cls.code, v.state.code] ++ halfN v.width ++ halfN v.height ++
    [v.seps.setWidth 8, byteN v.bandCount, byteN v.area.val] ++ wordBytes v.digest ++ timeBytes v.releaseAt ++
    timeBytes v.latest ++ approvalBytes v.approval ++ counted (fun s => bandFlags (entryOf v.bands s)) v.seps.list ++
    v.records.toList.flatMap (fun r => [r.state.code, flagByte r.late, causeCode r.cause]) ++
    [flagByte (d.reclaimable v)] ++ withPresentByte (v.retained.map wordBytes)

/-- The list of a key's present versions, in ascending version (R27). -/
def versionList (d : Device) (key : PageKey) : List Byte :=
  counted (fun v => [byteN v.version, v.state.code, flagByte (d.reclaimable v)])
    (sortByVersion (d.table.filter fun v => decide (v.key = key)))

/-- QUERY PAGE (R26, R27). -/
def applyQueryPage (key : KeyField) (d : Device) : Device × Answer :=
  if keyInRange key = false then refuse .range d
  else if versionOf key = 0 then okay d (versionList d (keyOf key))
  else
    match d.lookup (keyOf key) (versionOf key) with
    | some v => okay d (pageReport d v)
    | none => refuse .noPage d

/-! ## QUERY SITE -/

/-- A queue entry (R136). -/
def QueueEntry.bytes (e : QueueEntry) : List Byte :=
  keyBytes e.ref.key e.ref.version ++ [e.cls.code, e.seps.setWidth 8] ++ wordBytes e.order

/-- A cursor (R208): the separation and the band index, or FFh FFh at end. -/
def cursorBytes (c : Option (Sep × Nat)) : List Byte :=
  match c with
  | some (s, b) => [byteN s.val, byteN b]
  | none => [0xFF, 0xFF]

/-- A current delivery (R136). -/
def Delivery.bytes (c : Delivery) : List Byte :=
  keyBytes c.ref.key c.ref.version ++ [c.cls.code, c.seps.setWidth 8] ++ cursorBytes c.cursor ++ wordBytes c.sent ++
    [flagByte c.pageEnd]

/-- The site queue unit's items (R136). -/
def queueReport (q : SiteQueue) : List Byte :=
  halfN q.queue.length ++ counted QueueEntry.bytes (q.queue.take 8) ++ withPresentByte (q.current.map Delivery.bytes) ++
    counted (fun e => [e.kind.code]) q.control

/-- A timer: stopped, or its remaining count (R158, R175). DESIGN CHOICE (log 17): with a present byte. -/
def timerBytes (t : Option Nat) : List Byte := withPresentByte (t.map halfN)

/-- The remaining count of an ack timer that runs. -/
def AckTimer.count : AckTimer → Option Nat
  | .running n => some n
  | .stopped => none
  | .held => none

/-- A rank (R158). -/
def Rank.bytes (r : Rank) : List Byte :=
  halfBytes r.seq ++ [r.block.kind.code, flagByte r.pending] ++
    withPresentByte (r.block.slot.map fun k => [byteN k.val]) ++ halfN r.block.size

/-- A prepared block (R158): its kind and slot. -/
def Block.bytes (b : Block) : List Byte := [b.kind.code, byteN (b.slot.elim 0 Fin.val)]

/-- The send window's items (R158). -/
def windowReport (s : Settings) (w : Window) : List Byte :=
  [w.link.code, flagByte w.closing] ++ halfBytes w.nextSeq ++ [byteN w.retry] ++ timerBytes w.ackTimer.count ++
    timerBytes w.probeTimer ++ halfBytes s.code ++ [byteN s.ackTimeout, byteN s.retryLimit] ++
    counted Rank.bytes w.ranks ++ withPresentByte (w.prepared.map Block.bytes)

/-- The ready read-back (R175). -/
def Site.readyBack (st : Site) : Bool := if st.cfg.flow.obeys then st.pace.ready else st.pace.gap.isNone

/-- The pacer's items (R178, R175). DESIGN CHOICE (log 33): a gap timer whose counting is suspended is reported with the
count it had. -/
def pacerReport (st : Site) : List Byte :=
  byteN st.cfg.port.val :: (wordN st.pace.active ++ withPresentByte (st.pace.staged.map wordN) ++ wordN st.pace.eCur ++
    wordBytes (BitVec.ofInt 32 st.pace.credit) ++ [byteN st.pace.level, byteN st.pace.refCount] ++
    halfN st.pace.resendCount ++ [byteN st.cfg.highMark, byteN st.cfg.lowMark, st.cfg.flow.code] ++
    halfN st.cfg.gapLength ++ timerBytes st.pace.gap ++ [flagByte st.readyBack])

/-- The site condition logic's items (R190): the halt record follows the link state of a HALTED site. DESIGN CHOICE
(log 17): the seven flags of the halt mask are sent as the one byte that SET SITE carries them in. -/
def haltReport (st : Site) : List Byte :=
  [st.cfg.haltMask.setWidth 8, st.win.link.code] ++ st.halt.elim [] HaltRecord.bytes

/-- The block builder's and the tone engine's items (R99). -/
def toneReport (d : Device) (i : SiteId) : List Byte :=
  let st := d.site i
  withPresentByte (st.win.prepared.map fun b => [b.kind.code]) ++ [flagByte (d.preparing i)] ++
    halfN st.tone.clampCount ++
    st.cfg.gains.toList.flatMap halfN ++ halfN st.cfg.minDot ++ halfN st.cfg.maxDot ++ [flagByte st.cfg.solidHold]

/-- The twelve aims of a target. -/
def Aims.bytes (a : Aims) : List Byte := a.density.toList.flatMap halfN ++ a.tvi.toList.flatMap halfN

/-- A target record with the offsets and limits of its stock (R105, R102). -/
def targetReport (st : Site) (k : Stock) : List Byte :=
  let r := st.target k
  let o := entryOf st.tgt.offsets k
  withPresentByte (r.aims.map Aims.bytes) ++ [r.latestGen, r.ackedGen, flagByte r.owed] ++
    o.density.toList.flatMap signedHalf ++ o.tvi.toList.flatMap signedHalf ++ halfN o.low ++ halfN o.high

/-- The gate (R114): its state, the remaining count when GATE_WAIT, the gate timeout. DESIGN CHOICE (log 17): the count
follows the state GATE_WAIT with no present byte, and is left out in any other. -/
def gateReport (st : Site) : List Byte :=
  (match st.tgt.gate with
    | .idle => [0]
    | .wait n => 1 :: halfN n
    | .bypass => [2]) ++ halfN st.cfg.gateTimeout

/-- The report of a site (R136, R158, R178, R190, R99, R105, R114). -/
def siteReport (d : Device) (i : SiteId) : List Byte :=
  let st := d.site i
  queueReport st.q ++ windowReport st.cfg st.win ++ pacerReport st ++ haltReport st ++ toneReport d i ++
    allFour.flatMap (targetReport st) ++ gateReport st

/-- QUERY SITE. -/
def applyQuerySite (site : Byte) (d : Device) : Device × Answer :=
  match eightOf site with
  | some i => okay d (siteReport d i)
  | none => refuse .range d

/-! ## QUERY AREA (R35) -/

/-- The free cells of an area (R31, R35). -/
def Device.freeIn (d : Device) (a : Area) : Nat :=
  if a.enabled then ((List.range a.length).filter fun k => d.cellFree a (a.base + k)).length else 0

/-- The report of an area (R35): a disabled area's counts are 0. -/
def areaReport (d : Device) (n : Fin 8) : List Byte :=
  let a := entryOf d.base.areas n
  let count := fun (k : Nat) => halfN (if a.enabled then k else 0)
  flagByte a.enabled :: (halfN a.base ++ halfN a.length ++ [a.mtch ++ a.mask] ++ count (d.freeIn a) ++
    count (d.recordedIn a) ++ count (d.heldIn a) ++ count (d.referring n))

/-- QUERY AREA (R35). -/
def applyQueryArea (area : Byte) (d : Device) : Device × Answer :=
  match eightOf area with
  | some n => okay d (areaReport d n)
  | none => refuse .range d

/-! ## QUERY DEVICE (R202) -/

/-- The kind of the block a preparation makes (R92). -/
def Job.kind : Job → BlockKind
  | .plate _ => .plate
  | .pageEnd _ _ _ _ => .pageEnd
  | .control e => e.kind

/-- The builder's state (R92): idle, or the site and block kind of the preparation in flight. -/
def builderReport (b : Builder) : List Byte :=
  match b.inFlight with
  | none => [1]
  | some p => [0, byteN p.site.val, p.job.kind.code]

/-- A port (R178). -/
def portReport (d : Device) (p : PortId) : List Byte :=
  let x := d.port p
  halfN x.active ++ withPresentByte (x.staged.map halfN) ++ halfN x.remaining ++ [byteN x.last.val] ++
    withPresentByte (x.tx.map fun t => [byteN t.site.val]) ++
    [siteFlags (allSites.filter fun i => decide ((d.site i).cfg.port = p))]

/-- The number of intake buffers in use (R192). -/
def Feed.buffersInUse (f : Feed) : Nat := (f.buffers.toList.filter fun b => decide (b ≠ .free)).length

/-- The feed port's items (R202). -/
def feedReport (f : Feed) : List Byte :=
  halfN f.cmds.length ++ halfN f.replies.length ++ halfN f.events.length ++ [flagByte f.overflow] ++
    halfN f.overrun ++ halfN f.buffersInUse ++ [flagByte f.hold]

/-- The report of the part (R202). -/
def deviceReport (d : Device) : List Byte :=
  wordN d.base.clock.count ++ [flagByte d.base.clock.unset] ++
    d.base.plans.toList.flatMap (fun p => p.bytes ++ [flagByte p.held]) ++ wordBytes d.orderCounter ++
    builderReport d.builder ++ d.base.groups.toList.flatMap (fun g => flagByte g.set :: g.aims.bytes) ++
    allFour.flatMap (portReport d) ++ [flagByte d.base.quiesced] ++ feedReport d.feed

/-- QUERY DEVICE (R202). -/
def applyQueryDevice (d : Device) : Device × Answer := okay d (deviceReport d)

/-! ## READ CURVE (R83) -/

/-- The knots of a curve set's four curves. -/
def CurveSet.bytes (c : CurveSet) : List Byte := c.curves.toList.flatMap fun k => k.toList.flatMap halfN

/-- The curves and arm state of a site (R83). -/
def curveReport (t : Tone) : List Byte :=
  t.active.bytes ++ t.pending.bytes ++ [byteN t.active.stock.val, byteN t.pending.stock.val] ++ armBytes t.arm

/-- READ CURVE (R83). -/
def applyReadCurve (site : Byte) (d : Device) : Device × Answer :=
  match eightOf site with
  | some i => okay d (curveReport (d.site i).tone)
  | none => refuse .range d

end Sys2Proof.Machine
end

