-- ==== Sys2Proof/Machine/FeedUnit.lean ====
section
/-!
DEFINITION. The command unit and the feed link (chapter 10): the command queue (R193), the taking of commands and
their replies (R195, R196), and the loss and return of the link (R191, R192, R199).
-/

namespace Sys2Proof.Machine

/-- What a command does and answers (R195); a malformed one is refused with FORMAT. -/
def applyCommand (c : Command) (d : Device) : Device × Answer :=
  match c with
  | .openPage a => applyOpenPage a d
  | .approve a => applyApprove a d
  | .withdraw key flags => applyWithdraw key flags d
  | .purge key => applyPurge key d
  | .sendPage key site => applySendPage key site d
  | .setPlan edition entries => applySetPlan edition entries d
  | .holdEdition edition => applyHoldEdition edition d
  | .openEdition edition => applyOpenEdition edition d
  | .setClock count => applySetClock count d
  | .defineArea a => applyDefineArea a d
  | .setSite a => applySetSite a d
  | .enableSite site => applyEnableSite site d
  | .disableSite site => applyDisableSite site d
  | .resumeSite site => applyResumeSite site d
  | .setAllotment site allotment => applySetAllotment site allotment d
  | .setPort port period => applySetPort port period d
  | .loadCurve site sep knots => applyLoadCurve site sep knots d
  | .armCurves site stock flags => applyArmCurves site stock flags d
  | .setGroupTarget a => applySetGroupTarget a d
  | .setSiteTarget a => applySetSiteTarget a d
  | .quiesce => applyQuiesce d
  | .resume => applyResume d
  | .dayReset => applyDayReset d
  | .queryPage key => applyQueryPage key d
  | .querySite site => applyQuerySite site d
  | .queryArea area => applyQueryArea area d
  | .queryDevice => applyQueryDevice d
  | .readCurve site => applyReadCurve site d
  | .malformed _ => refuse .format d

/-- The device with a reply placed at the tail of the reply queue (R195). -/
def Device.reply (d : Device) (r : Reply) : Device := { d with feed := joinReply r d.feed }

/-- A command in hand is applied and its reply placed (R195, R196). -/
def answerCommand (q : QueuedCommand) (d : Device) : Device :=
  let p := applyCommand q.cmd d
  p.1.reply { tag := q.tag, code := q.cmd.code, answer := p.2 }

/-- The command unit is asked: it takes the head of the command queue when the reply queue has room (R195). -/
def takeCommand (d : Device) : Device :=
  match d.feed.cmds with
  | q :: rest =>
    if d.feed.replies.length < Config.replyCapacity then
      answerCommand q { d with feed := { d.feed with cmds := rest } }
    else d
  | [] => d

/-- A command frame joins the command queue, or is discarded with FEED_OVERRUN when it holds 16; the command unit is
then asked (R193, R195; log 1). While the feed link is down no frame arrives (log 16). -/
def submit (q : QueuedCommand) (d : Device) : Device :=
  if d.feed.linkUp then
    if d.feed.cmds.length < Config.commandCapacity then
      takeCommand { d with feed := { d.feed with cmds := d.feed.cmds ++ [q] } }
    else overrun 0x02 q.tag .queueFull d
  else d

/-- The feed link is lost (R191, R192, R199): frames that have begun to arrive are dropped, their buffers freed, and
the outbound transmission is abandoned, its frame staying at the head of its queue. -/
def Feed.lose (f : Feed) : Feed :=
  { f with
    linkUp := false, arrivals := [], tx := none
    buffers := f.buffers.map fun b => if b = .receiving then .free else b }

/-- The outbound frame leaves its queue (R199): a frame whose queue DAY RESET emptied leaves none. -/
def Feed.sent (t : FeedTx) (f : Feed) : Feed :=
  match t.source with
  | .reply => { f with tx := none, replies := f.replies.tail }
  | .event => { f with tx := none, events := f.events.tail }
  | .orphan => { f with tx := none }

/-- The outbound frame is reported sent (R199): after a reply the command unit is asked, and then the transmitter. -/
def finishSent (t : FeedTx) (d : Device) : Device :=
  let d := { d with feed := d.feed.sent t }
  let d := if t.source = .reply then takeCommand d else d
  { d with feed := feedAsk d.feed }

end Sys2Proof.Machine
end

