-- ==== Sys2Proof/Machine/Answer.lean ====
section
/-!
DEFINITION. The outcome of a command: the part never stops (R180, R196), so every command answers a next state, in
which only the device has changed.
-/

namespace Sys2Proof.Machine

/-- A command whose effect on the device is `f`. -/
def onDevice (f : Device → Device) (s : State) : Host.Outcome State Fault Refusal := .next { s with dev := f s.dev }

/-- A command of the feed port: its frame arrives well formed (R195; log 1). -/
def onCommand (tag : Byte) (c : Command) (s : State) : Host.Outcome State Fault Refusal :=
  onDevice (submit { tag := tag, cmd := c }) s

end Sys2Proof.Machine
end

