-- ==== Sys2Proof/Machine/CommandRows.lean ====
section
/-!
DEFINITION. The meanings of the 28 command rows of R207: the arrival of that command's well-formed frame, which joins
the command queue and is taken in the same step when the reply queue has room (R193, R195; log 1). What each command
does is its `apply` definition, in the rule named.
-/

namespace Sys2Proof.Machine

/-- OPEN PAGE (R4 to R8). -/
def execOpenPage (tag : Byte) (a : OpenPageArgs) (s : State) : Host.Outcome State Fault Refusal :=
  onCommand tag (.openPage a) s

/-- APPROVE (R11 to R13). -/
def execApprove (tag : Byte) (a : ApproveArgs) (s : State) : Host.Outcome State Fault Refusal :=
  onCommand tag (.approve a) s

/-- WITHDRAW (R20, R21). -/
def execWithdraw (tag : Byte) (key : KeyField) (flags : Byte) (s : State) : Host.Outcome State Fault Refusal :=
  onCommand tag (.withdraw key flags) s

/-- PURGE (R25). -/
def execPurge (tag : Byte) (key : KeyField) (s : State) : Host.Outcome State Fault Refusal :=
  onCommand tag (.purge key) s

/-- SEND PAGE (R71, R72). -/
def execSendPage (tag : Byte) (key : KeyField) (site : Byte) (s : State) : Host.Outcome State Fault Refusal :=
  onCommand tag (.sendPage key site) s

/-- SET PLAN (R57). -/
def execSetPlan (tag : Byte) (edition : Byte) (entries : Vector Byte 8) (s : State) :
    Host.Outcome State Fault Refusal :=
  onCommand tag (.setPlan edition entries) s

/-- HOLD EDITION (R58). -/
def execHoldEdition (tag : Byte) (edition : Byte) (s : State) : Host.Outcome State Fault Refusal :=
  onCommand tag (.holdEdition edition) s

/-- OPEN EDITION (R59). -/
def execOpenEdition (tag : Byte) (edition : Byte) (s : State) : Host.Outcome State Fault Refusal :=
  onCommand tag (.openEdition edition) s

/-- SET CLOCK (R53). -/
def execSetClock (tag : Byte) (count : Word) (s : State) : Host.Outcome State Fault Refusal :=
  onCommand tag (.setClock count) s

/-- DEFINE AREA (R33, R34). -/
def execDefineArea (tag : Byte) (a : DefineAreaArgs) (s : State) : Host.Outcome State Fault Refusal :=
  onCommand tag (.defineArea a) s

/-- SET SITE (R197). -/
def execSetSite (tag : Byte) (a : SetSiteArgs) (s : State) : Host.Outcome State Fault Refusal :=
  onCommand tag (.setSite a) s

/-- ENABLE SITE (R134). -/
def execEnableSite (tag : Byte) (site : Byte) (s : State) : Host.Outcome State Fault Refusal :=
  onCommand tag (.enableSite site) s

/-- DISABLE SITE (R133, R156). -/
def execDisableSite (tag : Byte) (site : Byte) (s : State) : Host.Outcome State Fault Refusal :=
  onCommand tag (.disableSite site) s

/-- RESUME SITE (R187). -/
def execResumeSite (tag : Byte) (site : Byte) (s : State) : Host.Outcome State Fault Refusal :=
  onCommand tag (.resumeSite site) s

/-- SET ALLOTMENT (R163). -/
def execSetAllotment (tag : Byte) (site : Byte) (allotment : Word) (s : State) : Host.Outcome State Fault Refusal :=
  onCommand tag (.setAllotment site allotment) s

/-- SET PORT (R162). -/
def execSetPort (tag : Byte) (port : Byte) (period : Half) (s : State) : Host.Outcome State Fault Refusal :=
  onCommand tag (.setPort port period) s

/-- LOAD CURVE (R77). -/
def execLoadCurve (tag : Byte) (site sep : Byte) (knots : Vector Half 17) (s : State) :
    Host.Outcome State Fault Refusal :=
  onCommand tag (.loadCurve site sep knots) s

/-- ARM CURVES (R79, R80). -/
def execArmCurves (tag : Byte) (site stock flags : Byte) (s : State) : Host.Outcome State Fault Refusal :=
  onCommand tag (.armCurves site stock flags) s

/-- SET GROUP TARGET (R100, R101). -/
def execSetGroupTarget (tag : Byte) (a : SetGroupTargetArgs) (s : State) : Host.Outcome State Fault Refusal :=
  onCommand tag (.setGroupTarget a) s

/-- SET SITE TARGET (R102, R103). -/
def execSetSiteTarget (tag : Byte) (a : SetSiteTargetArgs) (s : State) : Host.Outcome State Fault Refusal :=
  onCommand tag (.setSiteTarget a) s

/-- QUIESCE (R200). -/
def execQuiesce (tag : Byte) (s : State) : Host.Outcome State Fault Refusal :=
  onCommand tag .quiesce s

/-- RESUME (R200). -/
def execResume (tag : Byte) (s : State) : Host.Outcome State Fault Refusal :=
  onCommand tag .resume s

/-- DAY RESET (R201). -/
def execDayReset (tag : Byte) (s : State) : Host.Outcome State Fault Refusal :=
  onCommand tag .dayReset s

/-- QUERY PAGE (R26, R27). -/
def execQueryPage (tag : Byte) (key : KeyField) (s : State) : Host.Outcome State Fault Refusal :=
  onCommand tag (.queryPage key) s

/-- QUERY SITE (R136, R158, R178, R190). -/
def execQuerySite (tag : Byte) (site : Byte) (s : State) : Host.Outcome State Fault Refusal :=
  onCommand tag (.querySite site) s

/-- QUERY AREA (R35). -/
def execQueryArea (tag : Byte) (area : Byte) (s : State) : Host.Outcome State Fault Refusal :=
  onCommand tag (.queryArea area) s

/-- QUERY DEVICE (R202). -/
def execQueryDevice (tag : Byte) (s : State) : Host.Outcome State Fault Refusal :=
  onCommand tag .queryDevice s

/-- READ CURVE (R83). -/
def execReadCurve (tag : Byte) (site : Byte) (s : State) : Host.Outcome State Fault Refusal :=
  onCommand tag (.readCurve site) s

end Sys2Proof.Machine
end

