-- ==== Sys2Proof/Machine/FeedRows.lean ====
section
/-!
DEFINITION. The meanings of the feed port's rows: band frames (R192, R37), command frames (R193), the link (R191,
R199) and the outbound frame sent (R199). No frame arrives while the link is down (log 16), and a row with nothing to
act on changes nothing (log 3).
-/

namespace Sys2Proof.Machine

/-- BAND_FRAME_ARRIVAL_BEGINS (R192). -/
def execBandFrameArrivalBegins (s : State) : Host.Outcome State Fault Refusal :=
  onDevice (fun d => if d.feed.linkUp then beginArrival d else d) s

/-- A band frame arrives whole: it is the oldest that has begun, or one that begins now (R192; log 15). -/
def takeArrival (f : FeedFrame) (d : Device) : Device :=
  let p := endArrival (if d.feed.arrivals.isEmpty then beginArrival d else d)
  bandArrived p.2 f p.1

/-- BAND_FRAME (R191, R192, R37). -/
def execBandFrame (f : FeedFrame) (s : State) : Host.Outcome State Fault Refusal :=
  onDevice (fun d => if d.feed.linkUp then takeArrival f d else d) s

/-- COMMAND_FRAME (R191, R193, R195). -/
def execCommandFrame (f : FeedFrame) (s : State) : Host.Outcome State Fault Refusal :=
  onDevice (fun d => if commandPasses f then submit { tag := f.tag, cmd := parseCommand f.payload } d else d) s

/-- FEED_LINK_LOST (R191, R192, R199). -/
def execFeedLinkLost (s : State) : Host.Outcome State Fault Refusal :=
  onDevice (fun d => { d with feed := d.feed.lose }) s

/-- FEED_LINK_REGAINED (R191, R199). -/
def execFeedLinkRegained (s : State) : Host.Outcome State Fault Refusal :=
  onDevice (fun d => { d with feed := feedAsk { d.feed with linkUp := true } }) s

/-- FEED_FRAME_SENT (R199, R195). -/
def execFeedFrameSent (s : State) : Host.Outcome State Fault Refusal :=
  onDevice (fun d => match d.feed.tx with
    | some t => finishSent t d
    | none => d) s

end Sys2Proof.Machine
end

