-- ==== Sys2Proof/Machine/ReturnRows.lean ====
section
/-!
DEFINITION. The meanings of the six return frames (R151, R152, R203, R211), each arriving whole on a site port.
-/

namespace Sys2Proof.Machine

/-- ACK (R141, R142, R150). -/
def execAck (p : PortId) (f : ReturnFrame) (s : State) : Host.Outcome State Fault Refusal :=
  onDevice (takeReturn 0x01 2 p f (takeAck (returnNumber f))) s

/-- MISS (R143, R150). -/
def execMiss (p : PortId) (f : ReturnFrame) (s : State) : Host.Outcome State Fault Refusal :=
  onDevice (takeReturn 0x02 2 p f (takeMiss (returnNumber f))) s

/-- PAUSE (R172, R150). -/
def execPause (p : PortId) (f : ReturnFrame) (s : State) : Host.Outcome State Fault Refusal :=
  onDevice (takeReturn 0x03 0 p f (setReady false)) s

/-- RESUME as a return frame (R172, R150). -/
def execResumeFrame (p : PortId) (f : ReturnFrame) (s : State) : Host.Outcome State Fault Refusal :=
  onDevice (takeReturn 0x04 0 p f (setReady true)) s

/-- HELLO (R152 to R155). -/
def execHello (p : PortId) (f : ReturnFrame) (s : State) : Host.Outcome State Fault Refusal :=
  onDevice (fun d =>
    if returnPasses f 0x05 1 then
      match d.siteOn p f.code with
      | some i => takeHello (returnRestart f) i d
      | none => strayHello p f.code d
    else d) s

/-- REMAKE (R130, R131, R150). -/
def execRemake (p : PortId) (f : ReturnFrame) (s : State) : Host.Outcome State Fault Refusal :=
  onDevice (takeReturn 0x06 4 p f (takeRemake (returnRemake f).1 (returnRemake f).2)) s

end Sys2Proof.Machine
end

