-- ==== Sys2Proof/Machine/StoreRows.lean ====
section
/-!
DEFINITION. The meanings of the completions: BAND_WRITE_COMPLETE, REPAIR_WRITE_COMPLETE, PREPARATION_COMPLETE,
UNCORRECTABLE_READ and TRANSMISSION_END. A completion of nothing changes nothing (log 3).
-/

namespace Sys2Proof.Machine

/-- BAND_WRITE_COMPLETE (R42 to R44). -/
def execBandWriteComplete (b : Fin 4) (s : State) : Host.Outcome State Fault Refusal :=
  onDevice (fun d => match entryOf d.feed.buffers b with
    | .writing w => if w.repair then d else arbitrate (finishNewBand b w d)
    | .free => d
    | .receiving => d) s

/-- REPAIR_WRITE_COMPLETE (R47, R48). -/
def execRepairWriteComplete (b : Fin 4) (s : State) : Host.Outcome State Fault Refusal :=
  onDevice (fun d => match entryOf d.feed.buffers b with
    | .writing w => if w.repair ∧ ¬ w.ended then arbitrate (endRepair b w d) else d
    | .free => d
    | .receiving => d) s

/-- PREPARATION_COMPLETE (R95 to R97): the repair writes that waited for the read are completed too (R47). -/
def execPreparationComplete (s : State) : Host.Outcome State Fault Refusal :=
  onDevice (fun d => match d.builder.inFlight with
    | some p => arbitrate (finishEnded (completePreparation p d))
    | none => d) s

/-- The read of a preparation in flight is uncorrectable; only a PLATE block's preparation reads a band (R49, R98).
DESIGN CHOICE (log 30): where an ended repair waits for the read (R47), the failure of the read comes first, with its
fault flag and STORE_ERROR, and the repair is recorded after it. -/
def uncorrectable (p : Preparation) (d : Device) : Device :=
  match p.job with
  | .plate j => arbitrate (finishEnded (failRead p j d))
  | .pageEnd _ _ _ _ => d
  | .control _ => d

/-- UNCORRECTABLE_READ (R49, R98). -/
def execUncorrectableRead (s : State) : Host.Outcome State Fault Refusal :=
  onDevice (fun d => match d.builder.inFlight with
    | some p => uncorrectable p d
    | none => d) s

/-- TRANSMISSION_END (R170). -/
def execTransmissionEnd (p : PortId) (s : State) : Host.Outcome State Fault Refusal :=
  onDevice (fun d => match (d.port p).tx with
    | some t => arbitrate (endTransmission p t d)
    | none => d) s

end Sys2Proof.Machine
end

