-- ==== Sys2Proof/Machine/TimeRows.lean ====
section
/-!
DEFINITION. The meanings of POWER_ON_RESET, the ticks, PERIOD_END and the timer expiries. A tick brings about the
period ends and expiries that fall at it; the rows of their own stand for the event occurring (log 4).
-/

namespace Sys2Proof.Machine

/-- POWER_ON_RESET (section 10.5, R28, R45, R51): everything at its power-on value. The queue of commands and the
count of free values read are the model's own and stay (log 14). -/
def execPowerOnReset (s : State) : Host.Outcome State Fault Refusal :=
  onDevice (fun d => { Device.reset with free := d.free }) s

/-- TICK_1MS (R51, R161). -/
def execTick1ms (s : State) : Host.Outcome State Fault Refusal := onDevice (fun d => arbitrate (tick1 d)) s

/-- TICK_10MS (R51, R174). -/
def execTick10ms (s : State) : Host.Outcome State Fault Refusal := onDevice (fun d => arbitrate (tick10 d)) s

/-- TICK_100MS (R51, R52, R61, R73, R113, R145, R149). -/
def execTick100ms (s : State) : Host.Outcome State Fault Refusal := onDevice (fun d => arbitrate (tick100 d)) s

/-- PERIOD_END (R161, R165). -/
def execPeriodEnd (p : PortId) (s : State) : Host.Outcome State Fault Refusal :=
  onDevice (fun d => arbitrate (endPeriod p d)) s

/-- GAP_TIMER_EXPIRY (R174): a gap timer that counts reaches 0. -/
def execGapTimerExpiry (i : SiteId) (s : State) : Host.Outcome State Fault Refusal :=
  onDevice (fun d =>
    if (d.site i).pace.gap.isSome ∧ ¬ d.base.quiesced ∧ (d.site i).win.link ≠ .halted then arbitrate (expireGap i d)
    else d) s

/-- The ack timer runs. -/
def AckTimer.runs : AckTimer → Bool
  | .running _ => true
  | .stopped => false
  | .held => false

/-- ACK_TIMER_EXPIRY (R147, R148): an ack timer that runs reaches 0. -/
def execAckTimerExpiry (i : SiteId) (s : State) : Host.Outcome State Fault Refusal :=
  onDevice (fun d => if (d.site i).win.ackTimer.runs then arbitrate (expireAck i d) else d) s

/-- PROBE_TIMER_EXPIRY (R149): a probe timer that runs reaches 0. -/
def execProbeTimerExpiry (i : SiteId) (s : State) : Host.Outcome State Fault Refusal :=
  onDevice (fun d => if (d.site i).win.probeTimer.isSome then arbitrate (expireProbe i d) else d) s

/-- The gate is GATE_WAIT. -/
def Gate.waits : Gate → Bool
  | .wait _ => true
  | .idle => false
  | .bypass => false

/-- GATE_TIMER_EXPIRY (R113): a gate count that counts reaches 0. -/
def execGateTimerExpiry (i : SiteId) (s : State) : Host.Outcome State Fault Refusal :=
  onDevice (fun d =>
    if (d.site i).tgt.gate.waits ∧ ¬ d.base.quiesced ∧ (d.site i).win.link ≠ .halted then arbitrate (expireGate i d)
    else d) s

end Sys2Proof.Machine
end

