-- ==== Sys2Proof/Machine/Dispatch.lean ====
section
/-!
DEFINITION. The meaning of every command, one arm per row of spec/opcode_table.json.
-/

namespace Sys2Proof.Machine

def exec (i : Instr) (s : State) : Host.Outcome State Fault Refusal :=
  match i with
  | .powerOnReset => Sys2Proof.Machine.execPowerOnReset s
  | .tick1ms => Sys2Proof.Machine.execTick1ms s
  | .tick10ms => Sys2Proof.Machine.execTick10ms s
  | .tick100ms => Sys2Proof.Machine.execTick100ms s
  | .periodEnd p => Sys2Proof.Machine.execPeriodEnd p s
  | .gapTimerExpiry site => Sys2Proof.Machine.execGapTimerExpiry site s
  | .ackTimerExpiry site => Sys2Proof.Machine.execAckTimerExpiry site s
  | .probeTimerExpiry site => Sys2Proof.Machine.execProbeTimerExpiry site s
  | .gateTimerExpiry site => Sys2Proof.Machine.execGateTimerExpiry site s
  | .bandFrameArrivalBegins => Sys2Proof.Machine.execBandFrameArrivalBegins s
  | .bandFrame f => Sys2Proof.Machine.execBandFrame f s
  | .commandFrame f => Sys2Proof.Machine.execCommandFrame f s
  | .feedLinkLost => Sys2Proof.Machine.execFeedLinkLost s
  | .feedLinkRegained => Sys2Proof.Machine.execFeedLinkRegained s
  | .feedFrameSent => Sys2Proof.Machine.execFeedFrameSent s
  | .bandWriteComplete b => Sys2Proof.Machine.execBandWriteComplete b s
  | .repairWriteComplete b => Sys2Proof.Machine.execRepairWriteComplete b s
  | .preparationComplete => Sys2Proof.Machine.execPreparationComplete s
  | .uncorrectableRead => Sys2Proof.Machine.execUncorrectableRead s
  | .transmissionEnd p => Sys2Proof.Machine.execTransmissionEnd p s
  | .ack p f => Sys2Proof.Machine.execAck p f s
  | .miss p f => Sys2Proof.Machine.execMiss p f s
  | .pause p f => Sys2Proof.Machine.execPause p f s
  | .resumeFrame p f => Sys2Proof.Machine.execResumeFrame p f s
  | .hello p f => Sys2Proof.Machine.execHello p f s
  | .remake p f => Sys2Proof.Machine.execRemake p f s
  | .openPage tag a => Sys2Proof.Machine.execOpenPage tag a s
  | .approve tag a => Sys2Proof.Machine.execApprove tag a s
  | .withdraw tag key flags => Sys2Proof.Machine.execWithdraw tag key flags s
  | .purge tag key => Sys2Proof.Machine.execPurge tag key s
  | .sendPage tag key site => Sys2Proof.Machine.execSendPage tag key site s
  | .setPlan tag edition entries => Sys2Proof.Machine.execSetPlan tag edition entries s
  | .holdEdition tag edition => Sys2Proof.Machine.execHoldEdition tag edition s
  | .openEdition tag edition => Sys2Proof.Machine.execOpenEdition tag edition s
  | .setClock tag count => Sys2Proof.Machine.execSetClock tag count s
  | .defineArea tag a => Sys2Proof.Machine.execDefineArea tag a s
  | .setSite tag a => Sys2Proof.Machine.execSetSite tag a s
  | .enableSite tag site => Sys2Proof.Machine.execEnableSite tag site s
  | .disableSite tag site => Sys2Proof.Machine.execDisableSite tag site s
  | .resumeSite tag site => Sys2Proof.Machine.execResumeSite tag site s
  | .setAllotment tag site allotment => Sys2Proof.Machine.execSetAllotment tag site allotment s
  | .setPort tag port period => Sys2Proof.Machine.execSetPort tag port period s
  | .loadCurve tag site sep knots => Sys2Proof.Machine.execLoadCurve tag site sep knots s
  | .armCurves tag site stock flags => Sys2Proof.Machine.execArmCurves tag site stock flags s
  | .setGroupTarget tag a => Sys2Proof.Machine.execSetGroupTarget tag a s
  | .setSiteTarget tag a => Sys2Proof.Machine.execSetSiteTarget tag a s
  | .quiesce tag => Sys2Proof.Machine.execQuiesce tag s
  | .resume tag => Sys2Proof.Machine.execResume tag s
  | .dayReset tag => Sys2Proof.Machine.execDayReset tag s
  | .queryPage tag key => Sys2Proof.Machine.execQueryPage tag key s
  | .querySite tag site => Sys2Proof.Machine.execQuerySite tag site s
  | .queryArea tag area => Sys2Proof.Machine.execQueryArea tag area s
  | .queryDevice tag => Sys2Proof.Machine.execQueryDevice tag s
  | .readCurve tag site => Sys2Proof.Machine.execReadCurve tag site s

end Sys2Proof.Machine
end

