-- ==== Sys2Proof/Safety.lean ====
section
/-!
DEFINITION. What the manual says holds of the part at every moment, in the terms the statements use: ranges of counts
and settings, the laws of the band region, the send windows, the credit, the control lists, the halt records and the
feed port's queues, and the canonical form of the store.
-/

namespace Sys2Proof.Machine

/-- The timebase counts run 0-9 and the night clock count 0-863 999 (R51, R52). -/
abbrev Base.InRange (b : Base) : Prop := b.ms < 10 ∧ b.tens < 10 ∧ b.clock.count < 864000

/-- The settings of a site are in their ranges (R84, R112, R138, R172, R177). -/
abbrev Settings.InRange (c : Settings) : Prop :=
  c.gapLength ≤ 255 ∧ (1 ≤ c.ackTimeout ∧ c.ackTimeout ≤ 255) ∧ (1 ≤ c.retryLimit ∧ c.retryLimit ≤ 15) ∧
    (1 ≤ c.highMark ∧ c.highMark ≤ 63) ∧ c.lowMark < c.highMark ∧ (1 ≤ c.gateTimeout ∧ c.gateTimeout ≤ 255) ∧
    (∀ k : Fin 4, 224 ≤ entryOf c.gains k ∧ entryOf c.gains k ≤ 288) ∧ c.minDot ≤ 31 ∧
    (224 ≤ c.maxDot ∧ c.maxDot ≤ 255)

/-- Every site's settings are in range and no two sites have the same site code (R138, R197). -/
abbrev Device.SettingsLaw (d : Device) : Prop :=
  (∀ i : SiteId, (d.site i).cfg.InRange) ∧
    ∀ i j : SiteId, i ≠ j → (d.site i).cfg.code ≠ (d.site j).cfg.code

/-- A curve is valid: its knots do not decrease and none is above 4080 (R76). -/
abbrev Curve.Valid (k : Curve) : Prop := (∀ j : Fin 16, k[j.val] ≤ k[j.val + 1]) ∧ ∀ j : Fin 17, k[j.val] ≤ 4080

/-- Every curve held in a curve set is valid (R76). -/
abbrev Device.CurveLaw (d : Device) : Prop :=
  ∀ (i : SiteId) (s : Sep), (entryOf (d.site i).tone.active.curves s).Valid ∧
    (entryOf (d.site i).tone.pending.curves s).Valid

/-- No block is larger than a header and 32 768 bytes (R166): the ranks', the prepared block's, and the payload a
preparation of a PAGE_END holds. -/
abbrev Device.SizeLaw (d : Device) : Prop :=
  (∀ i : SiteId, (∀ r ∈ (d.site i).win.ranks, r.block.size ≤ 32800) ∧
      ∀ b ∈ (d.site i).win.prepared, b.size ≤ 32800) ∧
    ∀ p ∈ d.builder.inFlight, ∀ (id : Nat) (ref : PageRef) (ident : Ident) (payload : List Byte),
      p.job = .pageEnd id ref ident payload → payload.length ≤ 32768

/-- The credit law of R165, with the bounds of R163 on the active and the staged allotment. -/
abbrev Site.CreditLaw (st : Site) : Prop :=
  (-32800 < st.pace.credit ∧ st.pace.credit ≤ (st.pace.eCur : Int)) ∧ st.pace.eCur ≤ st.pace.active ∧
    st.pace.active ≤ 1048575 ∧ ∀ a ∈ st.pace.staged, a ≤ 1048575

/-- The credit law holds at every site, and every block's size is at most 32 800 (R165, R166). -/
abbrev Device.CreditLaw (d : Device) : Prop := d.SizeLaw ∧ ∀ i : SiteId, (d.site i).CreditLaw

/-- The sequence numbers of ranks count on from `n` modulo 65 536 (R137). -/
def seqsFrom : Half → List Rank → Prop
  | _, [] => True
  | n, r :: rs => r.seq = n ∧ seqsFrom (n + 1) rs

/-- The window law of R137: ranks and prepared block at most sixteen, sequence numbers consecutive and next seq the
one after the last rank's. -/
def Window.Law (w : Window) : Prop :=
  w.count ≤ 16 ∧ seqsFrom (w.nextSeq - BitVec.ofNat 16 w.ranks.length) w.ranks

/-- The window law at every site; a site for which a preparation is in flight has no prepared block and room for
one (R91). -/
def Device.WindowLaw (d : Device) : Prop :=
  (∀ i : SiteId, (d.site i).win.Law) ∧
    ∀ p ∈ d.builder.inFlight, (d.site p.site).win.prepared = none ∧ (d.site p.site).win.ranks.length < 16

/-- A control list holds at most sixteen entries, at most one of them a TARGET of each stock and none of a stock that
is owed (R105, R106, R120). -/
abbrev Device.ControlLaw (d : Device) : Prop :=
  ∀ i : SiteId, (d.site i).q.control.length ≤ 16 ∧
    ∀ k : Stock, ((d.site i).q.control.filter (·.isTarget k)).length ≤ 1 ∧
      (((d.site i).target k).owed = true → (d.site i).q.control.any (·.isTarget k) = false)

/-- The links of a site: a halt record exactly in HALTED, with a resume state WAITING or ACTIVE (R182); an ack timer
that runs or is held only in ACTIVE (R145); a probe timer that runs only in LINK_LOST (R149). -/
abbrev Site.LinkLaw (st : Site) : Prop :=
  (st.halt.isSome = true ↔ st.win.link = .halted) ∧
    (∀ h ∈ st.halt, h.resume = .waiting ∨ h.resume = .active) ∧
    (st.win.ackTimer ≠ .stopped → st.win.link = .active) ∧ (st.win.probeTimer ≠ none → st.win.link = .linkLost)

/-- The links of every site. -/
abbrev Device.LinkLaw (d : Device) : Prop := ∀ i : SiteId, (d.site i).LinkLaw

/-- The cells recorded in band maps, band by band and version by version (R31). -/
def Device.recordedCells (d : Device) : List Nat := d.table.flatMap fun v => v.entries.map BandEntry.cell

/-- The cell a buffer's band write holds (R31). -/
def Buffer.cell : Buffer → Option Nat
  | .writing w => some w.cell
  | .free => none
  | .receiving => none

/-- The cells held by band writes in flight (R31). -/
def Device.heldCells (d : Device) : List Nat := d.feed.buffers.toList.filterMap Buffer.cell

/-- The cell law of R31: no cell is recorded twice, held twice, or both; with the identities it rests on. -/
abbrev Device.CellLaw (d : Device) : Prop :=
  (d.recordedCells ++ d.heldCells).Nodup ∧ (d.table.map PageVersion.uid).Nodup ∧ ∀ v ∈ d.table, v.uid < d.serial

/-- The extents of any two enabled areas are disjoint, and each lies in the band region (R31, R33). -/
abbrev Base.AreaLaw (b : Base) : Prop :=
  ∀ i : Fin 8, (entryOf b.areas i).enabled = true →
    (entryOf b.areas i).base + (entryOf b.areas i).length ≤ 32640 ∧
      ∀ j : Fin 8, i ≠ j → (entryOf b.areas j).enabled = true →
        (entryOf b.areas i).shares (entryOf b.areas j) = false

/-- The feed port's queues (R193, R195, R198): capacities; no command waits while the reply queue has room; the frame
being sent is of a queue that holds it; the overrun count stops at 65 535. -/
abbrev Feed.Law (f : Feed) : Prop :=
  f.cmds.length ≤ 16 ∧ f.replies.length ≤ 16 ∧ f.events.length ≤ 32 ∧ f.overrun ≤ 65535 ∧
    (f.cmds = [] ∨ f.replies.length = 16) ∧
    ∀ t ∈ f.tx, (t.source = .reply → f.replies ≠ []) ∧ (t.source = .event → f.events ≠ [])

/-- The page versions delivered at a site: queued and current (R115, R117). -/
def SiteQueue.refs (q : SiteQueue) : List PageRef :=
  q.queue.map QueueEntry.ref ++ match q.current with
    | some c => [c.ref]
    | none => []

/-- The law of R67: at each site at most one delivery of any page position is queued or current; with what it rests
on, that a delivery's version has been released and that identities are not used twice (R41, R62). -/
abbrev Device.PositionLaw (d : Device) : Prop :=
  (∀ i : SiteId, ((d.site i).q.refs.map fun r => r.key.pos).Nodup ∧
    ∀ r ∈ (d.site i).q.refs, r.uid < d.serial ∧
      ∀ v ∈ d.table, v.uid = r.uid → v.state ≠ .filling ∧ v.state ≠ .held ∧ v.state ≠ .approved) ∧
    (d.table.map PageVersion.uid).Nodup ∧ ∀ v ∈ d.table, v.uid < d.serial

/-- What page starts, deliveries, conditions, releases, grants and transmissions leave as it is at one site: its
settings, its offsets and limits, its pending curve set, its allotments and E_cur (R75, R102, R163, R164, R197). -/
structure Site.KeepsSetting (a b : Site) : Prop where
  cfg : b.cfg = a.cfg
  offsets : b.tgt.offsets = a.tgt.offsets
  pending : b.tone.pending = a.tone.pending
  active : b.pace.active = a.pace.active
  staged : b.pace.staged = a.pace.staged
  eCur : b.pace.eCur = a.pace.eCur

/-- What they leave as it is at a port: its pacing periods and remaining count (R161). -/
structure Port.KeepsPeriod (a b : Port) : Prop where
  active : b.active = a.active
  staged : b.staged = a.staged
  remaining : b.remaining = a.remaining

/-- What they leave as it is in the part: the timebase, clock, plans, areas, group targets and quiesced flag, the
store, the intake side of the feed port with its command and reply queues, and every site's and port's setting. -/
structure Device.KeepsSetting (d e : Device) : Prop where
  base : e.base = d.base
  store : e.store = d.store
  buffers : e.feed.buffers = d.feed.buffers
  arrivals : e.feed.arrivals = d.feed.arrivals
  cmds : e.feed.cmds = d.feed.cmds
  replies : e.feed.replies = d.feed.replies
  linkUp : e.feed.linkUp = d.feed.linkUp
  overrun : e.feed.overrun = d.feed.overrun
  site : ∀ i : SiteId, (d.site i).KeepsSetting (e.site i)
  port : ∀ p : PortId, (d.port p).KeepsPeriod (e.port p)

/-- The page table holds at most 256 versions (R1), and the retained list each version once (R22). -/
abbrev Device.TableLaw (d : Device) : Prop := d.table.length ≤ 256 ∧ d.retained.Nodup

/-- A port's periods are 1 to 1000 and its remaining count 1 to its period (R161, R162). -/
abbrev Port.PeriodLaw (x : Port) : Prop :=
  (1 ≤ x.active ∧ x.active ≤ 1000) ∧ (∀ n ∈ x.staged, 1 ≤ n ∧ n ≤ 1000) ∧ 1 ≤ x.remaining ∧ x.remaining ≤ x.active

/-- The counts of a site are in their ranges (R90, R145, R176), and so are its offsets and limits (R102). -/
abbrev Site.RangeLaw (st : Site) : Prop :=
  st.tone.clampCount ≤ 65535 ∧ st.win.retry ≤ 15 ∧ st.pace.refCount < 64 ∧ st.pace.resendCount ≤ 65535 ∧
    st.pace.level ≤ 3 ∧ ∀ k : Stock,
      (∀ s : Sep, -30 ≤ entryOf (entryOf st.tgt.offsets k).density s ∧
        entryOf (entryOf st.tgt.offsets k).density s ≤ 30) ∧
      (∀ j : Fin 8, -10 ≤ entryOf (entryOf st.tgt.offsets k).tvi j ∧ entryOf (entryOf st.tgt.offsets k).tvi j ≤ 10) ∧
      (entryOf st.tgt.offsets k).low ≤ (entryOf st.tgt.offsets k).high ∧ (entryOf st.tgt.offsets k).high ≤ 250

/-- The group targets' aims are in their ranges (R100). -/
abbrev Base.GroupLaw (b : Base) : Prop :=
  ∀ k : Stock, (∀ s : Sep, entryOf (entryOf b.groups k).aims.density s ≤ 250) ∧
    ∀ j : Fin 8, entryOf (entryOf b.groups k).aims.tvi j ≤ 50

/-- Everything configured or counted is in the range its rule gives. -/
abbrev Device.RangeLaw (d : Device) : Prop :=
  d.SettingsLaw ∧ d.CurveLaw ∧ d.base.InRange ∧ d.base.AreaLaw ∧ d.base.GroupLaw ∧
    (∀ p : PortId, (d.port p).PeriodLaw) ∧ ∀ i : SiteId, (d.site i).RangeLaw

/-- The approval law of R14: a version in APPROVED, RELEASED or DELIVERED holds a checked approval of its digest; with
the identities it rests on. -/
abbrev Device.ApprovalLaw (d : Device) : Prop :=
  (d.table.map PageVersion.uid).Nodup ∧ (∀ v ∈ d.table, v.uid < d.serial) ∧
    ∀ v ∈ d.table, v.state = .approved ∨ v.state = .released ∨ v.state = .delivered →
      ∃ a : Approval, v.approval = some a ∧ a.checked = true ∧ a.expected = v.digest

/-- A command frame that arrives now is taken in the same step (R193, R195; log 1): the feed link is up, no command waits
and the reply queue has room. -/
abbrev Feed.Ready (f : Feed) : Prop := f.linkUp = true ∧ f.cmds = [] ∧ f.replies.length < 16

/-- The frame check of a return frame (R151, R203, R211): kind, field length and CRC. -/
abbrev ReturnPasses (f : ReturnFrame) (kind : Byte) (fields : List Byte) : Prop :=
  f.kind = kind ∧ f.fields = fields ∧ f.length.toNat = fields.length ∧
    f.crc = crc32 (f.kind :: f.length :: (halfBytes f.code ++ f.fields))

/-- A return frame on port `p` is demultiplexed to site `i` (R151). -/
abbrev Device.Names (d : Device) (p : PortId) (code : Half) (i : SiteId) : Prop :=
  (d.site i).cfg.port = p ∧ (d.site i).cfg.code = code ∧
    ∀ j : SiteId, j < i → (d.site j).cfg.port = p → (d.site j).cfg.code ≠ code

end Sys2Proof.Machine
end

