-- ==== Sys2Proof/Certificates/Slice0/Obligations.lean ====
section
/-!
DEFINITION. The statements for the provers. Where a rule lets the block builder and the ports go on, the next state is
written `arbitrate d`: `d` is what the command itself leaves, and they are asked at the end of the step (log 6).
`Obligations.BuilderGrantsRoundRobin` and `Obligations.PortSendsForTheFirstEligibleSite` say what the asking of the
builder and of a port can add, and `Sys2Proof.Laws.keeps_arbitrate` what it leaves as it is.
-/

open Sys2Proof Sys2Proof.Machine

/-! ## The queue, the command unit, frames -/

/-- The block's own interface (log 2): a step takes the command at the front of the queue and runs it on the state with
the queue's rest; with none waiting the part idles; and every command answers a next state in which only the device
has changed (R180, R196: the part goes on after every trouble). -/
def Obligations.StepTakesTheFrontCommand : Prop :=
  ∀ (c : Instr) (rest : List Instr) (d : Device),
    step { pending := c :: rest, dev := d } = exec c { pending := rest, dev := d } ∧
      step { pending := [], dev := d } = .next { pending := [], dev := d } ∧
      ∃ e : Device, exec c { pending := rest, dev := d } = .next { pending := rest, dev := e }

/-- COMMAND_FRAME (section 10.1, R191, R193, R195): a frame that fails the checks changes nothing, and while the feed
link is down none arrives (log 16); one that passes is taken at once when no command waits and the reply queue has
room (log 1), waits when the reply queue is full, and is lost with FEED_OVERRUN when sixteen wait. Where a command
waits although the reply queue has room, the one that waits longest is taken. Each of the 28 rows of typed commands is
the COMMAND_FRAME of its well-formed frame, so that all of this holds of them too (log 1). A payload of no command of
the table is refused with FORMAT. -/
def Obligations.CommandFrameIsTakenQueuedOrLost : Prop :=
  (∀ (f : FeedFrame) (s : State),
    (s.dev.feed.linkUp = false → exec (.commandFrame f) s = .next s) ∧
    (¬(f.kind = 0x02 ∧ f.length.toNat = f.payload.length ∧
        f.crc = crc32 (f.kind :: f.tag :: (halfBytes f.length ++ f.payload))) →
      exec (.commandFrame f) s = .next s) ∧
    (s.dev.feed.linkUp = true → f.kind = 0x02 → f.length.toNat = f.payload.length →
      f.crc = crc32 (f.kind :: f.tag :: (halfBytes f.length ++ f.payload)) →
      (s.dev.feed.cmds = [] → s.dev.feed.replies.length < 16 →
        exec (.commandFrame f) s = .next { s with dev :=
          ((applyCommand (parseCommand f.payload) s.dev).1.reply
            { tag := f.tag, code := f.payload.headD 0,
              answer := (applyCommand (parseCommand f.payload) s.dev).2 }) }) ∧
      (∀ (q : QueuedCommand) (qs : List QueuedCommand) (d : Device), s.dev.feed.cmds = q :: qs →
        s.dev.feed.cmds.length < 16 → s.dev.feed.replies.length < 16 →
        d = { s.dev with feed := { s.dev.feed with
          cmds := qs ++ [{ tag := f.tag, cmd := parseCommand f.payload }] } } →
        exec (.commandFrame f) s = .next { s with dev := ((applyCommand q.cmd d).1.reply
          { tag := q.tag, code := q.cmd.code, answer := (applyCommand q.cmd d).2 }) }) ∧
      (s.dev.feed.cmds.length < 16 → 16 ≤ s.dev.feed.replies.length →
        exec (.commandFrame f) s = .next { s with dev := ({ s.dev with feed := { s.dev.feed with
          cmds := s.dev.feed.cmds ++ [{ tag := f.tag, cmd := parseCommand f.payload }] } }) }) ∧
      (16 ≤ s.dev.feed.cmds.length →
        exec (.commandFrame f) s = .next { s with dev :=
          (({ s.dev with feed := { s.dev.feed with overrun := min (s.dev.feed.overrun + 1) 65535 } } : Device).event
            (.feedOverrun 0x02 f.tag .queueFull)) }))) ∧
  (∀ (s : State) (tag : Byte) (frame : Command → FeedFrame),
    (∀ c : Command, frame c =
      { kind := 0x02, tag := tag, length := BitVec.ofNat 16 c.encode.length, payload := c.encode,
        crc := crc32 (0x02 :: tag :: (halfBytes (BitVec.ofNat 16 c.encode.length) ++ c.encode)) }) →
    (∀ a : OpenPageArgs, exec (.openPage tag a) s = exec (.commandFrame (frame (.openPage a))) s) ∧
    (∀ a : ApproveArgs, exec (.approve tag a) s = exec (.commandFrame (frame (.approve a))) s) ∧
    (∀ (key : KeyField) (flags : Byte),
      exec (.withdraw tag key flags) s = exec (.commandFrame (frame (.withdraw key flags))) s) ∧
    (∀ key : KeyField, exec (.purge tag key) s = exec (.commandFrame (frame (.purge key))) s) ∧
    (∀ (key : KeyField) (site : Byte),
      exec (.sendPage tag key site) s = exec (.commandFrame (frame (.sendPage key site))) s) ∧
    (∀ (edition : Byte) (entries : Vector Byte 8),
      exec (.setPlan tag edition entries) s = exec (.commandFrame (frame (.setPlan edition entries))) s) ∧
    (∀ edition : Byte, exec (.holdEdition tag edition) s = exec (.commandFrame (frame (.holdEdition edition))) s) ∧
    (∀ edition : Byte, exec (.openEdition tag edition) s = exec (.commandFrame (frame (.openEdition edition))) s) ∧
    (∀ count : Word, exec (.setClock tag count) s = exec (.commandFrame (frame (.setClock count))) s) ∧
    (∀ a : DefineAreaArgs, exec (.defineArea tag a) s = exec (.commandFrame (frame (.defineArea a))) s) ∧
    (∀ a : SetSiteArgs, exec (.setSite tag a) s = exec (.commandFrame (frame (.setSite a))) s) ∧
    (∀ site : Byte, exec (.enableSite tag site) s = exec (.commandFrame (frame (.enableSite site))) s) ∧
    (∀ site : Byte, exec (.disableSite tag site) s = exec (.commandFrame (frame (.disableSite site))) s) ∧
    (∀ site : Byte, exec (.resumeSite tag site) s = exec (.commandFrame (frame (.resumeSite site))) s) ∧
    (∀ (site : Byte) (allotment : Word),
      exec (.setAllotment tag site allotment) s = exec (.commandFrame (frame (.setAllotment site allotment))) s) ∧
    (∀ (port : Byte) (period : Half),
      exec (.setPort tag port period) s = exec (.commandFrame (frame (.setPort port period))) s) ∧
    (∀ (site sep : Byte) (knots : Vector Half 17),
      exec (.loadCurve tag site sep knots) s = exec (.commandFrame (frame (.loadCurve site sep knots))) s) ∧
    (∀ site stock flags : Byte,
      exec (.armCurves tag site stock flags) s = exec (.commandFrame (frame (.armCurves site stock flags))) s) ∧
    (∀ a : SetGroupTargetArgs, exec (.setGroupTarget tag a) s = exec (.commandFrame (frame (.setGroupTarget a))) s) ∧
    (∀ a : SetSiteTargetArgs, exec (.setSiteTarget tag a) s = exec (.commandFrame (frame (.setSiteTarget a))) s) ∧
    exec (.quiesce tag) s = exec (.commandFrame (frame .quiesce)) s ∧
    exec (.resume tag) s = exec (.commandFrame (frame .resume)) s ∧
    exec (.dayReset tag) s = exec (.commandFrame (frame .dayReset)) s ∧
    (∀ key : KeyField, exec (.queryPage tag key) s = exec (.commandFrame (frame (.queryPage key))) s) ∧
    (∀ site : Byte, exec (.querySite tag site) s = exec (.commandFrame (frame (.querySite site))) s) ∧
    (∀ area : Byte, exec (.queryArea tag area) s = exec (.commandFrame (frame (.queryArea area))) s) ∧
    exec (.queryDevice tag) s = exec (.commandFrame (frame .queryDevice)) s ∧
    (∀ site : Byte, exec (.readCurve tag site) s = exec (.commandFrame (frame (.readCurve site))) s)) ∧
  ∀ (code : Byte) (d : Device), applyCommand (.malformed code) d = (d, { result := .format })

/-- Section 10.6, the table of R207 and the form check of R195: the payload of each of the 28 commands is read back as
that command, every field at every value, and every payload that is read as a command is the payload of that command,
so no byte of a payload is dropped and no second payload spells the same command. -/
def Obligations.CommandPayloadsRoundTrip : Prop :=
  (∀ c : Command, c.isFormed = true → parseCommand c.encode = c) ∧
    ∀ p : List Byte, (parseCommand p).isFormed = true → (parseCommand p).encode = p

/-! ## Reset and time -/

/-- POWER_ON_RESET and the values of section 10.5. The queue of commands stays, and so does the count of the free
values read, which is the model's own (log 14); the feed link is up (log 13). -/
def Obligations.PowerOnLeavesTheResetValues : Prop :=
  let d := State.reset.dev
  (∀ s : State, exec .powerOnReset s = .next { s with dev := ({ d with free := s.dev.free }) }) ∧
    State.reset.pending = [] ∧ d.table = [] ∧ d.retained = [] ∧ d.retainedCount = 0 ∧ d.orderCounter = 0 ∧
    (entryOf d.base.areas 0 = { enabled := true, base := 0, length := 32640, mtch := 0, mask := 0 } ∧
      ∀ n : Fin 8, n ≠ 0 → entryOf d.base.areas n = { enabled := false, base := 0, length := 0, mtch := 0, mask := 0 }) ∧
    (d.base.ms = 0 ∧ d.base.tens = 0 ∧ d.base.clock = { count := 0, unset := true } ∧ d.base.quiesced = false) ∧
    (∀ e : Fin 16, (entryOf d.base.plans e).held = false ∧ ∀ i : SiteId, entryOf (entryOf d.base.plans e).entries i = none) ∧
    (∀ k : Stock, (entryOf d.base.groups k).set = false) ∧ d.builder = { inFlight := none, last := 7 } ∧
    (∀ p : PortId, d.port p = { active := 100, staged := none, remaining := 100, last := 7, tx := none }) ∧
    ((∀ b : Fin 4, entryOf d.feed.buffers b = .free) ∧ d.feed.cmds = [] ∧ d.feed.replies = [] ∧ d.feed.events = [] ∧
      d.feed.overflow = false ∧ d.feed.overrun = 0 ∧ d.feed.hold = false ∧ d.feed.linkUp = true) ∧
    ∀ i : SiteId,
      ((d.site i).q = { queue := [], current := none, control := [] } ∧ (d.site i).halt = none ∧
        (d.site i).win = { ranks := [], nextSeq := 0, prepared := none, ackTimer := .stopped, probeTimer := none,
                           retry := 0, link := .disabled, closing := false }) ∧
      ((d.site i).cfg.code = BitVec.ofNat 16 i.val ∧ (d.site i).cfg.port.val = i.val % 4 ∧
        (d.site i).cfg.ackTimeout = 20 ∧ (d.site i).cfg.retryLimit = 6 ∧ (d.site i).cfg.flow = .obey ∧
        (d.site i).cfg.gapLength = 0 ∧ (d.site i).cfg.highMark = 8 ∧ (d.site i).cfg.lowMark = 1 ∧
        (d.site i).cfg.gateTimeout = 30 ∧ (d.site i).cfg.haltMask = 0b0000101 ∧
        (∀ s : Sep, entryOf (d.site i).cfg.gains s = 256) ∧ (d.site i).cfg.minDot = 0 ∧
        (d.site i).cfg.maxDot = 255 ∧ (d.site i).cfg.solidHold = true) ∧
      (d.site i).pace = { active := 65536, staged := none, eCur := 65536, credit := 0, level := 0, refCount := 0,
                          resendCount := 0, ready := true, gap := none } ∧
      ((∀ s : Sep, entryOf (d.site i).tone.active.curves s = identityCurve) ∧
        (d.site i).tone.active.stock = 0 ∧ (d.site i).tone.pending = (d.site i).tone.active ∧
        (d.site i).tone.arm = none ∧ (d.site i).tone.clampCount = 0) ∧
      (d.site i).tgt.gate = .idle ∧
      ∀ k : Stock, (d.site i).target k = { aims := none, latestGen := 0, ackedGen := 0, owed := false } ∧
        entryOf (d.site i).tgt.offsets k =
          { density := Vector.replicate 4 0, tvi := Vector.replicate 8 0, low := 0, high := 250 }

/-- TICK_1MS (R51, R52, R161): the timebase counts, each tenth tick is a 10 ms tick and each hundredth a 100 ms tick at
which a set night clock counts, and every port's remaining count falls by one or its period ends. -/
def Obligations.Tick1msCountsTheTimebaseAndPeriods : Prop :=
  ∀ s : State, ∃ d : Device, exec .tick1ms s = .next { s with dev := d } ∧
    (s.dev.base.ms < 9 → d.base = { s.dev.base with ms := s.dev.base.ms + 1 }) ∧
    (s.dev.base.ms = 9 → s.dev.base.tens < 9 →
      d.base = { s.dev.base with ms := 0, tens := s.dev.base.tens + 1 }) ∧
    (s.dev.base.ms = 9 → s.dev.base.tens = 9 →
      d.base = { s.dev.base with ms := 0, tens := 0, clock :=
        if s.dev.base.clock.unset = true then s.dev.base.clock
        else { count := (s.dev.base.clock.count + 1) % 864000, unset := false } }) ∧
    (∀ p : PortId,
      (1 < (s.dev.port p).remaining → (d.port p).active = (s.dev.port p).active ∧
        (d.port p).staged = (s.dev.port p).staged ∧ (d.port p).remaining = (s.dev.port p).remaining - 1) ∧
      ((s.dev.port p).remaining ≤ 1 → (d.port p).active = (s.dev.port p).staged.getD (s.dev.port p).active ∧
        (d.port p).staged = none ∧
        (d.port p).remaining = (s.dev.port p).staged.getD (s.dev.port p).active)) ∧
    (d.store = s.dev.store ∧ d.feed.buffers = s.dev.feed.buffers ∧ d.feed.cmds = s.dev.feed.cmds ∧
      d.feed.replies = s.dev.feed.replies) ∧
    ∀ i : SiteId, (d.site i).cfg = (s.dev.site i).cfg ∧ (d.site i).tone.pending = (s.dev.site i).tone.pending ∧
      (d.site i).tgt.offsets = (s.dev.site i).tgt.offsets

/-- TICK_10MS (R51, R52, R174): the count of 10 ms ticks, and at every site the gap timer, which does not count while
the part is quiesced or the site is HALTED and is stopped when its count reaches 0. At the tenth tick the gap timers
count before the 100 ms work of the same tick, so it is the link state before that work that tells whether they count:
the model's choice (log 5). -/
def Obligations.Tick10msCountsTheGapTimers : Prop :=
  ∀ s : State, ∃ d : Device, exec .tick10ms s = .next { s with dev := d } ∧
    (s.dev.base.tens < 9 → d.base = { s.dev.base with tens := s.dev.base.tens + 1 }) ∧
    (s.dev.base.tens = 9 →
      d.base = { s.dev.base with tens := 0, clock :=
        if s.dev.base.clock.unset = true then s.dev.base.clock
        else { count := (s.dev.base.clock.count + 1) % 864000, unset := false } }) ∧
    (∀ i : SiteId, (d.site i).pace.gap =
      (s.dev.site i).pace.gap.bind fun n =>
        if s.dev.base.quiesced = true ∨ (s.dev.site i).win.link = .halted then some n
        else if n ≤ 1 then none else some (n - 1)) ∧
    d.store = s.dev.store ∧ ∀ p : PortId, (s.dev.port p).KeepsPeriod (d.port p)

/-- TICK_100MS (R52, R113, R145, R149): a set night clock counts, from 863 999 to 0; and at a tick at which no count
runs out and no version is APPROVED or RELEASED, running ack and probe timers fall by one, as does every waiting gate
of a site that is not HALTED in a part that is not quiesced, and nothing else changes before the arbiters are asked.
With versions APPROVED or RELEASED, and the clock set, the versions with a release-at are then evaluated and the
latest check follows (R73, R74): the RELEASED versions whose latest time is reached, in table order (log 22), each at
the sites in ascending index; a site that owes the version, was not late for it and is neither DISABLED nor closing is
marked late and LATE is raised. That the timers fall first, and the clock, the evaluation and the latest check follow
in this order within the tick, is the model's choice (log 5). A condition raised at a site (R179, R180, R182) is
dropped at a DISABLED or closing one; else its event is sent with its outcome and the link state after it, and the
site halts where the condition is selected. -/
def Obligations.Tick100msCountsTheClockAndTimers : Prop :=
  ∀ s : State, ∃ d : Device, exec .tick100ms s = .next { s with dev := (arbitrate d) } ∧
    d.base = { s.dev.base with clock :=
      if s.dev.base.clock.unset = true then s.dev.base.clock
      else { count := (s.dev.base.clock.count + 1) % 864000, unset := false } } ∧
    ((∀ i : SiteId, (∀ n : Nat, (s.dev.site i).win.ackTimer = .running n → 2 ≤ n) ∧
        (∀ n : Nat, (s.dev.site i).win.probeTimer = some n → 2 ≤ n) ∧
        ∀ n : Nat, (s.dev.site i).tgt.gate = .wait n → 2 ≤ n) →
      (∀ v ∈ s.dev.table, v.state ≠ .approved ∧ v.state ≠ .released) →
      { d with base := s.dev.base, sites := s.dev.sites } = s.dev ∧
      ∀ i : SiteId, d.site i = { s.dev.site i with
        win := { (s.dev.site i).win with
          ackTimer := (s.dev.site i).win.ackTimer.tick
          probeTimer := (s.dev.site i).win.probeTimer.map fun n => n - 1 }
        tgt := { (s.dev.site i).tgt with
          gate := if s.dev.base.quiesced = true ∨ (s.dev.site i).win.link = .halted then (s.dev.site i).tgt.gate
            else (s.dev.site i).tgt.gate.tick } }) ∧
    ((∀ i : SiteId, (∀ n : Nat, (s.dev.site i).win.ackTimer = .running n → 2 ≤ n) ∧
        (∀ n : Nat, (s.dev.site i).win.probeTimer = some n → 2 ≤ n) ∧
        ∀ n : Nat, (s.dev.site i).tgt.gate = .wait n → 2 ≤ n) →
      ∀ x : Device, { x with base := s.dev.base, sites := s.dev.sites } = s.dev → x.base = d.base →
      (∀ i : SiteId, x.site i = { s.dev.site i with
        win := { (s.dev.site i).win with
          ackTimer := (s.dev.site i).win.ackTimer.tick
          probeTimer := (s.dev.site i).win.probeTimer.map fun n => n - 1 }
        tgt := { (s.dev.site i).tgt with
          gate := if s.dev.base.quiesced = true ∨ (s.dev.site i).win.link = .halted then (s.dev.site i).tgt.gate
            else (s.dev.site i).tgt.gate.tick } }) →
      d = if s.dev.base.clock.unset = true then x else latestCheck (evaluate (fun v => v.releaseAt.isSome) x)) ∧
    (∀ e : Device, latestCheck e =
      (e.table.filter fun v => decide (v.state = .released) && v.latest.any fun time => e.base.clock.reached time).foldl
        (fun x v => allSites.foldl (fun x i => markLate v.uid i x) x) e) ∧
    (∀ (e : Device) (u : Nat) (i : SiteId) (v : PageVersion), e.record u = some v →
      ((v.at i).state ≠ .queued → (v.at i).state ≠ .sending → (v.at i).state ≠ .failed → markLate u i e = e) ∧
      ((v.at i).late = true ∨ (e.site i).win.link = .disabled ∨ (e.site i).win.closing = true → markLate u i e = e) ∧
      ((v.at i).state = .queued ∨ (v.at i).state = .sending ∨ (v.at i).state = .failed → (v.at i).late = false →
        (e.site i).win.link ≠ .disabled → (e.site i).win.closing = false →
        markLate u i e = raise i (.late v.key v.version e.base.clock.count)
          (e.onDelivery u i fun r => { r with late := true }))) ∧
    (∀ (e : Device) (i : SiteId) (det : CondDetails) (selected : Bool),
      selected = (e.site i).cfg.haltMask.getLsbD det.condition.bit →
      ((e.site i).win.link = .disabled ∨ (e.site i).win.closing = true → raise i det e = e) ∧
      ((e.site i).win.link ≠ .disabled → (e.site i).win.closing = false →
        (selected = false → raise i det e = e.event (.condition i (e.site i).win.link .action
          (if det.condition = .linkLost then .linkLost else (e.site i).win.link) det)) ∧
        (selected = true → (e.site i).win.link = .halted →
          raise i det e = e.event (.condition i .halted .alreadyHalted .halted det)) ∧
        (selected = true → (e.site i).win.link ≠ .halted →
          raise i det e = (e.event (.condition i (e.site i).win.link .halt .halted det)).onSite i fun st => { st with
            win := { st.win with link := .halted, ackTimer := .stopped, probeTimer := none }
            halt := some { details := det, clock := e.time,
                           resume := if (e.site i).win.link = .waiting then .waiting else .active } }))) ∧
    ∀ n : Nat, (AckTimer.running n).tick = .running (n - 1) ∧ AckTimer.stopped.tick = .stopped ∧
      AckTimer.held.tick = .held ∧ (Gate.wait n).tick = .wait (n - 1) ∧ Gate.idle.tick = .idle ∧
      Gate.bypass.tick = .bypass

/-- PERIOD_END (R161, R163, R164, R165): the port's staged period is applied and the count starts; at each site mapped
to the port the staged allotment is applied, E_cur is computed afresh and the credit refilled, a DISABLED or closing
site's only lowered; nothing else changes before the arbiters are asked. -/
def Obligations.PeriodEndRefillsTheSitesOfThePort : Prop :=
  ∀ (p : PortId) (s : State), ∃ d : Device, exec (.periodEnd p) s = .next { s with dev := (arbitrate d) } ∧
    { d with ports := s.dev.ports, sites := s.dev.sites } = s.dev ∧
    d.port p = { s.dev.port p with
      active := (s.dev.port p).staged.getD (s.dev.port p).active, staged := none,
      remaining := (s.dev.port p).staged.getD (s.dev.port p).active } ∧
    (∀ q : PortId, q ≠ p → d.port q = s.dev.port q) ∧
    (∀ i : SiteId, (s.dev.site i).cfg.port ≠ p → d.site i = s.dev.site i) ∧
    ∀ (i : SiteId) (a e : Nat), (s.dev.site i).cfg.port = p →
      a = (s.dev.site i).pace.staged.getD (s.dev.site i).pace.active →
      e = max (a / 2 ^ (s.dev.site i).pace.level) (min a 2048) →
      d.site i = { s.dev.site i with pace := { (s.dev.site i).pace with
        active := a, staged := none, eCur := e,
        credit := if (s.dev.site i).win.link = .disabled ∨ (s.dev.site i).win.closing = true
          then min (s.dev.site i).pace.credit (e : Int) else min ((s.dev.site i).pace.credit + (e : Int)) (e : Int) } }

/-- GAP_TIMER_EXPIRY (R174, R123, R117, R118): a gap timer that counts is stopped and the site looks for a page start;
a site that may start its queue head with no curve switch asked makes it the current delivery, its cursor on band 0 of
its first separation, and the record SENDING. A timer that does not count has nothing to expire (log 3). A page start
at any site, whatever asks for it (R81, R82, R112, R123): none is made while one of its conditions fails; an arm that
is not gated switches the curves first, with CURVES_SWITCHED, and so does a gated one whose target is acknowledged, or
whose gate is in BYPASS, the gate going to IDLE; a gated arm whose target is not acknowledged takes an IDLE gate to
GATE_WAIT with a full count, and waits while it is there. -/
def Obligations.GapExpiryAllowsThePageStart : Prop :=
  ∀ (i : SiteId) (s : State),
    ((s.dev.site i).pace.gap = none ∨ s.dev.base.quiesced = true ∨ (s.dev.site i).win.link = .halted →
      exec (.gapTimerExpiry i) s = .next s) ∧
    ((s.dev.site i).pace.gap ≠ none → s.dev.base.quiesced = false → (s.dev.site i).win.link ≠ .halted →
      exec (.gapTimerExpiry i) s =
        .next { s with dev := (arbitrate (lookPageStart i (s.dev.onPace i fun p => { p with gap := none }))) } ∧
      ∀ (e : QueueEntry) (rest : List QueueEntry), (s.dev.site i).q.queue = e :: rest →
        (s.dev.site i).q.current = none → (s.dev.site i).q.control = [] → (s.dev.site i).win.link = .active →
        (s.dev.site i).win.closing = false → (s.dev.site i).win.count < 16 → (s.dev.site i).tone.arm = none →
        lookPageStart i (s.dev.onPace i fun p => { p with gap := none }) =
          ({ s.dev with serial := s.dev.serial + 1 }.onSite i fun st => { st with
            pace := { st.pace with gap := none }
            q := { st.q with
              queue := rest
              current := some
                { id := s.dev.serial, ref := e.ref, cls := e.cls, seps := e.seps,
                  cursor := e.seps.list.head?.map fun k => (k, 0), sent := 0, pageEnd := false } } }).onDelivery
            e.ref.uid i fun r => { r with state := .sending }) ∧
    ∀ d : Device,
      ((d.site i).q.current ≠ none ∨ (d.site i).q.control ≠ [] ∨ (d.site i).q.queue = [] ∨ (d.site i).pace.gap ≠ none ∨
          (d.site i).win.link ≠ .active ∨ (d.site i).win.closing = true ∨ 16 ≤ (d.site i).win.count →
        lookPageStart i d = d) ∧
      ∀ (e : QueueEntry) (rest : List QueueEntry) (start idle : Device → Device)
        (switched : Arm → Bool → Device → Device),
        (d.site i).q.queue = e :: rest → (d.site i).q.current = none → (d.site i).q.control = [] →
        (d.site i).pace.gap = none → (d.site i).win.link = .active → (d.site i).win.closing = false →
        (d.site i).win.count < 16 →
        (∀ x : Device, start x = ({ x with serial := x.serial + 1 }.onQueue i fun q => { q with
          queue := rest
          current := some
            { id := x.serial, ref := e.ref, cls := e.cls, seps := e.seps,
              cursor := e.seps.list.head?.map fun k => (k, 0), sent := 0, pageEnd := false } }).onDelivery
          e.ref.uid i fun r => { r with state := .sending }) →
        (∀ x : Device, idle x = x.onTgt i fun g => { g with gate := .idle }) →
        (∀ (a : Arm) (bypassed : Bool) (x : Device), switched a bypassed x =
          (x.onTone i fun w => { w with active := w.pending, arm := none }).event
            (.curvesSwitched i (d.site i).tone.active.stock (d.site i).tone.pending.stock a.gated bypassed e.ref.key
              e.ref.version)) →
        ((d.site i).tone.arm = none → lookPageStart i d = start d) ∧
        ∀ a : Arm, (d.site i).tone.arm = some a →
          (a.gated = false → lookPageStart i d = start (switched a false d)) ∧
          (a.gated = true → ((d.site i).target a.stock).ackedGen = ((d.site i).target a.stock).latestGen →
            lookPageStart i d = start (switched a false (idle d))) ∧
          (a.gated = true → ((d.site i).target a.stock).ackedGen ≠ ((d.site i).target a.stock).latestGen →
            ((d.site i).tgt.gate = .idle → lookPageStart i d =
              d.onTgt i fun g => { g with gate := .wait (10 * (d.site i).cfg.gateTimeout) }) ∧
            (∀ n : Nat, (d.site i).tgt.gate = .wait n → lookPageStart i d = d) ∧
            ((d.site i).tgt.gate = .bypass → lookPageStart i d = start (switched a true (idle d))))

/-- ACK_TIMER_EXPIRY and PROBE_TIMER_EXPIRY (R147 to R149, R182): the expiry of a running ack timer marks rank 1, adds
one to the retry count and holds the timer; at the retry limit LINK_LOST is raised, which takes an ACTIVE site to
LINK_LOST with its probe timer started, or halts it where the condition is selected. A probe expiry marks rank 1 and
starts the timer again in full. -/
def Obligations.AckAndProbeExpiriesMarkRankOne : Prop :=
  ∀ (i : SiteId) (s : State) (r : Rank) (rs : List Rank) (n retry : Nat) (w : Window),
    (s.dev.site i).win.ranks = r :: rs → retry = min ((s.dev.site i).win.retry + 1) 15 →
    w = { (s.dev.site i).win with ranks := { r with pending := true } :: rs, retry := retry, ackTimer := .held } →
    ((s.dev.site i).win.ackTimer = .running n → retry < (s.dev.site i).cfg.retryLimit →
      exec (.ackTimerExpiry i) s = .next { s with dev := (arbitrate (s.dev.onWin i fun _ => w)) }) ∧
    ((s.dev.site i).win.ackTimer = .running n → (s.dev.site i).cfg.retryLimit ≤ retry →
      (s.dev.site i).win.link = .active → (s.dev.site i).win.closing = false → (s.dev.site i).win.probeTimer = none →
      ((s.dev.site i).cfg.haltMask.getLsbD 5 = false →
        exec (.ackTimerExpiry i) s = .next { s with dev := (arbitrate
          ((s.dev.event (.condition i .active .action .linkLost (.linkLost retry r.seq))).onWin i fun _ =>
            { w with link := .linkLost, ackTimer := .stopped,
                     probeTimer := if s.dev.base.quiesced = true then none
                       else some (4 * (s.dev.site i).cfg.ackTimeout) })) }) ∧
      ((s.dev.site i).cfg.haltMask.getLsbD 5 = true →
        exec (.ackTimerExpiry i) s = .next { s with dev := (arbitrate
          ((s.dev.event (.condition i .active .halt .halted (.linkLost retry r.seq))).onSite i fun st => { st with
            win := { w with link := .halted, ackTimer := .stopped }
            halt := some { details := .linkLost retry r.seq, clock := s.dev.time, resume := .active } })) })) ∧
    ((s.dev.site i).win.probeTimer = some n →
      exec (.probeTimerExpiry i) s = .next { s with dev := (arbitrate (s.dev.onWin i fun w =>
        { w with ranks := { r with pending := true } :: rs,
                 probeTimer := some (4 * (s.dev.site i).cfg.ackTimeout) })) })

/-- GATE_TIMER_EXPIRY (R113, R179, R180, R182) at an armed site that is not HALTED, DISABLED or closing, in a part that
is not quiesced: TARGET_TIMEOUT is raised with the armed stock and its generations; where
it is not selected the gate goes to BYPASS and a page start is sought, where it is selected the site halts and the gate
goes to IDLE. -/
def Obligations.GateExpiryRaisesTargetTimeout : Prop :=
  ∀ (i : SiteId) (s : State) (n : Nat) (a : Arm) (det : CondDetails),
    (s.dev.site i).tgt.gate = .wait n → (s.dev.site i).tone.arm = some a → s.dev.base.quiesced = false →
    (s.dev.site i).win.link ≠ .halted → (s.dev.site i).win.link ≠ .disabled → (s.dev.site i).win.closing = false →
    det = .targetTimeout a.stock ((s.dev.site i).target a.stock).latestGen ((s.dev.site i).target a.stock).ackedGen →
    ((s.dev.site i).cfg.haltMask.getLsbD 4 = false →
      exec (.gateTimerExpiry i) s = .next { s with dev := (arbitrate (lookPageStart i
        ((s.dev.event (.condition i (s.dev.site i).win.link .action (s.dev.site i).win.link det)).onTgt i fun t =>
          { t with gate := .bypass }))) }) ∧
    ((s.dev.site i).cfg.haltMask.getLsbD 4 = true →
      exec (.gateTimerExpiry i) s = .next { s with dev := (arbitrate
        ((s.dev.event (.condition i (s.dev.site i).win.link .halt .halted det)).onSite i fun st => { st with
          win := { st.win with link := .halted, ackTimer := .stopped, probeTimer := none }
          tgt := { st.tgt with gate := .idle }
          halt := some { details := det, clock := s.dev.time,
                         resume := if (s.dev.site i).win.link = .waiting then .waiting else .active } })) })

/-! ## The feed port -/

/-- BAND_FRAME_ARRIVAL_BEGINS, and BAND_FRAME refused (R37, R38, R191, R192): the lowest-numbered free buffer is
taken, and where none is free the frame is received into none; while the feed link is down no frame arrives (log 16),
and a frame that arrives whole with none begun begins then (log 15). The first check that fails gives the reason of
the refusal, the buffer is freed and one BAND_REFUSED is sent; a frame that fails the checks of the feed port leaves
no trace; one that came into no buffer is counted and reported as FEED_OVERRUN. -/
def Obligations.BandFramesTakeAndFreeBuffers : Prop :=
  (∀ (f : FeedFrame) (s : State),
    (s.dev.feed.linkUp = false →
      exec .bandFrameArrivalBegins s = .next s ∧ exec (.bandFrame f) s = .next s) ∧
    (∀ t : State, s.dev.feed.linkUp = true → s.dev.feed.arrivals = [] → exec .bandFrameArrivalBegins s = .next t →
      exec (.bandFrame f) s = exec (.bandFrame f) t) ∧
    (s.dev.feed.linkUp = true →
      (∀ b : Fin 4, entryOf s.dev.feed.buffers b = .free → (∀ c : Fin 4, c < b → entryOf s.dev.feed.buffers c ≠ .free) →
        exec .bandFrameArrivalBegins s = .next { s with dev := ({ s.dev with feed := { s.dev.feed with
          buffers := modifyAt s.dev.feed.buffers b fun _ => .receiving
          arrivals := s.dev.feed.arrivals ++ [some b] } }) }) ∧
      ((∀ b : Fin 4, entryOf s.dev.feed.buffers b ≠ .free) →
        exec .bandFrameArrivalBegins s = .next { s with dev := ({ s.dev with feed := { s.dev.feed with
          arrivals := s.dev.feed.arrivals ++ [none] } }) }))) ∧
  (∀ (f : FeedFrame) (s : State) (n : Fin 4) (rest : List (Option (Fin 4))) (d : Device),
    s.dev.feed.linkUp = true →
    d = { s.dev with feed := { s.dev.feed with
      arrivals := rest, buffers := modifyAt s.dev.feed.buffers n fun _ => .free } } →
    (s.dev.feed.arrivals = some n :: rest →
      ¬(f.kind = 0x01 ∧ f.length.toNat = f.payload.length ∧
        f.crc = crc32 (f.kind :: f.tag :: (halfBytes f.length ++ f.payload)) ∧ 10 ≤ f.payload.length) →
      exec (.bandFrame f) s = .next { s with dev := d }) ∧
    (f.kind = 0x01 → f.length.toNat = f.payload.length →
      f.crc = crc32 (f.kind :: f.tag :: (halfBytes f.length ++ f.payload)) → 10 ≤ f.payload.length →
      s.dev.feed.arrivals = none :: rest →
      exec (.bandFrame f) s = .next { s with dev := (({ s.dev with feed := { s.dev.feed with
        arrivals := rest, overrun := min (s.dev.feed.overrun + 1) 65535 } } : Device).event
          (.feedOverrun 0x01 f.tag .noBuffer)) }) ∧
    ∀ (key : KeyField) (sep band : Byte) (crc : Word) (runs : List Byte),
      s.dev.feed.arrivals = some n :: rest →
      f.kind = 0x01 → f.length.toNat = f.payload.length →
      f.crc = crc32 (f.kind :: f.tag :: (halfBytes f.length ++ f.payload)) →
      f.payload = key.bytes ++ (sep :: band :: (wordBytes crc ++ runs)) →
      (keyInRange key = false ∨ versionOf key = 0 →
        exec (.bandFrame f) s = .next { s with dev :=
          (d.event (.bandRefused f.tag (keyOf key) (versionOf key) sep.toNat band.toNat .range)) }) ∧
      (keyInRange key = true → versionOf key ≠ 0 →
        (s.dev.lookup (keyOf key) (versionOf key) = none →
          exec (.bandFrame f) s = .next { s with dev :=
            (d.event (.bandRefused f.tag (keyOf key) (versionOf key) sep.toNat band.toNat .noPage)) }) ∧
        ∀ v : PageVersion, s.dev.lookup (keyOf key) (versionOf key) = some v →
          (v.state = .held ∨ v.state = .approved ∨ v.state = .superseded ∨ v.state = .withdrawn →
            exec (.bandFrame f) s = .next { s with dev :=
              (d.event (.bandRefused f.tag (keyOf key) (versionOf key) sep.toNat band.toNat .closed)) }) ∧
          (v.state = .filling ∨ v.state = .released ∨ v.state = .delivered →
            (v.seps.getLsbD sep.toNat = false ∨ v.bandCount ≤ band.toNat →
              exec (.bandFrame f) s = .next { s with dev :=
                (d.event (.bandRefused f.tag (keyOf key) (versionOf key) sep.toNat band.toNat .range)) }) ∧
            ∀ k : Sep, sep = byteN k.val → v.seps.has k = true → band.toNat < v.bandCount →
              (v.state ≠ .filling → (∀ e : BandEntry, v.entry k band.toNat = some e → e.fault = false) →
                exec (.bandFrame f) s = .next { s with dev :=
                  (d.event (.bandRefused f.tag (keyOf key) (versionOf key) sep.toNat band.toNat .closed)) }) ∧
              ((v.state = .filling ∨ ∃ e : BandEntry, v.entry k band.toNat = some e ∧ e.fault = true) →
                (runs = [] ∨ runs.length % 2 = 1 ∨ 32768 < runs.length ∨ crc32 runs ≠ crc ∨
                    runPixels runs ≠ v.pixels band.toNat →
                  exec (.bandFrame f) s = .next { s with dev :=
                    (d.event (.bandRefused f.tag (keyOf key) (versionOf key) sep.toNat band.toNat .runs)) }) ∧
                (runs ≠ [] → runs.length % 2 = 0 → runs.length ≤ 32768 → crc32 runs = crc →
                  runPixels runs = v.pixels band.toNat → v.state ≠ .filling →
                  (∀ e : BandEntry, v.entry k band.toNat = some e → e.crc ≠ crc) →
                  exec (.bandFrame f) s = .next { s with dev :=
                    (d.event (.bandRefused f.tag (keyOf key) (versionOf key) sep.toNat band.toNat .repairMismatch)) })))))

/-- BAND_FRAME accepted (R37, R39, R41, R46, R206): a frame that passes the nine checks, for a FILLING version or as the
repair of a faulty band, is given the lowest-numbered free cell of its version's area, and its band write begins in its
buffer; nothing else changes. Where the area has no free cell, its oldest reclaimable version with cells is reclaimed
first, and with none to reclaim the frame is refused with AREA_FULL. -/
def Obligations.AcceptedBandFrameBeginsItsWrite : Prop :=
  ∀ (f : FeedFrame) (s : State) (n : Fin 4) (rest : List (Option (Fin 4))) (key : KeyField) (sep : Sep) (band : Byte)
    (crc : Word) (runs : List Byte) (v : PageVersion) (cell : Nat),
    s.dev.feed.linkUp = true → s.dev.feed.arrivals = some n :: rest →
    f.kind = 0x01 → f.length.toNat = f.payload.length →
    f.crc = crc32 (f.kind :: f.tag :: (halfBytes f.length ++ f.payload)) →
    f.payload = key.bytes ++ (byteN sep.val :: band :: (wordBytes crc ++ runs)) →
    keyInRange key = true → versionOf key ≠ 0 → s.dev.lookup (keyOf key) (versionOf key) = some v →
    v.seps.has sep = true → band.toNat < v.bandCount →
    (v.state = .filling ∨ (v.state = .released ∨ v.state = .delivered) ∧
      ∃ e : BandEntry, v.entry sep band.toNat = some e ∧ e.fault = true ∧ e.crc = crc) →
    runs ≠ [] → runs.length % 2 = 0 → runs.length ≤ 32768 → crc32 runs = crc → runPixels runs = v.pixels band.toNat →
    ((∀ c : Nat, s.dev.cellFree (entryOf s.dev.base.areas v.area) c = false) →
      s.dev.candidate (fun x => decide (x.area = v.area) && !x.entries.isEmpty && decide (x.uid ≠ v.uid)) = none →
      exec (.bandFrame f) s = .next { s with dev := (({ s.dev with feed := { s.dev.feed with
        arrivals := rest, buffers := modifyAt s.dev.feed.buffers n fun _ => .free } } : Device).event
          (.bandRefused f.tag (keyOf key) (versionOf key) sep.val band.toNat .areaFull)) }) ∧
    (s.dev.cellFree (entryOf s.dev.base.areas v.area) cell = true →
    (∀ c : Nat, c < cell → s.dev.cellFree (entryOf s.dev.base.areas v.area) c = false) →
    exec (.bandFrame f) s = .next { s with dev := ({ s.dev with feed := { s.dev.feed with
      arrivals := rest
      buffers := modifyAt s.dev.feed.buffers n fun _ => .writing
        { tag := f.tag, ref := { uid := v.uid, key := v.key, version := v.version }, sep := sep, band := band.toNat,
          crc := crc, repair := decide (v.state ≠ .filling), cell := cell, payload := runs, ended := false,
          dayReset := false } } }) }) ∧
    ∀ (x : PageVersion) (e : Device),
      (∀ c : Nat, s.dev.cellFree (entryOf s.dev.base.areas v.area) c = false) →
      s.dev.candidate (fun y => decide (y.area = v.area) && !y.entries.isEmpty && decide (y.uid ≠ v.uid)) = some x →
      e = ({ s.dev with
          table := s.dev.table.filter fun y => decide (y.uid ≠ x.uid)
          retained := s.dev.retained.filter fun u => decide (u ≠ x.uid) } : Device).event
        (.versionReclaimed x.key x.version x.state x.area x.entries.length .area) →
      e.cellFree (entryOf e.base.areas v.area) cell = true →
      (∀ c : Nat, c < cell → e.cellFree (entryOf e.base.areas v.area) c = false) →
      exec (.bandFrame f) s = .next { s with dev := ({ e with feed := { e.feed with
        arrivals := rest
        buffers := modifyAt e.feed.buffers n fun _ => .writing
          { tag := f.tag, ref := { uid := v.uid, key := v.key, version := v.version }, sep := sep, band := band.toNat,
            crc := crc, repair := decide (v.state ≠ .filling), cell := cell, payload := runs, ended := false,
            dayReset := false } } }) }

/-- FEED_LINK_LOST, FEED_LINK_REGAINED and FEED_FRAME_SENT (R191, R192, R198, R199): a loss drops the frames that are
arriving and abandons the transmission, whose frame stays at the head of its queue; on the return, and when a frame
has been sent, the head of the reply queue is begun, or else the head of the event queue, which takes the overflow
mark. After a reply has been sent the command that waits longest is taken; the end of an event whose queue DAY RESET
emptied takes nothing from a queue; and FEED_FRAME_SENT with nothing being sent changes nothing (log 3). A reply and
an event join their queues at the tail, after which the transmitter is asked, and touch nothing but the feed port's
two queues and its transmitter; an event that finds thirty-two is lost and sets the overflow flag. -/
def Obligations.FeedTransmitterSendsRepliesFirst : Prop :=
  (∀ (s : State) (f : Feed),
    exec .feedLinkLost s = .next { s with dev := ({ s.dev with feed := { s.dev.feed with
      linkUp := false, arrivals := [], tx := none
      buffers := s.dev.feed.buffers.map fun b => if b = .receiving then .free else b } }) } ∧
    exec .feedLinkRegained s = .next { s with dev := ({ s.dev with
      feed := feedAsk { s.dev.feed with linkUp := true } }) } ∧
    (s.dev.feed.tx = none → exec .feedFrameSent s = .next s) ∧
    (∀ bytes : List Byte, s.dev.feed.tx = some { source := .event, bytes := bytes } →
      exec .feedFrameSent s = .next { s with dev := ({ s.dev with
        feed := feedAsk { s.dev.feed with tx := none, events := s.dev.feed.events.tail } }) }) ∧
    (∀ bytes : List Byte, s.dev.feed.tx = some { source := .reply, bytes := bytes } → s.dev.feed.cmds = [] →
      exec .feedFrameSent s = .next { s with dev := ({ s.dev with
        feed := feedAsk { s.dev.feed with tx := none, replies := s.dev.feed.replies.tail } }) }) ∧
    (∀ bytes : List Byte, s.dev.feed.tx = some { source := .orphan, bytes := bytes } →
      exec .feedFrameSent s = .next { s with dev := ({ s.dev with feed := feedAsk { s.dev.feed with tx := none } }) }) ∧
    (∀ (bytes : List Byte) (q : QueuedCommand) (qs : List QueuedCommand) (d e : Device),
      s.dev.feed.tx = some { source := .reply, bytes := bytes } → s.dev.feed.cmds = q :: qs →
      s.dev.feed.replies.length ≤ 16 →
      d = { s.dev with feed := { s.dev.feed with tx := none, replies := s.dev.feed.replies.tail, cmds := qs } } →
      e = (applyCommand q.cmd d).1.reply { tag := q.tag, code := q.cmd.code, answer := (applyCommand q.cmd d).2 } →
      exec .feedFrameSent s = .next { s with dev := ({ e with feed := feedAsk e.feed }) }) ∧
    (f.linkUp = true → f.tx = none →
      (∀ (r : Reply) (rs : List Reply), f.replies = r :: rs →
        feedAsk f = { f with tx := some { source := .reply, bytes := r.frame } }) ∧
      (∀ (e : QueuedEvent) (es : List QueuedEvent), f.replies = [] → f.events = e :: es →
        feedAsk f = { f with
          events := { e with mark := e.mark || f.overflow } :: es, overflow := false
          tx := some { source := .event, bytes := ({ e with mark := e.mark || f.overflow } : QueuedEvent).frame } }) ∧
      (f.replies = [] → f.events = [] → feedAsk f = f)) ∧
    (f.linkUp = false ∨ f.tx ≠ none → feedAsk f = f)) ∧
  (∀ (d : Device) (r : Reply) (e : Event),
    d.reply r = { d with feed := feedAsk { d.feed with replies := d.feed.replies ++ [r] } } ∧
    (d.feed.events.length < 32 → d.event e =
      { d with feed := feedAsk { d.feed with events := d.feed.events ++ [{ event := e, mark := false }] } }) ∧
    { d.reply r with feed := d.feed } = d ∧ { d.event e with feed := d.feed } = d ∧
    (d.reply r).feed.replies = d.feed.replies ++ [r] ∧
    (d.feed.events.length < 32 →
      (d.event e).feed.events.map QueuedEvent.event = d.feed.events.map QueuedEvent.event ++ [e]) ∧
    (32 ≤ d.feed.events.length → d.event e = { d with feed := { d.feed with overflow := true } }) ∧
    (d.feed.tx ≠ none → d.feed.events.length < 32 →
      d.reply r = { d with feed := { d.feed with replies := d.feed.replies ++ [r] } } ∧
      d.event e = { d with feed := { d.feed with events := d.feed.events ++ [{ event := e, mark := false }] } }))

/-! ## Band writes -/

/-- BAND_WRITE_COMPLETE (R29, R42 to R44, R9, R10). For a FILLING version the entry records cell and CRC, the digest
takes the new CRC and gives up the replaced one, the buffer is free and the store holds the payload; the recording of
the last absent band takes the version to HELD with PAGE_COMPLETE, or to APPROVED when its recorded approval matches,
or removes an approval that does not. For a version that is gone or no longer FILLING the write is discarded, its
buffer freed, and BAND_REFUSED sent with NO_PAGE or CLOSED, or nothing for a record that DAY RESET removed; the
payload has reached the cell, which is then free (log 11). -/
def Obligations.BandWriteIsRecordedOrDiscarded : Prop :=
  (∀ (b : Fin 4) (s : State) (w : BandWrite) (v x : PageVersion) (d : Device),
    entryOf s.dev.feed.buffers b = .writing w → w.repair = false → s.dev.record w.ref.uid = some v →
    v.state = .filling →
    x = { v.withEntry w.sep w.band { cell := w.cell, crc := w.crc, fault := false } with
      digest := v.digest - ((v.entry w.sep w.band).elim 0 fun e => e.crc) + w.crc } →
    d = { s.dev with
      store := writeBytes s.dev.store (w.cell * 32768) w.payload
      table := s.dev.table.map fun y => if y.uid = v.uid then
        { y.withEntry w.sep w.band { cell := w.cell, crc := w.crc, fault := false } with
          digest := y.digest - ((v.entry w.sep w.band).elim 0 fun e => e.crc) + w.crc } else y
      feed := { s.dev.feed with buffers := modifyAt s.dev.feed.buffers b fun _ => .free } } →
    ((v.entry w.sep w.band ≠ none ∨ x.complete = false →
      exec (.bandWriteComplete b) s = .next { s with dev := (arbitrate d) }) ∧
    (v.entry w.sep w.band = none → x.complete = true →
      (v.approval = none →
        exec (.bandWriteComplete b) s = .next { s with dev := (arbitrate
          ((d.onRecord v.uid fun y => { y with state := .held }).event
            (.pageComplete v.key v.version x.digest false))) }) ∧
      ∀ a : Approval, v.approval = some a →
        (a.expected ≠ x.digest →
          exec (.bandWriteComplete b) s = .next { s with dev := (arbitrate
            ((d.onRecord v.uid fun y => { y with state := .held, approval := none }).event
              (.approvalMismatch v.key v.version a.station a.expected x.digest))) }) ∧
        (a.expected = x.digest →
          exec (.bandWriteComplete b) s = .next { s with dev := (arbitrate (evaluate (fun y => decide (y.uid = v.uid))
            ((d.onRecord v.uid fun y =>
              { y with state := .approved, approval := some { a with checked := true } }).event
              (.pageComplete v.key v.version x.digest true)))) })))) ∧
  (∀ (b : Fin 4) (s : State) (w : BandWrite) (d : Device),
    entryOf s.dev.feed.buffers b = .writing w → w.repair = false →
    d = { s.dev with
      store := writeBytes s.dev.store (w.cell * 32768) w.payload
      feed := { s.dev.feed with buffers := modifyAt s.dev.feed.buffers b fun _ => .free } } →
    (s.dev.record w.ref.uid = none →
      (w.dayReset = false → exec (.bandWriteComplete b) s = .next { s with dev := (arbitrate
        (d.event (.bandRefused w.tag w.ref.key w.ref.version w.sep.val w.band .noPage))) }) ∧
      (w.dayReset = true → exec (.bandWriteComplete b) s = .next { s with dev := (arbitrate d) })) ∧
    ∀ v : PageVersion, s.dev.record w.ref.uid = some v → v.state ≠ .filling →
      exec (.bandWriteComplete b) s = .next { s with dev := (arbitrate
        (d.event (.bandRefused w.tag w.ref.key w.ref.version w.sep.val w.band .closed))) })

/-- REPAIR_WRITE_COMPLETE (R47, R48, R44): a repair of a RELEASED or DELIVERED version records the new cell with the
fault flag clear and sends BAND_REPAIRED with the faulty entries left and the deliveries enqueued: none while entries
are faulty, and else one, of class REPLATE, at each site whose delivery FAILED on STORE_ERROR that is neither DISABLED
nor closing and has no delivery of the position; a repair of any other version is discarded; and one whose entry is
being read waits, its cell and buffer kept, and is recorded or discarded in the same way when that read ends
(`Obligations.PreparationLeavesItsBlock` and `Obligations.UncorrectableReadFaultsTheBand` say when). The payload has
reached the cell when the write ends, also when the repair is discarded (log 11). -/
def Obligations.RepairWriteIsRecordedOrWaits : Prop :=
  (∀ (b : Fin 4) (w : BandWrite) (d e : Device),
    e = { d with
      store := writeBytes d.store (w.cell * 32768) w.payload
      feed := { d.feed with buffers := modifyAt d.feed.buffers b fun _ => .free } } →
    (∀ v x : PageVersion, d.record w.ref.uid = some v → v.state = .released ∨ v.state = .delivered →
      x = v.withEntry w.sep w.band { cell := w.cell, crc := w.crc, fault := false } →
      (x.faulty ≠ 0 → finishRepair b w d =
        (e.onRecord v.uid fun y => y.withEntry w.sep w.band { cell := w.cell, crc := w.crc, fault := false }).event
          (.bandRepaired v.key v.version w.sep.val w.band x.faulty 0)) ∧
      ∀ sites : List SiteId, x.faulty = 0 →
        sites = allSites.filter (fun i => decide ((v.at i).state = .failed ∧ (v.at i).cause = some .storeError ∧
          (d.site i).win.link ≠ .disabled ∧ (d.site i).win.closing = false ∧
          (d.site i).hasPosition v.key.pos = false)) →
        finishRepair b w d =
          (sites.foldl (fun y i => enqueue i { uid := v.uid, key := v.key, version := v.version } .replate v.seps y)
            (e.onRecord v.uid fun y =>
              y.withEntry w.sep w.band { cell := w.cell, crc := w.crc, fault := false })).event
            (.bandRepaired v.key v.version w.sep.val w.band 0 sites.length)) ∧
    (∀ v : PageVersion, d.record w.ref.uid = some v → v.state ≠ .released → v.state ≠ .delivered →
      finishRepair b w d = e.event (.bandRefused w.tag w.ref.key w.ref.version w.sep.val w.band .closed)) ∧
    (d.record w.ref.uid = none → finishRepair b w d =
      if w.dayReset = true then e
      else e.event (.bandRefused w.tag w.ref.key w.ref.version w.sep.val w.band .noPage))) ∧
  ∀ (b : Fin 4) (s : State) (w : BandWrite) (d : Device),
    entryOf s.dev.feed.buffers b = .writing w → w.repair = true → w.ended = false →
    d = { s.dev with
      store := writeBytes s.dev.store (w.cell * 32768) w.payload
      feed := { s.dev.feed with buffers := modifyAt s.dev.feed.buffers b fun _ => .free } } →
    (s.dev.reading w = true → exec (.repairWriteComplete b) s = .next { s with dev := (arbitrate
      (s.dev.onBuffer b (.writing { w with ended := true }))) }) ∧
    (s.dev.reading w = false →
      (∀ v x : PageVersion, s.dev.record w.ref.uid = some v → v.state = .released ∨ v.state = .delivered →
        x = v.withEntry w.sep w.band { cell := w.cell, crc := w.crc, fault := false } →
        (x.faulty ≠ 0 →
          exec (.repairWriteComplete b) s = .next { s with dev := (arbitrate
            ((d.onRecord v.uid fun y => y.withEntry w.sep w.band { cell := w.cell, crc := w.crc, fault := false }).event
              (.bandRepaired v.key v.version w.sep.val w.band x.faulty 0))) }) ∧
        ∀ sites : List SiteId, x.faulty = 0 →
          sites = allSites.filter (fun i => decide ((v.at i).state = .failed ∧ (v.at i).cause = some .storeError ∧
            (s.dev.site i).win.link ≠ .disabled ∧ (s.dev.site i).win.closing = false ∧
            (s.dev.site i).hasPosition v.key.pos = false)) →
          exec (.repairWriteComplete b) s = .next { s with dev := (arbitrate
            ((sites.foldl (fun e i => enqueue i { uid := v.uid, key := v.key, version := v.version } .replate v.seps e)
              (d.onRecord v.uid fun y =>
                y.withEntry w.sep w.band { cell := w.cell, crc := w.crc, fault := false })).event
              (.bandRepaired v.key v.version w.sep.val w.band 0 sites.length))) }) ∧
      (∀ v : PageVersion, s.dev.record w.ref.uid = some v → v.state ≠ .released → v.state ≠ .delivered →
        exec (.repairWriteComplete b) s = .next { s with dev := (arbitrate
          (d.event (.bandRefused w.tag w.ref.key w.ref.version w.sep.val w.band .closed))) }) ∧
      (s.dev.record w.ref.uid = none → w.dayReset = false →
        exec (.repairWriteComplete b) s = .next { s with dev := (arbitrate
          (d.event (.bandRefused w.tag w.ref.key w.ref.version w.sep.val w.band .noPage))) }) ∧
      (s.dev.record w.ref.uid = none → w.dayReset = true →
        exec (.repairWriteComplete b) s = .next { s with dev := (arbitrate d) }))

/-! ## The block builder and the ports -/

/-- R91 to R93, R118, R122: a site requests preparation while it has a next new block, fewer than sixteen ranks and no
prepared block, no preparation in flight, is ACTIVE or LINK_LOST and is not closing, whether or not the part is
quiesced; a slot is in use while a rank, the prepared block or the preparation in flight names it (R30). An idle
builder grants to the requesting site that comes first after the last site granted, going round from 7 to 0, takes its
lowest-numbered free slot and fixes its next new block: the head of the control list, or else the PLATE block of the
band the cursor names with the site's active curve and settings, or else the PAGE_END block, with the fifteen bytes of
its payload (R124, R210; the four bytes of an absent approved-at are free, log 9). A busy builder grants nothing, and
an idle one that no site asks neither. A grant of a band whose entry carries the fault flag already ends at once (R49,
R98): STORE_ERROR is raised, the delivery is cancelled as FAILED where that is not selected (R129), and the builder,
idle still, grants the next request, if any. -/
def Obligations.BuilderGrantsRoundRobin : Prop :=
  ∀ (d : Device) (i : SiteId) (k : Fin 16) (job : Job),
    (d.requests i = true ↔ d.nextJob i ≠ none ∧ (d.site i).win.ranks.length < 16 ∧ (d.site i).win.prepared = none ∧
      (∀ p : Preparation, d.builder.inFlight = some p → p.site ≠ i) ∧
      ((d.site i).win.link = .active ∨ (d.site i).win.link = .linkLost) ∧ (d.site i).win.closing = false) ∧
    (d.slotUsed i k = true ↔ (∃ r ∈ (d.site i).win.ranks, r.block.slot = some k) ∨
      (∃ b : Block, (d.site i).win.prepared = some b ∧ b.slot = some k) ∨
      ∃ p : Preparation, d.builder.inFlight = some p ∧ p.site = i ∧ p.slot = k) ∧
    ((∀ j : PlateJob, job ≠ .plate j) → d.jobFaulty job = false) ∧
    (∀ (j : PlateJob) (v : PageVersion) (e : BandEntry), d.record j.ref.uid = some v →
      v.entry j.sep j.band = some e → d.jobFaulty (.plate j) = e.fault) ∧
    ((d.builder.inFlight ≠ none ∨ ∀ j : SiteId, d.requests j = false) → askBuilder d = d) ∧
    (d.builder.inFlight = none → d.requests i = true →
      (∀ j : SiteId, d.requests j = true →
        (i.val + 7 - d.builder.last.val) % 8 ≤ (j.val + 7 - d.builder.last.val) % 8) →
      d.slotUsed i k = false → (∀ l : Fin 16, l < k → d.slotUsed i l = true) → d.nextJob i = some job →
      d.jobFaulty job = false →
      askBuilder d = { d with
        builder := { inFlight := some { site := i, slot := k, job := job, discard := false }, last := i }
        free := d.free + 1 }) ∧
    (∀ (j : PlateJob) (det : CondDetails) (x y : Device), d.builder.inFlight = none → d.requests i = true →
      (∀ m : SiteId, d.requests m = true →
        (i.val + 7 - d.builder.last.val) % 8 ≤ (m.val + 7 - d.builder.last.val) % 8) →
      d.slotUsed i k = false → d.nextJob i = some (.plate j) → d.jobFaulty (.plate j) = true →
      det = .storeError j.ref.key j.ref.version j.sep j.band →
      x = raise i det { d with builder := { d.builder with last := i }, free := d.free + 1 } →
      ((d.site i).cfg.haltMask.getLsbD 0 = true ∧ y = x ∨ (d.site i).cfg.haltMask.getLsbD 0 = false ∧
        ∃ c : Delivery, (d.site i).q.current = some c ∧ y = cancelCurrent i c .storeError x) →
      ((∀ m : SiteId, y.requests m = false) → askBuilder d = y) ∧
      ∀ (m : SiteId) (l : Fin 16) (next : Job), y.requests m = true →
        (∀ n : SiteId, y.requests n = true → (m.val + 7 - i.val) % 8 ≤ (n.val + 7 - i.val) % 8) →
        y.slotUsed m l = false → (∀ o : Fin 16, o < l → y.slotUsed m o = true) → y.nextJob m = some next →
        y.jobFaulty next = false →
        askBuilder d = { y with
          builder := { inFlight := some { site := m, slot := l, job := next, discard := false }, last := m }
          free := y.free + 1 }) ∧
    (∀ (e : ControlEntry) (es : List ControlEntry), (d.site i).q.control = e :: es →
      d.nextJob i = some (.control e)) ∧
    ((d.site i).q.control = [] → (d.site i).q.current = none → d.nextJob i = none) ∧
    ∀ (c : Delivery) (v : PageVersion), (d.site i).q.control = [] → (d.site i).q.current = some c →
      d.record c.ref.uid = some v →
      (∀ (sep : Sep) (band : Nat) (e : BandEntry), c.cursor = some (sep, band) → v.entry sep band = some e →
        d.nextJob i = some (.plate
          { delivery := c.id, ref := c.ref, sep := sep, band := band, cell := e.cell,
            pixels := v.width * (if band + 1 < v.bandCount then 128 else v.height - 128 * (v.bandCount - 1)),
            curve := entryOf (d.site i).tone.active.curves sep, gain := entryOf (d.site i).cfg.gains sep,
            minDot := (d.site i).cfg.minDot, maxDot := (d.site i).cfg.maxDot,
            solidHold := (d.site i).cfg.solidHold,
            ident := { deliveryIdent c v with
              sep := byteN sep.val, band := byteN band, lines := byteN (v.lines band) } })) ∧
      (c.cursor = none → c.pageEnd = false → ∃ payload : List Byte, d.nextJob i =
        some (.pageEnd c.id c.ref (deliveryIdent c v) payload) ∧ payload.length = 15 ∧
        payload.take 9 = [c.seps.setWidth 8, c.cls.code, byteN v.bandCount] ++
          halfN (v.bandCount * (allFour.filter fun k => c.seps.getLsbD k.val).length) ++ wordBytes c.sent ∧
        ∀ a : Approval, v.approval = some a → payload[9]? = some (byteN a.station) ∧
          (∀ time : Nat, a.approvedAt = some time → payload.drop 10 = 1 :: wordN time) ∧
          (a.approvedAt = none → payload[10]? = some 0)) ∧
      (c.cursor = none → c.pageEnd = true → d.nextJob i = none)

/-- PREPARATION_COMPLETE (R90, R95 to R97, R118, R47): with the discard mark set only the builder becomes idle; a
PLATE block is left prepared in its slot with its compensated payload, the sent digest takes its CRC, the cursor moves
to the next band and the clamp count takes the clamped runs; a PAGE_END block sets the delivery's PAGE_END flag; a
control block leaves the head of the control list, whose room an owed posting may take, and the site looks for a page
start. The repair writes that waited for the read, if any, are completed after the block's own effect, in the order of
their buffers (log 23), each as `Obligations.RepairWriteIsRecordedOrWaits` says. -/
def Obligations.PreparationLeavesItsBlock : Prop :=
  ∀ (s : State) (p : Preparation) (waiting : List (Fin 4 × BandWrite)) (finish : Device → Device),
    s.dev.builder.inFlight = some p →
    waiting.Pairwise (fun x y => x.1 < y.1) →
    (∀ (b : Fin 4) (w : BandWrite), (b, w) ∈ waiting ↔
      entryOf s.dev.feed.buffers b = .writing w ∧ w.ended = true) →
    (∀ x ∈ waiting, x.2.repair = true ∧ s.dev.reading x.2 = true) →
    (∀ x : Device, finish x = waiting.foldl (fun y r => finishRepair r.1 r.2 y) x) →
    (p.discard = true → exec .preparationComplete s = .next { s with dev := (arbitrate
      (finish { s.dev with builder := { s.dev.builder with inFlight := none } })) }) ∧
    (∀ (j : PlateJob) (c : Delivery) (v : PageVersion) (payload : List Byte),
      p.discard = false → p.job = .plate j → (s.dev.site p.site).q.current = some c →
      s.dev.record j.ref.uid = some v →
      payload = (takeRuns s.dev.store 16384 (j.cell * 32768) j.pixels).flatMap (fun r =>
        [r.1, byteN (compensate j.curve j.gain j.minDot j.maxDot j.solidHold r.2.toNat).1]) →
      exec .preparationComplete s = .next { s with dev := (arbitrate (finish
        ({ s.dev with
            builder := { s.dev.builder with inFlight := none }
            store := writeBytes s.dev.store ((32640 + 16 * p.site.val + p.slot.val) * 32768) payload }.onSite p.site
          fun st => { st with
            win := { st.win with
              prepared := some
                { kind := .plate, slot := some p.slot, delivery := some j.delivery,
                  ident := { j.ident with crc := crc32 payload }, target := none, size := 32 + payload.length } }
            q := { st.q with
              current := some { c with
                sent := c.sent + crc32 payload
                cursor := if j.band + 1 < v.bandCount then some (j.sep, j.band + 1)
                  else (c.seps.list.find? fun k => decide (j.sep < k)).map fun k => (k, 0) } }
            tone := { st.tone with
              clampCount := min (st.tone.clampCount +
                ((takeRuns s.dev.store 16384 (j.cell * 32768) j.pixels).filter fun r : Byte × Byte =>
                  (compensate j.curve j.gain j.minDot j.maxDot j.solidHold r.2.toNat).2).length) 65535 } }))) }) ∧
    (∀ (id : Nat) (ref : PageRef) (ident : Ident) (payload : List Byte),
      p.discard = false → p.job = .pageEnd id ref ident payload →
      exec .preparationComplete s = .next { s with dev := (arbitrate (finish
        ({ s.dev with
            builder := { s.dev.builder with inFlight := none }
            store := writeBytes s.dev.store ((32640 + 16 * p.site.val + p.slot.val) * 32768) payload }.onSite p.site
          fun st => { st with
            win := { st.win with
              prepared := some
                { kind := .pageEnd, slot := some p.slot, delivery := some id,
                  ident := { ident with crc := crc32 payload }, target := none, size := 32 + payload.length } }
            q := { st.q with current := st.q.current.map fun c : Delivery => { c with pageEnd := true } } }))) }) ∧
    ∀ e : ControlEntry, p.discard = false → p.job = .control e →
      exec .preparationComplete s = .next { s with dev := (arbitrate (finish (lookPageStart p.site (postOwed p.site
        ({ s.dev with
            builder := { s.dev.builder with inFlight := none }
            store := writeBytes s.dev.store ((32640 + 16 * p.site.val + p.slot.val) * 32768) e.payload }.onSite p.site
          fun st => { st with
            win := { st.win with
              prepared := some
                { kind := e.kind, slot := some p.slot, delivery := none,
                  ident := { e.ident with crc := crc32 e.payload }, target := e.target?,
                  size := 32 + e.payload.length } }
            q := { st.q with control := st.q.control.tail } }))))) }

/-- UNCORRECTABLE_READ (R49, R98, R129, R185, R47): the builder becomes idle and the entry that still records the cell
read takes the fault flag; with the discard mark set nothing more; else STORE_ERROR is raised: a site at which it is
selected halts with its delivery kept, or stays HALTED with the outcome ALREADY_HALTED; at another the delivery is
cancelled as FAILED; and a DISABLED or closing site drops it. The repair writes that waited for the read are completed
after all of this (log 30), in the order of their buffers (log 23). Other preparations read no band. -/
def Obligations.UncorrectableReadFaultsTheBand : Prop :=
  ∀ (s : State) (p : Preparation) (j : PlateJob) (d : Device) (det : CondDetails)
    (waiting : List (Fin 4 × BandWrite)) (finish : Device → Device),
    s.dev.builder.inFlight = some p →
    waiting.Pairwise (fun x y => x.1 < y.1) →
    (∀ (b : Fin 4) (w : BandWrite), (b, w) ∈ waiting ↔
      entryOf s.dev.feed.buffers b = .writing w ∧ w.ended = true) →
    (∀ x ∈ waiting, x.2.repair = true ∧ s.dev.reading x.2 = true) →
    (∀ x : Device, finish x = waiting.foldl (fun y r => finishRepair r.1 r.2 y) x) →
    ((∀ k : PlateJob, p.job ≠ .plate k) → exec .uncorrectableRead s = .next s) ∧
    (p.job = .plate j → det = .storeError j.ref.key j.ref.version j.sep j.band →
      d = { s.dev with
        builder := { s.dev.builder with inFlight := none }
        table := s.dev.table.map fun v => if v.uid = j.ref.uid then
          (v.entry j.sep j.band).elim v (fun e =>
            if e.cell = j.cell then v.withEntry j.sep j.band { e with fault := true } else v) else v } →
      (p.discard = true → exec .uncorrectableRead s = .next { s with dev := (arbitrate (finish d)) }) ∧
      (p.discard = false → (s.dev.site p.site).win.link = .disabled ∨ (s.dev.site p.site).win.closing = true →
        exec .uncorrectableRead s = .next { s with dev := (arbitrate (finish d)) }) ∧
      (p.discard = false → (s.dev.site p.site).win.link ≠ .disabled → (s.dev.site p.site).win.closing = false →
        ((s.dev.site p.site).cfg.haltMask.getLsbD 0 = true →
          ((s.dev.site p.site).win.link = .halted →
            exec .uncorrectableRead s = .next { s with dev := (arbitrate (finish
              (d.event (.condition p.site .halted .alreadyHalted .halted det)))) }) ∧
          ((s.dev.site p.site).win.link ≠ .halted →
            exec .uncorrectableRead s = .next { s with dev := (arbitrate (finish
              ((d.event (.condition p.site (s.dev.site p.site).win.link .halt .halted det)).onSite p.site fun st =>
                { st with
                  win := { st.win with link := .halted, ackTimer := .stopped, probeTimer := none }
                  halt := some { details := det, clock := s.dev.time, resume :=
                    if (s.dev.site p.site).win.link = .waiting then .waiting else .active } }))) })) ∧
        ((s.dev.site p.site).cfg.haltMask.getLsbD 0 = false →
          ∀ c : Delivery, (s.dev.site p.site).q.current = some c → c.id = j.delivery →
            exec .uncorrectableRead s = .next { s with dev := (arbitrate (finish (cancelCurrent p.site c .storeError
              (d.event (.condition p.site (s.dev.site p.site).win.link .action (s.dev.site p.site).win.link
                det))))) })))

/-- R127, R144, R94, R3: the cancellation of a current delivery, whatever its cause, makes its ranks VOID with number,
place and flag kept, discards its prepared block and marks its preparation, leaves the ranks of other blocks as they
are, and clears the delivery with its record CANCELLED, or FAILED on STORE_ERROR, and the delivered check follows;
before that a CANCEL with the reason of the cause is posted, but for DISABLE SITE. The cancellation of a queued
delivery (R126) removes its entry and makes its record CANCELLED, with the delivered check and nothing else; one of a
version that is neither queued nor current at the site changes nothing. A version's deliveries are cancelled at every
site whose record of it is QUEUED or SENDING (R16, R20), in ascending site index (log 31). -/
def Obligations.CancellationMakesRanksVoid : Prop :=
  (∀ (i : SiteId) (c : Delivery) (cause : CancelCause) (d x y : Device) (reason : CancelReason),
    x = ({ d with builder := { d.builder with inFlight := d.builder.inFlight.map fun p =>
          if p.site = i ∧ p.job.delivery = some c.id then { p with discard := true } else p } } : Device).onWin i
        (fun w => { w with
          ranks := w.ranks.map fun r => if r.block.delivery = some c.id then
            { r with block := { kind := .void, slot := none, delivery := none, ident := Ident.zero, target := none,
                                size := 32 } } else r
          prepared := w.prepared.filter fun b => decide (b.delivery ≠ some c.id) }) →
    (cause = .superseded ∧ reason = .superseded ∨ cause = .withdrawn ∧ reason = .withdrawn ∨
      cause = .displaced ∧ reason = .displaced ∨ cause = .storeError ∧ reason = .failed ∨ cause = .disable) →
    y = (if cause = .disable then x else postCancel i c.ref.key c.ref.version reason x) →
    cancelCurrent i c cause d = deliveredCheck c.ref.uid ((y.onQueue i fun q => { q with current := none }).onDelivery
      c.ref.uid i fun r => { r with
        state := if cause = .storeError then .failed else .cancelled
        cause := if cause = .storeError then some .storeError else none }) ∧
    (cause ≠ .disable → (d.site i).win.link ≠ .disabled → (d.site i).win.closing = false →
      (d.site i).q.control.length < 16 → ((cancelCurrent i c cause d).site i).q.control =
        (d.site i).q.control ++ [.cancel c.ref.key c.ref.version reason]) ∧
    (cause = .disable ∨ 16 ≤ (d.site i).q.control.length →
      ((cancelCurrent i c cause d).site i).q.control = (d.site i).q.control)) ∧
  (∀ (i : SiteId) (u : Nat) (cause : CancelCause) (d : Device),
    (∀ c : Delivery, (d.site i).q.current = some c → c.ref.uid = u →
      cancelDelivery i u cause d = cancelCurrent i c cause d) ∧
    ((∀ c : Delivery, (d.site i).q.current = some c → c.ref.uid ≠ u) →
      ((∃ e ∈ (d.site i).q.queue, e.ref.uid = u) → cancelDelivery i u cause d =
        deliveredCheck u ((d.onQueue i fun q => { q with queue := q.queue.filter fun e => decide (e.ref.uid ≠ u)
          }).onDelivery u i fun r => { r with state := .cancelled, cause := none })) ∧
      ((∀ e ∈ (d.site i).q.queue, e.ref.uid ≠ u) → cancelDelivery i u cause d = d)) ∧
    cancelAll u cause d = allSites.foldl (fun x m => (x.record u).elim x fun v =>
      if (v.at m).state = .queued ∨ (v.at m).state = .sending then cancelDelivery m u cause x else x) d) ∧
  ∀ (i : SiteId) (c : Delivery) (cause : CancelCause) (d : Device) (v : PageVersion),
    d.record c.ref.uid = some v → v.uid = c.ref.uid →
    ((cancelCurrent i c cause d).site i).q.current = none ∧
    ((cancelCurrent i c cause d).site i).q.queue = (d.site i).q.queue ∧
    ((cancelCurrent i c cause d).site i).win.nextSeq = (d.site i).win.nextSeq ∧
    ((cancelCurrent i c cause d).site i).win.ranks = (d.site i).win.ranks.map (fun r =>
      if r.block.delivery = some c.id then
        { r with block := { kind := .void, slot := none, delivery := none, ident := Ident.zero, target := none,
                            size := 32 } } else r) ∧
    ((cancelCurrent i c cause d).site i).win.prepared =
      (if (d.site i).win.prepared.any (fun b => decide (b.delivery = some c.id)) then none
        else (d.site i).win.prepared) ∧
    (cancelCurrent i c cause d).builder.inFlight = d.builder.inFlight.map (fun p =>
      if p.site = i ∧ p.job.delivery = some c.id then { p with discard := true } else p) ∧
    (∀ j : SiteId, j ≠ i → (cancelCurrent i c cause d).site j = d.site j) ∧
    ∃ x : PageVersion, (cancelCurrent i c cause d).record c.ref.uid = some x ∧
      (x.at i).state = (if cause = .storeError then .failed else .cancelled) ∧
      (x.at i).cause = (if cause = .storeError then some .storeError else none) ∧
      ∀ j : SiteId, j ≠ i → x.at j = v.at j

/-- R139, R140, R166 to R169, R171, R173, R176: a site is eligible while its window offers a block (a rank marked for
resend or the prepared block in ACTIVE, a marked rank 1 in LINK_LOST), it is not closing and not paused by its flow
mode, the part is not quiesced, its credit is above 0 and no port is transmitting for it. A free port begins a
transmission for the eligible site mapped to it that comes first after the last site granted; a prepared block joins
the window at the tail with next seq, a resend loses its mark; the credit is charged with the block's size, the
quality gauge counts the transmission and ends its window at 64 first transmissions of PLATE blocks, with
DEGRADE_CHANGED where the level changes, and the port sends the header of the rank with the site's present code. The
ack timer is started in full when the rank joins an empty window and at a resend in ACTIVE, a held one only by the
resend of rank 1 (R145, R146); else it stays. The payload sent is what the slot holds, or free bytes where the reading
is free to fail (R50, log 8: SLOT_ERROR is then sent), and none for a VOID rank. A busy port, and a port with no
eligible site, begins nothing; so does every port of a quiesced part. -/
def Obligations.PortSendsForTheFirstEligibleSite : Prop :=
  ∀ (p : PortId) (d : Device),
    (((d.port p).tx ≠ none ∨ ∀ j : SiteId, (d.site j).cfg.port = p → d.eligible j = false) → askPort p d = d) ∧
    (d.base.quiesced = true → askPort p d = d) ∧
    (∀ i : SiteId, d.eligible i = true ↔
      ((d.site i).win.link = .active ∧ ((∃ r ∈ (d.site i).win.ranks, r.pending = true) ∨
          (d.site i).win.prepared ≠ none) ∨
        (d.site i).win.link = .linkLost ∧ ∃ r : Rank, (d.site i).win.ranks.head? = some r ∧ r.pending = true) ∧
      (d.site i).win.closing = false ∧
      ¬(((d.site i).cfg.flow = .obey ∨ (d.site i).cfg.flow = .gapObey) ∧ (d.site i).pace.ready = false) ∧
      d.base.quiesced = false ∧ 0 < (d.site i).pace.credit ∧
      ∀ (q : PortId) (x : Transmission), (d.port q).tx = some x → x.site ≠ i) ∧
    ∀ (i : SiteId) (r : Rank) (ranks : List Rank) (next : Half) (left : Option Block) (refs resends : Nat)
      (ack : AckTimer) (e : Device),
      (d.port p).tx = none → (d.site i).cfg.port = p → d.eligible i = true →
      (∀ j : SiteId, (d.site j).cfg.port = p → d.eligible j = true →
        (i.val + 7 - (d.port p).last.val) % 8 ≤ (j.val + 7 - (d.port p).last.val) % 8) →
      ((∃ b : Block, (d.site i).win.link = .active ∧ (∀ x ∈ (d.site i).win.ranks, x.pending = false) ∧
          (d.site i).win.prepared = some b ∧ r = { seq := (d.site i).win.nextSeq, block := b, pending := false } ∧
          ranks = (d.site i).win.ranks ++ [r] ∧ next = (d.site i).win.nextSeq + 1 ∧ left = none ∧
          refs = (d.site i).pace.refCount + (if b.kind = .plate then 1 else 0) ∧
          resends = (d.site i).pace.resendCount ∧
          ack = (if (d.site i).win.ranks = [] then .running (d.site i).cfg.ackTimeout
            else (d.site i).win.ackTimer)) ∨
        (∃ (old : Rank) (pre post : List Rank), (d.site i).win.ranks = pre ++ old :: post ∧ old.pending = true ∧
          (∀ x ∈ pre, x.pending = false) ∧
          ((d.site i).win.link = .active ∨ (d.site i).win.link = .linkLost ∧ pre = []) ∧
          r = { old with pending := false } ∧ ranks = pre ++ r :: post ∧ next = (d.site i).win.nextSeq ∧
          left = (d.site i).win.prepared ∧ refs = (d.site i).pace.refCount ∧
          resends = min ((d.site i).pace.resendCount + 1) 65535 ∧
          ack = (if (d.site i).win.link = .active ∧ (pre = [] ∨ (d.site i).win.ackTimer ≠ .held)
            then .running (d.site i).cfg.ackTimeout else (d.site i).win.ackTimer))) →
      e = (if 64 ≤ refs ∧ ((askPort p d).site i).pace.level ≠ (d.site i).pace.level
        then d.event (.degradeChanged i (d.site i).pace.level ((askPort p d).site i).pace.level resends) else d) →
      ((askPort p d).site i).win.ackTimer = ack ∧ ((askPort p d).site i).win.ranks = ranks ∧
      ((askPort p d).site i).win.nextSeq = next ∧
      ((askPort p d).site i).win.prepared = left ∧
      ((askPort p d).site i).pace.credit = (d.site i).pace.credit - (r.block.size : Int) ∧
      (refs < 64 → ((askPort p d).site i).pace.refCount = refs ∧ ((askPort p d).site i).pace.resendCount = resends ∧
        ((askPort p d).site i).pace.level = (d.site i).pace.level) ∧
      (64 ≤ refs → ((askPort p d).site i).pace.refCount = 0 ∧ ((askPort p d).site i).pace.resendCount = 0 ∧
        ((askPort p d).site i).pace.level = (if (d.site i).cfg.highMark ≤ resends then min ((d.site i).pace.level + 1) 3
          else if resends ≤ (d.site i).cfg.lowMark then (d.site i).pace.level - 1 else (d.site i).pace.level)) ∧
      ((askPort p d).site i).q = (d.site i).q ∧ (askPort p d).table = d.table ∧ (askPort p d).store = d.store ∧
      (askPort p d).builder = d.builder ∧ ((askPort p d).port p).last = i ∧
      (∃ t : Transmission, ((askPort p d).port p).tx = some t ∧ t.site = i ∧ t.kind = r.block.kind ∧
        t.header = headerOf r.block.kind r.seq (d.site i).cfg.code r.block.ident
          (if r.block.slot.isSome then r.block.size - 32 else 0) ∧
        (r.block.slot = none → t.payload = [] ∧ (askPort p d).free = d.free) ∧
        ∀ k : Fin 16, r.block.slot = some k → (askPort p d).free = d.free + 1 ∧
          t.payload = if Config.slotFails d.free = true
            then (List.range (r.block.size - 32)).map (Config.slotByte d.free)
            else readBytes d.store ((32640 + 16 * i.val + k.val) * 32768) (r.block.size - 32)) ∧
      ((r.block.slot = none → (askPort p d).feed = e.feed) ∧
        ∀ k : Fin 16, r.block.slot = some k → (askPort p d).feed =
          (if Config.slotFails d.free = true then e.event (.slotError i k r.seq) else e).feed) ∧
      (∀ j : SiteId, j ≠ i → (askPort p d).site j = d.site j) ∧
      ∀ q : PortId, q ≠ p → (askPort p d).port q = d.port q

/-- TRANSMISSION_END (R156, R170, R174): the port is free; the end of a PAGE_END starts the gap timer of a site in GAP
or GAP_OBEY whose gap length is not 0; a closing site becomes DISABLED with its window empty and its credit 0 (a gap
timer that its PAGE_END starts stays, log 18). A port that sends nothing has nothing to end (log 3). -/
def Obligations.TransmissionEndFreesThePort : Prop :=
  ∀ (p : PortId) (s : State) (t : Transmission),
    ((s.dev.port p).tx = none → exec (.transmissionEnd p) s = .next s) ∧
    ((s.dev.port p).tx = some t → (s.dev.site t.site).win.closing = false →
      exec (.transmissionEnd p) s = .next { s with dev := (arbitrate
        ((s.dev.onPort p fun x => { x with tx := none }).onSite t.site fun st => { st with
          pace := { st.pace with
            gap := if t.kind = .pageEnd ∧ (st.cfg.flow = .gap ∨ st.cfg.flow = .gapObey) ∧ st.cfg.gapLength ≠ 0
              then some st.cfg.gapLength else st.pace.gap } })) }) ∧
    ((s.dev.port p).tx = some t → (s.dev.site t.site).win.closing = true →
      exec (.transmissionEnd p) s = .next { s with dev := (arbitrate
        (((s.dev.onPort p fun x => { x with tx := none }).markIf fun y => decide (y.site = t.site)).onSite t.site
          fun st => { st with
            win := { ranks := [], nextSeq := 0, prepared := none, ackTimer := .stopped, probeTimer := none, retry := 0,
                     link := .disabled, closing := false }
            pace := { st.pace with
              credit := 0
              gap := if t.kind = .pageEnd ∧ (st.cfg.flow = .gap ∨ st.cfg.flow = .gapObey) ∧ st.cfg.gapLength ≠ 0
                then some st.cfg.gapLength else st.pace.gap }
            halt := none })) })

/-! ## Return frames -/

/-- R141 to R143, R146: an ACK that names rank d + 1 removes ranks 1 to d + 1, clears the retry count and restarts the
ack timer when ranks remain and it may run; a MISS that names rank d + 1 sets that rank's resend-pending flag and
changes nothing else of the window; a stale one does nothing, and one beyond the newest rank raises ACK_RANGE. Each is
taken in ACTIVE and HALTED, and in LINK_LOST after the recovery to ACTIVE (R150), a page start being sought once and
last (the model's choice, log 7). Stated for removed ranks of kinds that hand nothing on
(`Obligations.AckEndsDeliveriesAndAppliesTargets` states the others). The ack timer (R145, R146): it may run while the
site is ACTIVE and not closing, has ranks and is not paused, and the part is not quiesced; an ACK that removes ranks
starts it in full where it may run and stops it elsewhere; whenever what it runs under changes, a stopped one starts
in full once it may run, a running one stops once it may not, and a held one stays until the window is empty or the
site is not ACTIVE. The probe timer (R149) runs in LINK_LOST in a part that is not quiesced, from a full count of four
ack timeouts. -/
def Obligations.AckAndMissAreMeasuredFromRankOne : Prop :=
  (∀ (p : PortId) (f : ReturnFrame) (s : State) (i : SiteId) (n : Half) (k : Nat) (d : Device),
    ReturnPasses f 0x01 (halfBytes n) → s.dev.Names p f.code i →
    (s.dev.site i).win.closing = false →
    (((s.dev.site i).win.link = .active ∨ (s.dev.site i).win.link = .halted) ∧ d = s.dev ∨
      (s.dev.site i).win.link = .linkLost ∧ d = syncTimers i
        ((s.dev.onWin i fun w => { w with link := .active, retry := 0, probeTimer := none }).event
          (.siteLink i .linkLost .active .returnFrame))) →
    k = (n - ((s.dev.site i).win.ranks.head?.elim (s.dev.site i).win.nextSeq fun r => r.seq)).toNat →
    (k < (s.dev.site i).win.ranks.length →
      (∀ r ∈ (s.dev.site i).win.ranks.take (k + 1), r.block.kind ≠ .target ∧ r.block.kind ≠ .pageEnd) →
      exec (.ack p f) s = .next { s with dev := (arbitrate (lookPageStart i (syncTimers i (startAck i
        (d.onWin i fun w => { w with ranks := w.ranks.drop (k + 1), retry := 0 }))))) }) ∧
    ((s.dev.site i).win.ranks.length ≤ k → 32768 ≤ k →
      exec (.ack p f) s = .next { s with dev := (arbitrate (lookPageStart i (syncTimers i d))) }) ∧
    ((s.dev.site i).win.ranks.length ≤ k → k < 32768 →
      exec (.ack p f) s = .next { s with dev := (arbitrate (lookPageStart i (syncTimers i (raise i
        (.ackRange 0x01 n ((s.dev.site i).win.ranks.head?.elim (s.dev.site i).win.nextSeq fun r => r.seq)
          (s.dev.site i).win.ranks.length) d)))) })) ∧
  (∀ (p : PortId) (f : ReturnFrame) (s : State) (i : SiteId) (n : Half) (k : Nat) (d : Device),
    ReturnPasses f 0x02 (halfBytes n) → s.dev.Names p f.code i →
    (s.dev.site i).win.closing = false →
    (((s.dev.site i).win.link = .active ∨ (s.dev.site i).win.link = .halted) ∧ d = s.dev ∨
      (s.dev.site i).win.link = .linkLost ∧ d = syncTimers i
        ((s.dev.onWin i fun w => { w with link := .active, retry := 0, probeTimer := none }).event
          (.siteLink i .linkLost .active .returnFrame))) →
    k = (n - ((s.dev.site i).win.ranks.head?.elim (s.dev.site i).win.nextSeq fun r => r.seq)).toNat →
    (∀ (pre post : List Rank) (r : Rank), (s.dev.site i).win.ranks = pre ++ r :: post → pre.length = k →
      exec (.miss p f) s = .next { s with dev := (arbitrate (lookPageStart i (syncTimers i
        (d.onWin i fun w => { w with ranks := pre ++ { r with pending := true } :: post })))) }) ∧
    ((s.dev.site i).win.ranks.length ≤ k → 32768 ≤ k →
      exec (.miss p f) s = .next { s with dev := (arbitrate (lookPageStart i (syncTimers i d))) }) ∧
    ((s.dev.site i).win.ranks.length ≤ k → k < 32768 →
      exec (.miss p f) s = .next { s with dev := (arbitrate (lookPageStart i (syncTimers i (raise i
        (.ackRange 0x02 n ((s.dev.site i).win.ranks.head?.elim (s.dev.site i).win.nextSeq fun r => r.seq)
          (s.dev.site i).win.ranks.length) d)))) })) ∧
  ∀ (d : Device) (i : SiteId) (st : Site) (run : Prop) (ack : AckTimer), st = d.site i →
    (run ↔ st.win.link = .active ∧ st.win.closing = false ∧ st.win.ranks ≠ [] ∧
      ¬((st.cfg.flow = .obey ∨ st.cfg.flow = .gapObey) ∧ st.pace.ready = false) ∧ d.base.quiesced = false) →
    (run → startAck i d = d.onWin i fun w => { w with ackTimer := .running st.cfg.ackTimeout }) ∧
    (¬run → startAck i d = d.onWin i fun w => { w with ackTimer := .stopped }) ∧
    ((run ∧ ack = (if st.win.ackTimer = .stopped then .running st.cfg.ackTimeout else st.win.ackTimer) ∨
        ¬run ∧ ack = (if st.win.ackTimer = .held ∧ st.win.link = .active ∧ st.win.closing = false ∧
          st.win.ranks ≠ [] then .held else .stopped)) →
      syncTimers i d = d.onWin i fun w => { w with
        ackTimer := ack
        probeTimer := if st.win.link = .linkLost ∧ st.win.closing = false ∧ d.base.quiesced = false
          then some (st.win.probeTimer.getD (4 * st.cfg.ackTimeout)) else none })

/-- R110, R125, R142, R150: an ACK that names rank k + 1 of a site in ACTIVE or HALTED, or of one in LINK_LOST once it
is recovered to ACTIVE, removes ranks 1 to k + 1 and hands them on, oldest first; then the retry count is 0, the ack
timer is restarted where ranks remain and it may run, and a page start is sought. A removed rank that holds the
current delivery's PAGE_END ends the delivery: SITE_DELIVERED with the sent digest, the record ACKED and the delivered
check; one that holds a TARGET block applies its generation, with TARGET_APPLIED, and lets a gate that waits on that
stock go to IDLE when the generation is the latest; one of another kind hands nothing on. The delivered check (R18,
R22) of a RELEASED version none of whose records is QUEUED or SENDING takes it to DELIVERED, enters it at the tail of
the retained list, once, with the next number, and sends PAGE_DELIVERED with its eight records; of any other version
it changes nothing. At a site in LINK_LOST the recovery comes first, as R150 says; that no page start is sought
between it and the ACK's own effect, but once and last, is the model's choice (log 7). -/
def Obligations.AckEndsDeliveriesAndAppliesTargets : Prop :=
  (∀ (u : Nat) (v : PageVersion) (d : Device), d.record u = some v →
    (v.state ≠ .released ∨ (∃ j : SiteId, (v.at j).state = .queued ∨ (v.at j).state = .sending) →
      deliveredCheck u d = d) ∧
    (v.state = .released → (∀ j : SiteId, (v.at j).state ≠ .queued ∧ (v.at j).state ≠ .sending) →
      (u ∉ d.retained → deliveredCheck u d = ({ d with
          table := d.table.map fun x => if x.uid = u
            then { x with state := .delivered, retained := some d.retainedCount } else x
          retained := d.retained ++ [u], retainedCount := d.retainedCount + 1 } : Device).event
        (.pageDelivered v.key v.version v.records)) ∧
      (u ∈ d.retained → deliveredCheck u d = (d.onRecord u fun x => { x with state := .delivered }).event
        (.pageDelivered v.key v.version v.records)))) ∧
  ∀ (i : SiteId) (r : Rank) (d : Device),
    (∀ (p : PortId) (f : ReturnFrame) (s : State) (n : Half) (k : Nat) (e : Device),
      ReturnPasses f 0x01 (halfBytes n) → s.dev.Names p f.code i → (s.dev.site i).win.closing = false →
      (((s.dev.site i).win.link = .active ∨ (s.dev.site i).win.link = .halted) ∧ d = s.dev ∨
        (s.dev.site i).win.link = .linkLost ∧ d = syncTimers i
          ((s.dev.onWin i fun w => { w with link := .active, retry := 0, probeTimer := none }).event
            (.siteLink i .linkLost .active .returnFrame))) →
      k = (n - ((s.dev.site i).win.ranks.head?.elim (s.dev.site i).win.nextSeq fun r => r.seq)).toNat →
      k < (s.dev.site i).win.ranks.length →
      e = ((s.dev.site i).win.ranks.take (k + 1)).foldl (fun x r => handOn i r x)
        (d.onWin i fun w => { w with ranks := w.ranks.drop (k + 1) }) →
      exec (.ack p f) s = .next { s with dev := (arbitrate (lookPageStart i (syncTimers i (startAck i
        (e.onWin i fun w => { w with retry := 0 }))))) }) ∧
    (∀ (c : Delivery) (v : PageVersion), r.block.kind = .pageEnd → (d.site i).q.current = some c →
      r.block.delivery = some c.id → d.record c.ref.uid = some v →
      handOn i r d = deliveredCheck c.ref.uid
        (((d.onDelivery c.ref.uid i fun x => { x with state := .acked, cause := none }).onQueue i fun q =>
          { q with current := none }).event
          (.siteDelivered i c.ref.key c.ref.version c.cls c.sent (v.at i).late))) ∧
    (∀ (k : Stock) (gen : Byte), r.block.kind = .target → r.block.target = some (k, gen) →
      (gen ≠ ((d.site i).target k).latestGen ∨ (d.site i).tgt.gate = .idle →
        handOn i r d = (d.onTarget i k fun x => { x with ackedGen := gen }).event
          (.targetApplied i k gen (decide (gen = ((d.site i).target k).latestGen)))) ∧
      (∀ n : Nat, gen = ((d.site i).target k).latestGen → (d.site i).tgt.gate = .wait n →
        (d.site i).tone.arm = some { stock := k, gated := true } →
        handOn i r d = ((d.onTarget i k fun x => { x with ackedGen := gen }).event
          (.targetApplied i k gen true)).onTgt i fun t => { t with gate := .idle })) ∧
    (r.block.kind ≠ .target → r.block.kind ≠ .pageEnd → handOn i r d = d)

/-- PAUSE and RESUME_FRAME (R150, R151, R172, R145): at a site in OBEY or GAP_OBEY the ready flag takes the frame's
value, at one in IGNORE or GAP it stays; a site in LINK_LOST is first recovered to ACTIVE, with SITE_LINK and its retry
count 0. -/
def Obligations.PauseAndResumeSetTheReadyFlag : Prop :=
  ∀ (p : PortId) (f : ReturnFrame) (s : State) (i : SiteId) (ready : Bool) (c : Instr) (act : Device → Device),
    (ready = false ∧ ReturnPasses f 0x03 [] ∧ c = .pause p f ∨
      ready = true ∧ ReturnPasses f 0x04 [] ∧ c = .resumeFrame p f) →
    s.dev.Names p f.code i → (s.dev.site i).win.closing = false →
    (∀ d : Device, act d = syncTimers i (d.onSite i fun st =>
      if st.cfg.flow = .obey ∨ st.cfg.flow = .gapObey then { st with pace := { st.pace with ready := ready } } else st)) →
    ((s.dev.site i).win.link = .active ∨ (s.dev.site i).win.link = .halted →
      exec c s = .next { s with dev := (arbitrate (lookPageStart i (act s.dev))) }) ∧
    ((s.dev.site i).win.link = .linkLost →
      exec c s = .next { s with dev := (arbitrate (lookPageStart i (act (syncTimers i
        ((s.dev.onWin i fun w => { w with link := .active, retry := 0, probeTimer := none }).event
          (.siteLink i .linkLost .active .returnFrame)))))) })

/-- HELLO (R152 to R155, R119, R108, R172, R182): a WAITING site goes to ACTIVE with next seq 0; a HELLO with the
restart flag empties the window of an ACTIVE, LINK_LOST or HALTED site, restarts its delivery, marks its preparation
and owes what it has not acknowledged; one without it recovers a LINK_LOST site and changes nothing at an ACTIVE or
HALTED one; one on another port than the site's raises PORT_MISMATCH. That the HELLO which recovers a LINK_LOST site
sets the ready flag is the model's choice (log 34). -/
def Obligations.HelloOpensOrRestartsTheWindow : Prop :=
  ∀ (p : PortId) (f : ReturnFrame) (s : State) (i : SiteId) (flags : Byte) (after : LinkState),
    ReturnPasses f 0x05 [flags] →
    (s.dev.Names p f.code i → (s.dev.site i).win.closing = false →
      ((s.dev.site i).win.link = .waiting →
        exec (.hello p f) s = .next { s with dev := (arbitrate (lookPageStart i (syncTimers i
          ((s.dev.onSite i fun st => { st with
              win := { st.win with ranks := [], nextSeq := 0, prepared := none, ackTimer := .stopped,
                                   probeTimer := none, retry := 0, link := .active }
              pace := { st.pace with ready := true } }).event
            (.siteLink i .waiting .active (if flags.getLsbD 0 = true then .helloRestart else .hello)))))) }) ∧
      ((s.dev.site i).win.link = .active ∨ (s.dev.site i).win.link = .linkLost ∨ (s.dev.site i).win.link = .halted →
        after = (if (s.dev.site i).win.link = .halted then .halted else .active) → flags.getLsbD 0 = true →
        exec (.hello p f) s = .next { s with dev := (arbitrate (lookPageStart i (syncTimers i (oweUnacknowledged i
          (((s.dev.markIf fun x => decide (x.site = i)).onSite i fun st => { st with
              win := { st.win with ranks := [], nextSeq := 0, prepared := none, ackTimer := .stopped,
                                   probeTimer := none, retry := 0, link := after }
              pace := { st.pace with ready := true }
              halt := st.halt.map fun h => { h with resume := .active }
              q := { st.q with current := st.q.current.map fun c =>
                { c with cursor := c.seps.list.head?.map fun k => (k, 0), sent := 0, pageEnd := false } } }).event
            (.siteLink i (s.dev.site i).win.link after .helloRestart)))))) }) ∧
      ((s.dev.site i).win.link = .linkLost → flags.getLsbD 0 = false →
        exec (.hello p f) s = .next { s with dev := (arbitrate (lookPageStart i (syncTimers i (syncTimers i
          ((s.dev.onSite i fun st => { st with
              win := { st.win with link := .active, retry := 0, probeTimer := none }
              pace := { st.pace with ready := true } }).event
            (.siteLink i .linkLost .active .hello)))))) }) ∧
      ((s.dev.site i).win.link = .active ∨ (s.dev.site i).win.link = .halted → flags.getLsbD 0 = false →
        exec (.hello p f) s = .next { s with dev := (arbitrate (lookPageStart i (syncTimers i s.dev))) })) ∧
    ((∀ j : SiteId, (s.dev.site j).cfg.port = p → (s.dev.site j).cfg.code ≠ f.code) →
      (∀ j : SiteId, (s.dev.site j).cfg.code = f.code → j = i) → (s.dev.site i).cfg.code = f.code →
      exec (.hello p f) s = .next { s with dev := (raise i (.portMismatch p (s.dev.site i).cfg.port) s.dev) })

/-- REMAKE (R130, R131, R116, R150): absorbed where the position is queued or current; enqueued with class REMAKE and
the separations asked for where the effective version is out and was acknowledged; else answered with a NOTAVAIL,
which joins the control list at the tail, or, where sixteen entries stand there, is dropped with CONTROL_OVERFLOW
(R121); nothing is posted at a DISABLED or closing site. A site in LINK_LOST is first recovered to ACTIVE, as R150
says; that no page start is sought between the recovery and the REMAKE's own effect, but once and last, is the model's
choice (log 7). The effective version (R130) is the highest live version of the position with the site's plan zone for
its edition, 0 where it does not print it, or else with zone 0; there is none where neither is live, for a section
above 7, a page number 0 or above 96, or an edition above 15. The absorbed REMAKE_TAKEN carries the separation set 0
and no version: the model's choice (log 17). -/
def Obligations.RemakeIsTakenAbsorbedOrUnavailable : Prop :=
  (∀ (d : Device) (i : SiteId) (pos : Position),
    (7 < pos.sect ∨ pos.page = 0 ∨ 96 < pos.page → d.effectiveVersion i pos = none) ∧
    (15 < pos.edition → (∀ v ∈ d.table, v.key.pos.edition ≤ 15) → d.effectiveVersion i pos = none) ∧
    ∀ (e : Fin 16) (zone : Nat) (v : PageVersion), e.val = pos.edition → pos.sect ≤ 7 → 1 ≤ pos.page → pos.page ≤ 96 →
      zone = (entryOf (entryOf d.base.plans e).entries i).getD 0 →
      (v ∈ d.table → v.state ≠ .superseded → v.state ≠ .withdrawn →
        (∀ x ∈ d.table, x.key = v.key → x.state ≠ .superseded → x.state ≠ .withdrawn →
          x = v ∨ x.version < v.version) →
        (v.key = { pos := pos, zone := zone } → d.effectiveVersion i pos = some v) ∧
        ((∀ x ∈ d.table, x.key = { pos := pos, zone := zone } → x.state = .superseded ∨ x.state = .withdrawn) →
          v.key = { pos := pos, zone := 0 } → d.effectiveVersion i pos = some v)) ∧
      ((∀ x ∈ d.table, x.key = { pos := pos, zone := zone } ∨ x.key = { pos := pos, zone := 0 } →
          x.state = .superseded ∨ x.state = .withdrawn) → d.effectiveVersion i pos = none)) ∧
  (∀ (d : Device) (i : SiteId) (pos : Position) (reason : NotAvailReason),
    ((d.site i).win.link = .disabled ∨ (d.site i).win.closing = true → postNotAvail i pos reason d = d) ∧
    ((d.site i).win.link ≠ .disabled → (d.site i).win.closing = false →
      ((d.site i).q.control.length < 16 → postNotAvail i pos reason d =
        d.onQueue i fun q => { q with control := q.control ++ [.notAvail pos reason] }) ∧
      (16 ≤ (d.site i).q.control.length →
        postNotAvail i pos reason d = raise i (.overflowNotAvail pos) d))) ∧
  ∀ (p : PortId) (f : ReturnFrame) (s : State) (i : SiteId) (e sect page seps : Byte) (pos : Position) (asked : SepSet)
    (d : Device),
    ReturnPasses f 0x06 [e, sect, page, seps] → s.dev.Names p f.code i → (s.dev.site i).win.closing = false →
    (((s.dev.site i).win.link = .active ∨ (s.dev.site i).win.link = .halted) ∧ d = s.dev ∨
      (s.dev.site i).win.link = .linkLost ∧ d = syncTimers i
        ((s.dev.onWin i fun w => { w with link := .active, retry := 0, probeTimer := none }).event
          (.siteLink i .linkLost .active .returnFrame))) →
    pos = { edition := e.toNat, sect := sect.toNat, page := page.toNat } → asked = seps.setWidth 4 →
    ((s.dev.site i).hasPosition pos = true →
      exec (.remake p f) s = .next { s with dev := (arbitrate (lookPageStart i (syncTimers i
        (d.event (.remakeTaken i pos none 0 true))))) }) ∧
    ((s.dev.site i).hasPosition pos = false →
      (s.dev.effectiveVersion i pos = none →
        exec (.remake p f) s = .next { s with dev := (arbitrate (lookPageStart i (syncTimers i
          ((postNotAvail i pos .noVersion d).event
            (.remakeUnavailable i pos .noVersion (decide (16 ≤ (s.dev.site i).q.control.length))))))) }) ∧
      ∀ v : PageVersion, s.dev.effectiveVersion i pos = some v →
        (v.state ≠ .released → v.state ≠ .delivered →
          exec (.remake p f) s = .next { s with dev := (arbitrate (lookPageStart i (syncTimers i
            ((postNotAvail i pos .notReleased d).event
              (.remakeUnavailable i pos .notReleased (decide (16 ≤ (s.dev.site i).q.control.length))))))) }) ∧
        ((v.state = .released ∨ v.state = .delivered) →
          ((v.at i).state ≠ .acked →
            exec (.remake p f) s = .next { s with dev := (arbitrate (lookPageStart i (syncTimers i
              ((postNotAvail i pos .notReceived d).event
                (.remakeUnavailable i pos .notReceived (decide (16 ≤ (s.dev.site i).q.control.length))))))) }) ∧
          ((v.at i).state = .acked → ∀ set : SepSet,
            set = (if asked &&& v.seps = 0 then v.seps else asked &&& v.seps) →
            exec (.remake p f) s = .next { s with dev := (arbitrate (lookPageStart i (syncTimers i
              ((enqueue i { uid := v.uid, key := v.key, version := v.version } .remake set d).event
                (.remakeTaken i pos (some (v.version, v.key.zone)) set false))))) })))

/-- R151, R152: a return frame that fails the frame check, one whose code no site mapped to the port has, one for a site
that is DISABLED or closing, and any but a HELLO for a WAITING site, changes nothing; so does a HELLO whose code no
other site has either. -/
def Obligations.ReturnFramesAreOtherwiseDiscarded : Prop :=
  ∀ (p : PortId) (f : ReturnFrame) (s : State) (c : Instr) (kind : Byte) (len : Nat),
    ((kind, len, c) = (0x01, 2, .ack p f) ∨ (kind, len, c) = (0x02, 2, .miss p f) ∨
      (kind, len, c) = (0x03, 0, .pause p f) ∨ (kind, len, c) = (0x04, 0, .resumeFrame p f) ∨
      (kind, len, c) = (0x05, 1, .hello p f) ∨ (kind, len, c) = (0x06, 4, .remake p f)) →
    ((f.kind ≠ kind ∨ f.length.toNat ≠ len ∨ f.fields.length ≠ len ∨
        f.crc ≠ crc32 (f.kind :: f.length :: (halfBytes f.code ++ f.fields))) → exec c s = .next s) ∧
    (∀ i : SiteId, s.dev.Names p f.code i →
      ((s.dev.site i).win.link = .disabled ∨ (s.dev.site i).win.closing = true → exec c s = .next s) ∧
      ((s.dev.site i).win.link = .waiting → kind ≠ 0x05 → exec c s = .next s)) ∧
    ((∀ i : SiteId, (s.dev.site i).cfg.port = p → (s.dev.site i).cfg.code ≠ f.code) → kind ≠ 0x05 →
      exec c s = .next s) ∧
    ((∀ i : SiteId, (s.dev.site i).cfg.code ≠ f.code) → exec c s = .next s)

/-! ## Page versions, editions and areas -/

/-- R196: a command that is refused changes nothing in the part, whatever the command. A site or area above 7, a port,
stock or separation above 3, an undefined flow mode or solid hold and a halt mask with bit 7 are refused with RANGE,
and a version that is not present with NO_PAGE. That ARM CURVES refuses a stock above 3 with the cancel flag set too
is the model's reading (log 21). -/
def Obligations.RefusedCommandChangesNothing : Prop :=
  ∀ (d : Device) (c : Command) (b x y : Byte) (h : Half) (w : Word) (knots : Vector Half 17) (key : KeyField)
    (ap : ApproveArgs) (da : DefineAreaArgs) (ss : SetSiteArgs) (sg : SetGroupTargetArgs) (st : SetSiteTargetArgs),
    ((applyCommand c d).2.result ≠ .ok → (applyCommand c d).1 = d) ∧
    (8 ≤ b.toNat →
      ∀ k ∈ [Command.sendPage key b, .defineArea { da with area := b }, .setSite { ss with site := b }, .enableSite b,
        .disableSite b, .resumeSite b, .setAllotment b w, .loadCurve b x knots, .armCurves b x y,
        .setSiteTarget { st with site := b }, .querySite b, .queryArea b, .readCurve b],
        (applyCommand k d).2.result = .range) ∧
    (4 ≤ b.toNat →
      ∀ k ∈ [Command.setPort b h, .loadCurve x b knots, .armCurves x b y, .setGroupTarget { sg with stock := b },
        .setSiteTarget { st with stock := b }, .setSite { ss with flow := b }], (applyCommand k d).2.result = .range) ∧
    (4 ≤ ss.port.toNat ∨ ss.haltMask.getLsbD 7 = true ∨ 2 ≤ ss.solidHold.toNat →
      (applyCommand (.setSite ss) d).2.result = .range) ∧
    (d.lookup (keyOf key) (versionOf key) = none →
      (applyCommand (.withdraw key x) d).2.result = .noPage ∧ (applyCommand (.purge key) d).2.result = .noPage ∧
        (keyInRange key = true → b.toNat < 8 → (applyCommand (.sendPage key b) d).2.result = .noPage)) ∧
    (d.lookup (keyOf ap.key) (versionOf ap.key) = none → 1 ≤ ap.station.toNat → ap.station.toNat ≤ 63 →
      (applyCommand (.approve ap) d).2.result = .noPage)

/-- QUERY PAGE, QUERY SITE, QUERY AREA, QUERY DEVICE and READ CURVE (R26, R27, R35, R83, R99, R105, R114, R136, R158,
R175, R178, R190, R202): each answers with its report of the part as it stands, changes nothing but the reply queue,
and refuses a site, area or key out of range and a version that is not present. The reports hold, item by item, what
those rules name, in the widths of R208, each list whose length varies (the separations of a set among them) behind
its one-byte count; the order of the items of QUERY SITE and the present bytes are the model's choice (log 17), and so
is the count of a gap timer that is suspended (log 33); that a key and its version take the four bytes of R203, with
no byte for the version beside them, is its reading (log 35). The free, recorded and held cells of an enabled area add
up to its length, and a key's versions are listed in ascending order. -/
def Obligations.QueriesReportAndChangeNothing : Prop :=
  (∀ f : Feed, f.hold = true ↔ 12 ≤ f.cmds.length ∨ ∀ b : Fin 4, entryOf f.buffers b ≠ .free) ∧
  (∀ (l : List Bool), (flagBytes l).length = 8 ∧
    ∀ b : Nat, b < 64 → ((flagBytes l)[b / 8]?.getD 0).getLsbD (b % 8) = (l[b]?).getD false) ∧
  (∀ (d : Device) (v : PageVersion), pageReport d v =
    keyBytes v.key v.version ++ [v.cls.code, v.state.code] ++ halfN v.width ++ halfN v.height ++
      [v.seps.setWidth 8, byteN ((v.height + 127) / 128), byteN v.area.val] ++ wordBytes v.digest ++
      withPresentByte (v.releaseAt.map wordN) ++ withPresentByte (v.latest.map wordN) ++
      withPresentByte (v.approval.map fun a => byteN a.station :: (wordBytes a.expected ++
        withPresentByte (a.approvedAt.map wordN) ++ [flagByte a.checked])) ++
      (byteN (allFour.filter fun k => v.seps.getLsbD k.val).length ::
        (allFour.filter fun k => v.seps.getLsbD k.val).flatMap fun k =>
          flagBytes ((entryOf v.bands k).map fun e => e.isSome) ++
            flagBytes ((entryOf v.bands k).map fun e => e.any fun x => x.fault)) ++
      (allSites.flatMap fun i => [(v.at i).state.code, flagByte (v.at i).late, causeCode (v.at i).cause]) ++
      [flagByte (d.reclaimable v)] ++ withPresentByte (v.retained.map wordBytes)) ∧
  (∀ (d : Device) (key : PageKey) (l : List PageVersion), (d.table.map PageVersion.uid).Nodup →
    l.Pairwise (fun v x => v.version < x.version) → (∀ v : PageVersion, v ∈ l ↔ v ∈ d.table ∧ v.key = key) →
    versionList d key = byteN l.length :: l.flatMap fun v =>
      [byteN v.version, v.state.code, flagByte (d.reclaimable v)]) ∧
  (∀ (d : Device) (n : Fin 8) (a : Area), a = entryOf d.base.areas n →
    ∃ free recorded held versions : Nat,
      areaReport d n = flagByte a.enabled :: (halfN a.base ++ halfN a.length ++ [a.mtch ++ a.mask] ++
        halfN free ++ halfN recorded ++ halfN held ++ halfN versions) ∧
      (a.enabled = false → free = 0 ∧ recorded = 0 ∧ held = 0 ∧ versions = 0) ∧
      (a.enabled = true → free = ((List.range a.length).filter fun k =>
          decide (a.base + k ∉ d.recordedCells ∧ a.base + k ∉ d.heldCells)).length ∧
        recorded = (d.recordedCells.filter fun c =>
          decide (a.base ≤ c ∧ c < a.base + a.length)).length ∧
        held = (d.heldCells.filter fun c => decide (a.base ≤ c ∧ c < a.base + a.length)).length ∧
        versions = (d.table.filter fun v => decide (v.area = n)).length ∧
        (d.CellLaw → free + recorded + held = a.length))) ∧
  (∀ w : Tone, curveReport w =
    (allFour.flatMap fun k => (entryOf w.active.curves k).toList.flatMap halfN) ++
      (allFour.flatMap fun k => (entryOf w.pending.curves k).toList.flatMap halfN) ++
      [byteN w.active.stock.val, byteN w.pending.stock.val] ++
      withPresentByte (w.arm.map fun a => [byteN a.stock.val, flagByte a.gated])) ∧
  (∀ d : Device, deviceReport d =
    wordN d.base.clock.count ++ [flagByte d.base.clock.unset] ++
      (d.base.plans.toList.flatMap fun p => (allSites.map fun i => (entryOf p.entries i).elim 0xFF byteN) ++
        [flagByte p.held]) ++
      wordBytes d.orderCounter ++
      (d.builder.inFlight.elim [1] fun p => [0, byteN p.site.val, p.job.kind.code]) ++
      (allFour.flatMap fun k => flagByte (entryOf d.base.groups k).set ::
        ((entryOf d.base.groups k).aims.density.toList.flatMap halfN ++
          (entryOf d.base.groups k).aims.tvi.toList.flatMap halfN)) ++
      (allFour.flatMap fun p => halfN (d.port p).active ++ withPresentByte ((d.port p).staged.map halfN) ++
        halfN (d.port p).remaining ++ [byteN (d.port p).last.val] ++
        withPresentByte ((d.port p).tx.map fun x => [byteN x.site.val]) ++
        [siteFlags (allSites.filter fun i => decide ((d.site i).cfg.port = p))]) ++
      [flagByte d.base.quiesced] ++ halfN d.feed.cmds.length ++ halfN d.feed.replies.length ++
      halfN d.feed.events.length ++ [flagByte d.feed.overflow] ++ halfN d.feed.overrun ++
      halfN (d.feed.buffers.toList.filter fun b => decide (b ≠ .free)).length ++
      [flagByte d.feed.hold]) ∧
  (∀ (d : Device) (i : SiteId) (st : Site), st = d.site i → siteReport d i =
    -- R136
    halfN st.q.queue.length ++
      counted (fun e : QueueEntry =>
        keyBytes e.ref.key e.ref.version ++ [e.cls.code, e.seps.setWidth 8] ++ wordBytes e.order) (st.q.queue.take 8) ++
      withPresentByte (st.q.current.map fun c => keyBytes c.ref.key c.ref.version ++ [c.cls.code, c.seps.setWidth 8] ++
        (c.cursor.elim [0xFF, 0xFF] fun x => [byteN x.1.val, byteN x.2]) ++ wordBytes c.sent ++
        [flagByte c.pageEnd]) ++
      counted (fun e : ControlEntry => [e.kind.code]) st.q.control ++
    -- R158
      ([st.win.link.code, flagByte st.win.closing] ++ halfBytes st.win.nextSeq ++ [byteN st.win.retry] ++
        withPresentByte (st.win.ackTimer.count.map halfN) ++ withPresentByte (st.win.probeTimer.map halfN) ++
        halfBytes st.cfg.code ++ [byteN st.cfg.ackTimeout, byteN st.cfg.retryLimit] ++
        counted (fun r : Rank => halfBytes r.seq ++ [r.block.kind.code, flagByte r.pending] ++
          withPresentByte (r.block.slot.map fun k => [byteN k.val]) ++ halfN r.block.size) st.win.ranks ++
        withPresentByte (st.win.prepared.map fun b => [b.kind.code, byteN (b.slot.elim 0 fun k => k.val)])) ++
    -- R178, R175
      (byteN st.cfg.port.val :: (wordN st.pace.active ++ withPresentByte (st.pace.staged.map wordN) ++
        wordN st.pace.eCur ++ wordBytes (BitVec.ofInt 32 st.pace.credit) ++ [byteN st.pace.level, byteN st.pace.refCount] ++
        halfN st.pace.resendCount ++ [byteN st.cfg.highMark, byteN st.cfg.lowMark, st.cfg.flow.code] ++
        halfN st.cfg.gapLength ++ withPresentByte (st.pace.gap.map halfN) ++
        [flagByte (decide ((st.cfg.flow = .obey ∨ st.cfg.flow = .gapObey) ∧ st.pace.ready = true ∨
          (st.cfg.flow = .ignore ∨ st.cfg.flow = .gap) ∧ st.pace.gap = none))])) ++
    -- R190
      ([st.cfg.haltMask.setWidth 8, st.win.link.code] ++ (st.halt.elim [] fun h =>
        byteN h.details.condition.bit ::
          (h.details.bytes ++ withPresentByte (h.clock.map wordN) ++ [h.resume.code]))) ++
    -- R99
      (withPresentByte (st.win.prepared.map fun b => [b.kind.code]) ++
        [flagByte (d.builder.inFlight.any fun p => decide (p.site = i))] ++ halfN st.tone.clampCount ++
        st.cfg.gains.toList.flatMap halfN ++ halfN st.cfg.minDot ++ halfN st.cfg.maxDot ++
        [flagByte st.cfg.solidHold]) ++
    -- R105, R102
      (allFour.flatMap fun k =>
        withPresentByte ((st.target k).aims.map fun x =>
            x.density.toList.flatMap halfN ++ x.tvi.toList.flatMap halfN) ++
          [(st.target k).latestGen, (st.target k).ackedGen, flagByte (st.target k).owed] ++
          (entryOf st.tgt.offsets k).density.toList.flatMap signedHalf ++
          (entryOf st.tgt.offsets k).tvi.toList.flatMap signedHalf ++
          halfN (entryOf st.tgt.offsets k).low ++ halfN (entryOf st.tgt.offsets k).high) ++
    -- R114
      ((match st.tgt.gate with
        | .idle => [0]
        | .wait n => 1 :: halfN n
        | .bypass => [2]) ++ halfN st.cfg.gateTimeout)) ∧
  ∀ (s : State) (tag b : Byte) (key : KeyField) (i : Fin 8) (v : PageVersion), s.dev.feed.Ready →
    exec (.queryDevice tag) s = .next { s with dev :=
      (s.dev.reply { tag := tag, code := 0x4B, answer := { result := .ok, data := deviceReport s.dev } }) } ∧
    (b.toNat = i.val →
      exec (.querySite tag b) s = .next { s with dev :=
        (s.dev.reply { tag := tag, code := 0x49, answer := { result := .ok, data := siteReport s.dev i } }) } ∧
      exec (.queryArea tag b) s = .next { s with dev :=
        (s.dev.reply { tag := tag, code := 0x4A, answer := { result := .ok, data := areaReport s.dev i } }) } ∧
      exec (.readCurve tag b) s = .next { s with dev :=
        (s.dev.reply { tag := tag, code := 0x4C, answer :=
          { result := .ok, data := curveReport (s.dev.site i).tone } }) }) ∧
    (8 ≤ b.toNat →
      exec (.querySite tag b) s = .next { s with dev :=
        (s.dev.reply { tag := tag, code := 0x49, answer := { result := .range } }) } ∧
      exec (.queryArea tag b) s = .next { s with dev :=
        (s.dev.reply { tag := tag, code := 0x4A, answer := { result := .range } }) } ∧
      exec (.readCurve tag b) s = .next { s with dev :=
        (s.dev.reply { tag := tag, code := 0x4C, answer := { result := .range } }) }) ∧
    (keyInRange key = true → versionOf key = 0 →
      exec (.queryPage tag key) s = .next { s with dev :=
        (s.dev.reply { tag := tag, code := 0x48, answer :=
          { result := .ok, data := versionList s.dev (keyOf key) } }) }) ∧
    (keyInRange key = true → versionOf key ≠ 0 → s.dev.lookup (keyOf key) (versionOf key) = some v →
      exec (.queryPage tag key) s = .next { s with dev :=
        (s.dev.reply { tag := tag, code := 0x48, answer := { result := .ok, data := pageReport s.dev v } }) }) ∧
    (keyInRange key = true → versionOf key ≠ 0 → s.dev.lookup (keyOf key) (versionOf key) = none →
      exec (.queryPage tag key) s = .next { s with dev :=
        (s.dev.reply { tag := tag, code := 0x48, answer := { result := .noPage } }) }) ∧
    (keyInRange key = false →
      exec (.queryPage tag key) s = .next { s with dev :=
        (s.dev.reply { tag := tag, code := 0x48, answer := { result := .range } }) })

/-- OPEN PAGE (R2 to R8): with every check passed it creates a FILLING record with every entry absent, digest 0 and
every delivery record NONE, in a full table after the reclaim of the oldest reclaimable version; a version not above
every present one of its key is refused with the highest; no area, and no reclaimable version in a full table, refuse
it too; and one out of the ranges of R4 is refused with RANGE. The area (R32) is the lowest of the areas 0 to 6 that
is enabled and matches the edition under its mask, or else area 7 where it is enabled; a version is reclaimable (R23)
that is retained, in DELIVERED, SUPERSEDED or WITHDRAWN, and neither queued, current nor in preparation; and the
oldest one (R24) is the first in the retained list. -/
def Obligations.OpenPageCreatesAFillingVersion : Prop :=
  (∀ a : OpenPageArgs, openInRange a = true ↔
    a.key.sect.toNat ≤ 7 ∧ 1 ≤ a.key.page.toNat ∧ a.key.page.toNat ≤ 96 ∧ a.key.zone.toNat ≤ 7 ∧
    versionOf a.key ≠ 0 ∧ 1 ≤ a.width.toNat ∧ a.width.toNat ≤ 8192 ∧ 1 ≤ a.height.toNat ∧ a.height.toNat ≤ 8192 ∧
    (a.flags.getLsbD 0 = true → a.releaseAt.toNat < 864000) ∧ (a.flags.getLsbD 1 = true → a.latest.toNat < 864000)) ∧
  (∀ (d : Device) (key : PageKey) (x : PageVersion), x ∈ d.table → x.key = key →
    (∀ y ∈ d.table, y.key = key → y = x ∨ y.version < x.version) → d.highestPresent key = some x) ∧
  (∀ (d : Device) (e : BitVec 4) (fits : Fin 8 → Prop),
    (∀ n : Fin 8, fits n ↔ n.val < 7 ∧ (entryOf d.base.areas n).enabled = true ∧
      e &&& (entryOf d.base.areas n).mask = (entryOf d.base.areas n).mtch &&& (entryOf d.base.areas n).mask) →
    (∀ n : Fin 8, fits n → (∀ m : Fin 8, m < n → ¬fits m) → d.resolveArea e = some n) ∧
    ((∀ n : Fin 8, ¬fits n) →
      d.resolveArea e = if (entryOf d.base.areas 7).enabled = true then some 7 else none)) ∧
  (∀ (d : Device) (v : PageVersion), d.reclaimable v = true ↔ v.uid ∈ d.retained ∧
    (v.state = .delivered ∨ v.state = .superseded ∨ v.state = .withdrawn) ∧
    (∀ i : SiteId, (∀ e ∈ (d.site i).q.queue, e.ref.uid ≠ v.uid) ∧
      ∀ c : Delivery, (d.site i).q.current = some c → c.ref.uid ≠ v.uid) ∧
    ∀ p : Preparation, d.builder.inFlight = some p → (∀ j : PlateJob, p.job = .plate j → j.ref.uid ≠ v.uid) ∧
      ∀ (id : Nat) (ref : PageRef) (ident : Ident) (payload : List Byte), p.job = .pageEnd id ref ident payload →
        ref.uid ≠ v.uid) ∧
  (∀ d : Device,
    (∀ (pre post : List Nat) (y : PageVersion), d.retained = pre ++ y.uid :: post → d.record y.uid = some y →
      d.reclaimable y = true → (∀ u ∈ pre, ∀ z : PageVersion, d.record u = some z → d.reclaimable z = false) →
      d.candidate (fun _ => true) = some y) ∧
    ((∀ u ∈ d.retained, ∀ z : PageVersion, d.record u = some z → d.reclaimable z = false) →
      d.candidate (fun _ => true) = none)) ∧
  ∀ (s : State) (tag : Byte) (a : OpenPageArgs) (n : Fin 8) (x : PageVersion), s.dev.feed.Ready →
    (openInRange a = false ∨ a.seps.toNat = 0 ∨ 16 ≤ a.seps.toNat →
      exec (.openPage tag a) s = .next { s with dev :=
        (s.dev.reply { tag := tag, code := 0x01, answer := { result := .range } }) }) ∧
    (openInRange a = true → a.seps.toNat ≠ 0 → a.seps.toNat < 16 →
      (s.dev.highestPresent (keyOf a.key) = some x → versionOf a.key ≤ x.version →
        exec (.openPage tag a) s = .next { s with dev :=
          (s.dev.reply { tag := tag, code := 0x01, answer :=
            { result := .staleVersion, data := [byteN x.version] } }) }) ∧
      ((∀ v ∈ s.dev.table, v.key = keyOf a.key → v.version < versionOf a.key) →
        (s.dev.resolveArea a.key.edition = none →
          exec (.openPage tag a) s = .next { s with dev :=
            (s.dev.reply { tag := tag, code := 0x01, answer := { result := .noArea } }) }) ∧
        (s.dev.resolveArea a.key.edition = some n → 256 ≤ s.dev.table.length →
          s.dev.candidate (fun _ => true) = none →
          exec (.openPage tag a) s = .next { s with dev :=
            (s.dev.reply { tag := tag, code := 0x01, answer := { result := .tableFull } }) }) ∧
        (s.dev.resolveArea a.key.edition = some n → s.dev.table.length < 256 →
          exec (.openPage tag a) s = .next { s with dev :=
            (({ s.dev with serial := s.dev.serial + 1, table := s.dev.table ++ [
              { uid := s.dev.serial, key := keyOf a.key, version := versionOf a.key, width := a.width.toNat,
                height := a.height.toNat, seps := a.seps.setWidth 4,
                bands := Vector.ofFn fun k : Fin 4 => if a.seps.getLsbD k.val = true
                  then List.replicate ((a.height.toNat + 127) / 128) none else [],
                area := n, digest := 0,
                releaseAt := if a.flags.getLsbD 0 = true then some a.releaseAt.toNat else none,
                latest := if a.flags.getLsbD 1 = true then some a.latest.toNat else none,
                approval := none, state := .filling,
                records := Vector.replicate 8 { state := .none, late := false, cause := none },
                retained := none }] } : Device).reply
              { tag := tag, code := 0x01, answer :=
                { result := .ok, data := [byteN n.val, byteN ((a.height.toNat + 127) / 128)] } }) }) ∧
        ∀ (y : PageVersion) (e : Device), s.dev.resolveArea a.key.edition = some n → 256 ≤ s.dev.table.length →
          s.dev.candidate (fun _ => true) = some y →
          e = ({ s.dev with
              table := s.dev.table.filter fun z => decide (z.uid ≠ y.uid)
              retained := s.dev.retained.filter fun u => decide (u ≠ y.uid) } : Device).event
            (.versionReclaimed y.key y.version y.state y.area y.entries.length .table) →
          exec (.openPage tag a) s = .next { s with dev :=
            (({ e with serial := e.serial + 1, table := e.table ++ [newVersion e.serial a (a.seps.setWidth 4) n] } :
              Device).reply
              { tag := tag, code := 0x01, answer :=
                { result := .ok, flags := { reclaimed := true },
                  data := [byteN n.val, byteN ((a.height.toNat + 127) / 128)] } }) }))

/-- APPROVE (R11 to R13): recorded against a FILLING version with the pending flag and the night clock's count, or no
time while the clock is unset; checked at once against a HELD version, which goes to APPROVED on a match and is then
evaluated for release, and is refused with its digest otherwise; refused with STATE in any other state, and with RANGE
for a station that is not 1 to 63. -/
def Obligations.ApproveRecordsOrChecks : Prop :=
  ∀ (s : State) (tag : Byte) (a : ApproveArgs) (v : PageVersion) (time : Option Nat), s.dev.feed.Ready →
    time = (if s.dev.base.clock.unset = true then none else some s.dev.base.clock.count) →
    (a.station.toNat = 0 ∨ 63 < a.station.toNat →
      exec (.approve tag a) s = .next { s with dev :=
        (s.dev.reply { tag := tag, code := 0x02, answer := { result := .range } }) }) ∧
    (1 ≤ a.station.toNat → a.station.toNat ≤ 63 → s.dev.lookup (keyOf a.key) (versionOf a.key) = some v →
    (v.state = .filling →
      exec (.approve tag a) s = .next { s with dev :=
        ((s.dev.onRecord v.uid fun y => { y with
          approval := some
            { station := a.station.toNat, expected := a.expected, approvedAt := time, checked := false } }).reply
          { tag := tag, code := 0x02, answer := { result := .ok, flags := { pending := true } } }) }) ∧
    (v.state = .held → a.expected = v.digest →
      exec (.approve tag a) s = .next { s with dev :=
        ((arbitrate (evaluate (fun y => decide (y.uid = v.uid)) (s.dev.onRecord v.uid fun y =>
          { y with
            state := .approved
            approval := some
              { station := a.station.toNat, expected := a.expected, approvedAt := time, checked := true } }))).reply
          { tag := tag, code := 0x02, answer := { result := .ok } }) }) ∧
    (v.state = .held → a.expected ≠ v.digest →
      exec (.approve tag a) s = .next { s with dev :=
        (s.dev.reply { tag := tag, code := 0x02, answer := { result := .digest, data := wordBytes v.digest } }) }) ∧
    (v.state ≠ .filling → v.state ≠ .held →
      exec (.approve tag a) s = .next { s with dev :=
        (s.dev.reply { tag := tag, code := 0x02, answer := { result := .state } }) }))

/-- WITHDRAW and PURGE (R20 to R25, R69): a live version goes to WITHDRAWN and enters the retained list; its queued
and current deliveries are cancelled and counted in the reply (spelled out for a common version, with no recall, that
is not yet retained; otherwise the recall and the zone revert check follow); a version already SUPERSEDED or WITHDRAWN
is refused. The recall (R21, R128) posts a CANCEL with reason RECALLED at every site whose record is ACKED and that is
neither DISABLED nor closing, in ascending site index (log 31), and counts those whose control list has room; where it
has none CONTROL_OVERFLOW is raised (R121). Zone revert (R69, R70) applies where the withdrawn version is a zone
version and no live version of its key is left: the highest common version that is out is enqueued with class REPLATE
at each site that prints the zone, has not acknowledged it and has no delivery of the position, and ZONE_REVERTED
names the sites; with no such common version it names none. A reclaimable version leaves the page table and the
retained list with VERSION_RECLAIMED and the number of its cells; one that is not is refused with STATE. -/
def Obligations.WithdrawRetainsAndPurgeReclaims : Prop :=
  (∀ (s : State) (tag flags : Byte) (key : KeyField) (v : PageVersion), s.dev.feed.Ready →
    s.dev.lookup (keyOf key) (versionOf key) = some v → s.dev.record v.uid = some v →
    (v.state = .superseded ∨ v.state = .withdrawn →
      exec (.withdraw tag key flags) s = .next { s with dev :=
        (s.dev.reply { tag := tag, code := 0x03, answer := { result := .state } }) }) ∧
    (v.state ≠ .superseded → v.state ≠ .withdrawn → v.key.zone = 0 → flags.getLsbD 0 = false →
      v.uid ∉ s.dev.retained →
      exec (.withdraw tag key flags) s = .next { s with dev :=
        ((arbitrate (cancelAll v.uid .withdrawn
          { s.dev with
            table := s.dev.table.map fun y => if y.uid = v.uid
              then { y with state := .withdrawn, retained := some s.dev.retainedCount } else y
            retained := s.dev.retained ++ [v.uid], retainedCount := s.dev.retainedCount + 1 })).reply
          { tag := tag, code := 0x03, answer := { result := .ok, data :=
            (halfN ((allSites.filter fun i => decide ((v.at i).state = .queued ∨ (v.at i).state = .sending)).length) ++
              halfN 0) } }) }) ∧
    ∀ (d e : Device) (n : Nat), v.state ≠ .superseded → v.state ≠ .withdrawn →
      d = cancelAll v.uid .withdrawn (retain v.uid (s.dev.onRecord v.uid fun y => { y with state := .withdrawn })) →
      (e, n) = (if flags.getLsbD 0 = true then recallVersion v.uid d else (d, 0)) →
      exec (.withdraw tag key flags) s = .next { s with dev :=
        ((arbitrate (zoneRevert v e)).reply
          { tag := tag, code := 0x03, answer := { result := .ok, data :=
            (halfN ((allSites.filter fun i => decide ((v.at i).state = .queued ∨ (v.at i).state = .sending)).length) ++
              halfN n) } }) }) ∧
  (∀ (d : Device) (v : PageVersion) (sites : List SiteId), d.record v.uid = some v →
    sites = allSites.filter (fun i => decide ((v.at i).state = .acked ∧ (d.site i).win.link ≠ .disabled ∧
      (d.site i).win.closing = false)) →
    recallVersion v.uid d = (sites.foldl (fun e i => postCancel i v.key v.version .recalled e) d,
      (sites.filter fun i => decide ((d.site i).q.control.length < 16)).length)) ∧
  (∀ (d : Device) (i : SiteId) (key : PageKey) (version : Nat) (reason : CancelReason),
    ((d.site i).win.link = .disabled ∨ (d.site i).win.closing = true → postCancel i key version reason d = d) ∧
    ((d.site i).win.link ≠ .disabled → (d.site i).win.closing = false →
      ((d.site i).q.control.length < 16 → postCancel i key version reason d =
        d.onQueue i fun q => { q with control := q.control ++ [.cancel key version reason] }) ∧
      (16 ≤ (d.site i).q.control.length →
        postCancel i key version reason d = raise i (.overflowCancel key version) d))) ∧
  (∀ (d : Device) (w : PageVersion) (e : Fin 16), e.val = w.key.pos.edition →
    (w.key.zone = 0 ∨ (∃ v ∈ d.table, v.key = w.key ∧ v.state ≠ .superseded ∧ v.state ≠ .withdrawn) →
      zoneRevert w d = d) ∧
    (w.key.zone ≠ 0 → (∀ v ∈ d.table, v.key = w.key → v.state = .superseded ∨ v.state = .withdrawn) →
      ((∀ v ∈ d.table, v.key = { w.key with zone := 0 } → v.state ≠ .released ∧ v.state ≠ .delivered) →
        zoneRevert w d = d.event (.zoneReverted w.key.pos w.key.zone w.version none 0)) ∧
      ∀ (c : PageVersion) (sites : List SiteId), c ∈ d.table → c.key = { w.key with zone := 0 } →
        c.state = .released ∨ c.state = .delivered →
        (∀ x ∈ d.table, x.key = c.key → x.state = .released ∨ x.state = .delivered → x = c ∨ x.version < c.version) →
        sites = allSites.filter (fun i => decide ((d.site i).win.link ≠ .disabled ∧ (d.site i).win.closing = false ∧
          entryOf (entryOf d.base.plans e).entries i = some w.key.zone ∧ (c.at i).state ≠ .acked ∧
          (d.site i).hasPosition w.key.pos = false)) →
        zoneRevert w d =
          (sites.foldl (fun x i =>
            enqueue i { uid := c.uid, key := c.key, version := c.version } .replate c.seps x) d).event
            (.zoneReverted w.key.pos w.key.zone w.version (some c.version) (siteFlags sites)))) ∧
  (∀ (s : State) (tag : Byte) (key : KeyField) (v : PageVersion), s.dev.feed.Ready →
    s.dev.lookup (keyOf key) (versionOf key) = some v →
    (v.uid ∉ s.dev.retained ∨ v.state = .filling ∨ v.state = .held ∨ v.state = .approved ∨ v.state = .released ∨
        (∃ i : SiteId, (s.dev.site i).holds v.uid = true) ∨ s.dev.preparesVersion v.uid = true →
      exec (.purge tag key) s = .next { s with dev :=
        (s.dev.reply { tag := tag, code := 0x04, answer := { result := .state } }) }) ∧
    (v.uid ∈ s.dev.retained → v.state = .delivered ∨ v.state = .superseded ∨ v.state = .withdrawn →
      (∀ i : SiteId, (s.dev.site i).holds v.uid = false) → s.dev.preparesVersion v.uid = false →
      exec (.purge tag key) s = .next { s with dev :=
        ((({ s.dev with
            table := s.dev.table.filter fun y => decide (y.uid ≠ v.uid)
            retained := s.dev.retained.filter fun u => decide (u ≠ v.uid) } : Device).event
          (.versionReclaimed v.key v.version v.state v.area v.entries.length .purge)).reply
          { tag := tag, code := 0x04, answer := { result := .ok, data := halfN v.entries.length } }) }))

/-- SEND PAGE (R71, R72, R63, R116): a version that is out is enqueued at the site with class REPLATE behind every
REMAKE and REPLATE entry and before every FIRST, with the next release order number, its record QUEUED; it is absorbed
where the site has a delivery of the position, and refused where the site is DISABLED or closing or the version is not
out. -/
def Obligations.SendPageEnqueuesAtTheSite : Prop :=
  ∀ (s : State) (tag b : Byte) (i : SiteId) (key : KeyField) (v : PageVersion) (pre post : List QueueEntry),
    s.dev.feed.Ready → b.toNat = i.val → keyInRange key = true →
    s.dev.lookup (keyOf key) (versionOf key) = some v →
    (v.state ≠ .released → v.state ≠ .delivered →
      exec (.sendPage tag key b) s = .next { s with dev :=
        (s.dev.reply { tag := tag, code := 0x05, answer := { result := .state } }) }) ∧
    (v.state = .released ∨ v.state = .delivered →
      ((s.dev.site i).win.link = .disabled ∨ (s.dev.site i).win.closing = true →
        exec (.sendPage tag key b) s = .next { s with dev :=
          (s.dev.reply { tag := tag, code := 0x05, answer := { result := .siteState } }) }) ∧
      ((s.dev.site i).win.link ≠ .disabled → (s.dev.site i).win.closing = false →
        ((s.dev.site i).hasPosition v.key.pos = true →
          exec (.sendPage tag key b) s = .next { s with dev :=
            (s.dev.reply { tag := tag, code := 0x05, answer := { result := .ok, flags := { absorbed := true } } }) }) ∧
        ((s.dev.site i).hasPosition v.key.pos = false → (s.dev.site i).q.queue = pre ++ post →
          (∀ e ∈ pre, e.cls ≠ .first) → (∀ e ∈ post, e.cls = .first) →
          exec (.sendPage tag key b) s = .next { s with dev :=
            ((arbitrate (lookPageStart i
              (({ s.dev with orderCounter := s.dev.orderCounter + 1 }.onQueue i fun q => { q with
                queue := pre ++ ({ ref := { uid := v.uid, key := v.key, version := v.version }, cls := .replate,
                                   seps := v.seps, order := s.dev.orderCounter } : QueueEntry) :: post }).onDelivery v.uid i fun r =>
                { r with state := .queued, cause := none }))).reply
              { tag := tag, code := 0x05, answer := { result := .ok } }) })))

/-- R16, R62, R63, R65, R66, R15: a release of a version that was nowhere delivered leaves it RELEASED, or DELIVERED
when its target set is empty; every lower live version of its key is SUPERSEDED; at each target site its record is
QUEUED or already SENDING, at every other site NONE; and the release order counter moves on by the number of target
sites. The target set (R65, R66): the sites that are neither DISABLED nor closing and print the edition in the
version's zone; for a common version those that print zone 0, or a zone of which the position has no live version. The
lower versions are superseded in ascending version, each in full with its PAGE_SUPERSEDED before the next (log 28). At
each target site, in ascending site index, a delivery of another version of the position is displaced (R67), and the
version is enqueued behind the entries of its own and higher classes (R116), with any page start this allows (log 7);
then PAGE_RELEASED names the target set and the night clock count, and the delivered check follows. An evaluation
(R60, R61) releases, in ascending page key, the highest version of each key among those it asks about that are
APPROVED, whose edition is not held and whose release-at, if any, is reached; one that is no longer APPROVED when its
turn comes is passed over. -/
def Obligations.ReleaseSupersedesAndEnqueuesAtTargets : Prop :=
  (∀ (d : Device) (v : PageVersion) (e : Fin 16), e.val = v.key.pos.edition →
    (d.releasable v = true ↔ v.state = .approved ∧ (entryOf d.base.plans e).held = false ∧
      ∀ time : Nat, v.releaseAt = some time → d.base.clock.reached time = true)) ∧
  (∀ a b : PageKey, a.before b = true ↔ a.pos.edition < b.pos.edition ∨ a.pos.edition = b.pos.edition ∧
    (a.pos.sect < b.pos.sect ∨ a.pos.sect = b.pos.sect ∧
      (a.pos.page < b.pos.page ∨ a.pos.page = b.pos.page ∧ a.zone < b.zone))) ∧
  (∀ (d : Device) (test : PageVersion → Bool) (l : List PageVersion), (d.table.map PageVersion.uid).Nodup →
    l.Pairwise (fun a b => a.key.before b.key = true) →
    (∀ v : PageVersion, v ∈ l ↔ v ∈ d.table ∧ test v = true ∧ d.releasable v = true ∧
      ∀ x ∈ d.table, test x = true → d.releasable x = true → x.key = v.key → x.version ≤ v.version) →
    evaluate test d = l.foldl (fun e v => (e.record v.uid).elim e fun x =>
      if x.state = .approved then release x e else e) d) ∧
  (∀ (d : Device) (key : PageKey) (i : SiteId) (e : Fin 16), e.val = key.pos.edition →
    (d.targets key i = true ↔ (d.site i).win.link ≠ .disabled ∧ (d.site i).win.closing = false ∧
      ∃ zone : Nat, entryOf (entryOf d.base.plans e).entries i = some zone ∧ (key.zone ≠ 0 → zone = key.zone) ∧
        (key.zone = 0 → zone = 0 ∨ ∀ x ∈ d.table, x.key = { pos := key.pos, zone := zone } →
          x.state = .superseded ∨ x.state = .withdrawn))) ∧
  (∀ (d : Device) (key : PageKey) (version : Nat) (low : List PageVersion), (d.table.map PageVersion.uid).Nodup →
    low.Pairwise (fun a b => a.version < b.version) →
    (∀ x : PageVersion, x ∈ low ↔ x ∈ d.table ∧ x.key = key ∧ x.version < version ∧ x.state ≠ .superseded ∧
      x.state ≠ .withdrawn) →
    supersede key version d = low.foldl (fun e x => (cancelAll x.uid .superseded (retain x.uid (e.onRecord x.uid fun y =>
      { y with state := .superseded }))).event (.pageSuperseded x.key x.version x.state version)) d) ∧
  (∀ (d : Device) (u : Nat), (u ∈ d.retained → retain u d = d) ∧ (u ∉ d.retained → retain u d = { d with
    table := d.table.map fun x => if x.uid = u then { x with retained := some d.retainedCount } else x
    retained := d.retained ++ [u], retainedCount := d.retainedCount + 1 })) ∧
  (∀ (d : Device) (i : SiteId) (pos : Position) (u : Nat) (others : List QueueEntry),
    others = (d.site i).q.queue.filter (fun e => decide (e.ref.key.pos = pos ∧ e.ref.uid ≠ u)) →
    (∀ c : Delivery, (d.site i).q.current = some c → c.ref.key.pos = pos → c.ref.uid ≠ u → others = [] →
      displace i pos u d = cancelCurrent i c .displaced d) ∧
    ((∀ c : Delivery, (d.site i).q.current = some c → c.ref.key.pos = pos → c.ref.uid = u) →
      displace i pos u d = others.foldl (fun x e => deliveredCheck e.ref.uid ((x.onQueue i fun q => { q with
        queue := q.queue.filter fun o => decide (o.ref.uid ≠ e.ref.uid) }).onDelivery e.ref.uid i fun r =>
          { r with state := .cancelled, cause := none })) d)) ∧
  (∀ (d : Device) (i : SiteId) (ref : PageRef) (cls : DeliveryClass) (seps : SepSet) (pre post : List QueueEntry),
    (d.site i).q.queue = pre ++ post →
    (cls = .first ∧ post = [] ∨
      cls = .replate ∧ (∀ e ∈ pre, e.cls ≠ .first) ∧ (∀ e ∈ post, e.cls = .first) ∨
      cls = .remake ∧ (∀ e ∈ pre, e.cls = .remake) ∧ (∀ e ∈ post, e.cls ≠ .remake)) →
    enqueue i ref cls seps d = lookPageStart i
      (({ d with orderCounter := d.orderCounter + 1 }.onQueue i fun q => { q with
        queue := pre ++ ({ ref := ref, cls := cls, seps := seps, order := d.orderCounter } : QueueEntry) :: post
        }).onDelivery ref.uid i fun r => { r with state := .queued, cause := none })) ∧
  (∀ (d e : Device) (v : PageVersion) (targets : List SiteId) (flags : Byte),
    e = supersede v.key v.version (d.onRecord v.uid fun x => { x with state := .released }) →
    targets = allSites.filter (e.targets v.key) → (∀ i : SiteId, flags.getLsbD i.val = decide (i ∈ targets)) →
    release v d = deliveredCheck v.uid ((targets.foldl (fun x i =>
        enqueue i { uid := v.uid, key := v.key, version := v.version } (if v.version = 1 then .first else .replate)
          v.seps (displace i v.key.pos v.uid x)) e).event
      (.pageReleased v.key v.version (if v.version = 1 then .first else .replate) flags
        (if d.base.clock.unset = true then none else some d.base.clock.count)))) ∧
  ∀ (d : Device) (v : PageVersion) (targets : List SiteId), v ∈ d.table → (d.table.map PageVersion.uid).Nodup →
    v.state = .approved → v.records = Vector.replicate 8 { state := .none, late := false, cause := none } →
    targets = allSites.filter ((supersede v.key v.version
      (d.onRecord v.uid fun x => { x with state := .released })).targets v.key) →
    (release v d).orderCounter = d.orderCounter + BitVec.ofNat 32 targets.length ∧
    (∃ y : PageVersion, (release v d).record v.uid = some y ∧
      y.state = (if targets = [] then .delivered else .released) ∧
      (∀ i : SiteId, i ∈ targets → (y.at i).state = .queued ∨ (y.at i).state = .sending) ∧
      ∀ i : SiteId, i ∉ targets → (y.at i).state = .none) ∧
    ∀ x ∈ d.table, x.key = v.key → x.version < v.version → x.live = true →
      ∃ y : PageVersion, (release v d).record x.uid = some y ∧ y.state = .superseded

/-- SET PLAN, HOLD EDITION, OPEN EDITION and SET CLOCK (R53, R57 to R59): the entries or the held flag of the
edition's plan, or the night clock, are replaced and what they were is answered; OPEN EDITION then evaluates every
version of the edition and SET CLOCK every version with a release-at. An entry that is neither a zone nor not
printing, an edition above 15 and a count above 863 999 are refused. -/
def Obligations.PlansAndTheNightClockAreSet : Prop :=
  (∀ (s : State) (tag b : Byte) (e : Fin 16) (entries : Vector Byte 8), s.dev.feed.Ready →
    (b.toNat = e.val →
      ((∀ k : Fin 8, (entryOf entries k).toNat ≤ 7 ∨ entryOf entries k = 0xFF) →
        exec (.setPlan tag b entries) s = .next { s with dev :=
          (({ s.dev with base := { s.dev.base with plans := modifyAt s.dev.base.plans e fun p => { p with
              entries := entries.map fun x => if x = 0xFF then none else some x.toNat } } } : Device).reply
            { tag := tag, code := 0x10, answer := { result := .ok, data := (entryOf s.dev.base.plans e).bytes } }) }) ∧
      ((∃ k : Fin 8, 7 < (entryOf entries k).toNat ∧ entryOf entries k ≠ 0xFF) →
        exec (.setPlan tag b entries) s = .next { s with dev :=
          (s.dev.reply { tag := tag, code := 0x10, answer := { result := .range } }) }) ∧
      exec (.holdEdition tag b) s = .next { s with dev :=
        (({ s.dev with base := { s.dev.base with plans := modifyAt s.dev.base.plans e fun p =>
            { p with held := true } } } : Device).reply
          { tag := tag, code := 0x11, answer :=
            { result := .ok, data := [if (entryOf s.dev.base.plans e).held = true then 1 else 0] } }) } ∧
      exec (.openEdition tag b) s = .next { s with dev :=
        ((arbitrate (evaluate (fun v => decide (v.key.pos.edition = e.val))
          { s.dev with base := { s.dev.base with plans := modifyAt s.dev.base.plans e fun p =>
            { p with held := false } } })).reply
          { tag := tag, code := 0x12, answer :=
            { result := .ok, data := [if (entryOf s.dev.base.plans e).held = true then 1 else 0] } }) }) ∧
    (16 ≤ b.toNat →
      exec (.setPlan tag b entries) s = .next { s with dev :=
        (s.dev.reply { tag := tag, code := 0x10, answer := { result := .range } }) } ∧
      exec (.holdEdition tag b) s = .next { s with dev :=
        (s.dev.reply { tag := tag, code := 0x11, answer := { result := .range } }) } ∧
      exec (.openEdition tag b) s = .next { s with dev :=
        (s.dev.reply { tag := tag, code := 0x12, answer := { result := .range } }) })) ∧
  (∀ (s : State) (tag : Byte) (count : Word), s.dev.feed.Ready →
    (count.toNat ≤ 863999 →
      exec (.setClock tag count) s = .next { s with dev :=
        ((arbitrate (evaluate (fun v => v.releaseAt.isSome)
          { s.dev with base := { s.dev.base with clock := { count := count.toNat, unset := false } } })).reply
          { tag := tag, code := 0x13, answer := { result := .ok, data :=
            (wordBytes (BitVec.ofNat 32 s.dev.base.clock.count) ++
              [if s.dev.base.clock.unset = true then 1 else 0]) } }) }) ∧
    (863999 < count.toNat →
      exec (.setClock tag count) s = .next { s with dev :=
        (s.dev.reply { tag := tag, code := 0x13, answer := { result := .range } }) }))

/-- DEFINE AREA (R33, R34): its checks in their order, each with its refusal, and the definition replaced when they
pass, the reply carrying the size of the new free set. -/
def Obligations.DefineAreaChecksInOrder : Prop :=
  ∀ (s : State) (tag : Byte) (a : DefineAreaArgs) (n : Fin 8) (x : Area) (bad busy shared : Prop), s.dev.feed.Ready →
    a.area.toNat = n.val →
    x = { enabled := a.flags.getLsbD 0, base := a.base.toNat, length := a.length.toNat, mtch := a.mtch, mask := a.mask } →
    (bad ↔ x.enabled = true ∧ (x.length = 0 ∨ 32639 < x.base ∨ 32640 < x.base + x.length)) →
    (busy ↔ (∃ v ∈ s.dev.table, v.area = n) ∨ (entryOf s.dev.base.areas n).enabled = true ∧
      ∃ (b : Fin 4) (w : BandWrite), entryOf s.dev.feed.buffers b = .writing w ∧
        (entryOf s.dev.base.areas n).base ≤ w.cell ∧
        w.cell < (entryOf s.dev.base.areas n).base + (entryOf s.dev.base.areas n).length) →
    (shared ↔ x.enabled = true ∧ ∃ k : Fin 8, k ≠ n ∧ (entryOf s.dev.base.areas k).enabled = true ∧
      x.base < (entryOf s.dev.base.areas k).base + (entryOf s.dev.base.areas k).length ∧
      (entryOf s.dev.base.areas k).base < x.base + x.length) →
    (bad → exec (.defineArea tag a) s = .next { s with dev :=
      (s.dev.reply { tag := tag, code := 0x18, answer := { result := .range } }) }) ∧
    (¬bad → busy → exec (.defineArea tag a) s = .next { s with dev :=
      (s.dev.reply { tag := tag, code := 0x18, answer := { result := .areaBusy } }) }) ∧
    (¬bad → ¬busy → shared → exec (.defineArea tag a) s = .next { s with dev :=
      (s.dev.reply { tag := tag, code := 0x18, answer := { result := .areaOverlap } }) }) ∧
    (¬bad → ¬busy → ¬shared → exec (.defineArea tag a) s = .next { s with dev :=
      (({ s.dev with base := { s.dev.base with areas := modifyAt s.dev.base.areas n fun _ => x } } : Device).reply
        { tag := tag, code := 0x18, answer := { result := .ok, data := halfN (if x.enabled = true then x.length else 0) } }) })

/-! ## Sites, ports, curves and targets -/

/-- SET SITE (R84, R112, R138, R159, R172, R177, R181, R197): every field clamped to its range, the low mark kept below
the high mark, the reply's clamped flag set when any was; a change of flow mode sets the ready flag, and one to OBEY or
IGNORE stops the gap timer; a code that another site has refuses the whole command. -/
def Obligations.SetSiteClampsAndInstalls : Prop :=
  ∀ (s : State) (tag : Byte) (a : SetSiteArgs) (i : SiteId) (port : PortId) (flow : FlowMode) (high low : Nat)
    (cfg : Settings), s.dev.feed.Ready →
    a.site.toNat = i.val → a.port.toNat = port.val →
    (a.flow = 0 ∧ flow = .obey ∨ a.flow = 1 ∧ flow = .ignore ∨ a.flow = 2 ∧ flow = .gap ∨ a.flow = 3 ∧ flow = .gapObey) →
    a.haltMask.getLsbD 7 = false → a.solidHold = 0 ∨ a.solidHold = 1 →
    high = min (max a.highMark.toNat 1) 63 → low = min (min a.lowMark.toNat 62) (high - 1) →
    cfg = { code := a.code, port := port, flow := flow, gapLength := min a.gapLength.toNat 255,
            ackTimeout := min (max a.ackTimeout.toNat 1) 255, retryLimit := min (max a.retryLimit.toNat 1) 15,
            highMark := high, lowMark := low, gateTimeout := min (max a.gateTimeout.toNat 1) 255,
            haltMask := a.haltMask.setWidth 7, gains := a.gains.map fun g => min (max g.toNat 224) 288,
            minDot := min a.minDot.toNat 31, maxDot := min (max a.maxDot.toNat 224) 255,
            solidHold := decide (a.solidHold = 1) } →
    ((∃ k : SiteId, k ≠ i ∧ (s.dev.site k).cfg.code = a.code) →
      exec (.setSite tag a) s = .next { s with dev :=
        (s.dev.reply { tag := tag, code := 0x20, answer := { result := .range } }) }) ∧
    ((∀ k : SiteId, k ≠ i → (s.dev.site k).cfg.code ≠ a.code) →
      ∃ clamped : Bool,
        (clamped = true ↔ cfg.gapLength ≠ a.gapLength.toNat ∨ cfg.ackTimeout ≠ a.ackTimeout.toNat ∨
          cfg.retryLimit ≠ a.retryLimit.toNat ∨ high ≠ a.highMark.toNat ∨ low ≠ a.lowMark.toNat ∨
          cfg.gateTimeout ≠ a.gateTimeout.toNat ∨ (∃ k : Fin 4, entryOf cfg.gains k ≠ (entryOf a.gains k).toNat) ∨
          cfg.minDot ≠ a.minDot.toNat ∨ cfg.maxDot ≠ a.maxDot.toNat) ∧
        exec (.setSite tag a) s = .next { s with dev := ((arbitrate (lookPageStart i (syncTimers i
          (s.dev.onSite i fun st => { st with
            cfg := cfg
            pace := { st.pace with
              ready := if flow = st.cfg.flow then st.pace.ready else true
              gap := if flow ≠ st.cfg.flow ∧ (flow = .obey ∨ flow = .ignore) then none else st.pace.gap } })))).reply
          { tag := tag, code := 0x20, answer := { result := .ok, flags := { clamped := clamped } } }) })

/-- ENABLE SITE (R134, R107, R106, R157): a DISABLED site goes to WAITING with an empty window and its ready flag set,
and the site target of its active stock, and of its armed stock when that is another, is produced. Any other site is
answered OK with the changed flag clear, unchanged. -/
def Obligations.EnableSiteGoesToWaiting : Prop :=
  ∀ (s : State) (tag b : Byte) (i : SiteId), s.dev.feed.Ready → b.toNat = i.val →
    ((s.dev.site i).win.link ≠ .disabled →
      exec (.enableSite tag b) s = .next { s with dev :=
        (s.dev.reply { tag := tag, code := 0x21, answer := { result := .ok } }) }) ∧
    ∀ d : Device, (s.dev.site i).win.link = .disabled →
      d = produce i (s.dev.site i).tone.active.stock (s.dev.onSite i fun st => { st with
        win := { ranks := [], nextSeq := 0, prepared := none, ackTimer := .stopped, probeTimer := none, retry := 0,
                 link := .waiting, closing := false }
        pace := { st.pace with ready := true } }) →
      exec (.enableSite tag b) s = .next { s with dev :=
        (((s.dev.site i).tone.arm.elim d fun a =>
          if a.stock = (s.dev.site i).tone.active.stock then d else produce i a.stock d).reply
          { tag := tag, code := 0x21, answer := { result := .ok, flags := { changed := true } } }) }

/-- DISABLE SITE (R105, R114, R133, R156, R174, R177, R189): the site's queue, current delivery and control list are
emptied, with its owed postings, gate, gap timer and gauge, and the reply counts the deliveries; with no transmission
of it in progress its window is empty, its credit 0, its halt record empty and its link DISABLED, else it is closing,
with its link state, its ranks (those of the current delivery VOID), its credit and its halt record kept until the
transmission ends (log 18). The record of every queued and of the current delivery becomes CANCELLED, the queued ones in
queue order and the current one last, each with its delivered check, and no CANCEL is posted (R126, R127). No other site
changes. That the OK at a site DISABLED or closing already carries the two-byte count 0 is the model's choice (log 32). -/
def Obligations.DisableSiteEmptiesTheSite : Prop :=
  ∀ (s : State) (tag b : Byte) (i : SiteId), s.dev.feed.Ready → b.toNat = i.val →
    ((s.dev.site i).win.link = .disabled ∨ (s.dev.site i).win.closing = true →
      exec (.disableSite tag b) s = .next { s with dev :=
        (s.dev.reply { tag := tag, code := 0x22, answer := { result := .ok, data := halfN 0 } }) }) ∧
    ((s.dev.site i).win.link ≠ .disabled → (s.dev.site i).win.closing = false →
      ∃ d : Device,
        exec (.disableSite tag b) s = .next { s with dev := ((arbitrate d).reply
          { tag := tag, code := 0x22, answer := { result := .ok, data :=
            (halfN ((s.dev.site i).q.queue.length + if (s.dev.site i).q.current = none then 0 else 1)) } }) } ∧
        (d.site i).q = { queue := [], current := none, control := [] } ∧
        (d.site i).tgt.gate = .idle ∧ (d.site i).tgt.offsets = (s.dev.site i).tgt.offsets ∧
        (∀ k : Stock, (d.site i).target k = { (s.dev.site i).target k with owed := false }) ∧
        (d.site i).cfg = (s.dev.site i).cfg ∧ (d.site i).tone = (s.dev.site i).tone ∧
        (d.site i).pace = { (s.dev.site i).pace with
          gap := none, level := 0, refCount := 0, resendCount := 0
          credit := if s.dev.transmitting i = true then (s.dev.site i).pace.credit else 0 } ∧
        (s.dev.transmitting i = false →
          (d.site i).win = { ranks := [], nextSeq := 0, prepared := none, ackTimer := .stopped, probeTimer := none,
                             retry := 0, link := .disabled, closing := false } ∧
          (d.site i).halt = none) ∧
        (s.dev.transmitting i = true → (d.site i).win.closing = true ∧ (d.site i).win.prepared = none ∧
          (d.site i).win.ackTimer = .stopped ∧ (d.site i).win.probeTimer = none) ∧
        (∀ p ∈ d.builder.inFlight, p.site = i → p.discard = true) ∧ (∀ j : SiteId, j ≠ i → d.site j = s.dev.site j) ∧
        (∀ (ref : PageRef) (v : PageVersion),
          (∃ e ∈ (s.dev.site i).q.queue, e.ref = ref) ∨ (∃ c : Delivery, (s.dev.site i).q.current = some c ∧ c.ref = ref) →
          s.dev.record ref.uid = some v → ∃ x : PageVersion, d.record ref.uid = some x ∧
            (x.at i).state = .cancelled ∧ (x.at i).cause = none ∧ ∀ j : SiteId, j ≠ i → x.at j = v.at j) ∧
        ∀ x y : Device,
          x = (s.dev.site i).q.queue.foldl (fun z e => deliveredCheck e.ref.uid ((z.onQueue i fun q => { q with
            queue := q.queue.filter fun o => decide (o.ref.uid ≠ e.ref.uid) }).onDelivery e.ref.uid i fun r =>
              { r with state := .cancelled, cause := none })) s.dev →
          ((s.dev.site i).q.current = none ∧ y = x ∨
            ∃ c : Delivery, (s.dev.site i).q.current = some c ∧ y = cancelCurrent i c .disable x) →
          d.table = y.table ∧ d.retained = y.retained ∧ d.retainedCount = y.retainedCount ∧ d.feed = y.feed ∧
          d.base = s.dev.base ∧ d.store = s.dev.store ∧ d.ports = s.dev.ports ∧
          (s.dev.transmitting i = true → (d.site i).win.ranks = (y.site i).win.ranks ∧
            (d.site i).win.nextSeq = (s.dev.site i).win.nextSeq ∧ (d.site i).win.retry = (s.dev.site i).win.retry ∧
            (d.site i).win.link = (s.dev.site i).win.link ∧ (d.site i).halt = (s.dev.site i).halt))

/-- RESUME SITE (R187, R114, R174): a HALTED site goes to its resume state with its halt record emptied, its retry count
0, its gate IDLE and a running gap timer full again (stopped where the gap length is 0, log 20), and the reply carries
the record; any other site is answered OK with the changed flag clear, unchanged. -/
def Obligations.ResumeSiteLeavesTheHalt : Prop :=
  ∀ (s : State) (tag b : Byte) (i : SiteId) (h : HaltRecord), s.dev.feed.Ready → b.toNat = i.val →
    ((s.dev.site i).win.link ≠ .halted ∨ (s.dev.site i).win.closing = true →
      exec (.resumeSite tag b) s = .next { s with dev :=
        (s.dev.reply { tag := tag, code := 0x23, answer := { result := .ok } }) }) ∧
    ((s.dev.site i).win.link = .halted → (s.dev.site i).win.closing = false → (s.dev.site i).halt = some h →
      exec (.resumeSite tag b) s = .next { s with dev := ((arbitrate (lookPageStart i (syncTimers i
        (s.dev.onSite i fun st => { st with
          win := { st.win with link := h.resume, retry := 0 }
          halt := none
          tgt := { st.tgt with gate := .idle }
          pace := { st.pace with
            gap := st.pace.gap.bind fun _ => if st.cfg.gapLength = 0 then none else some st.cfg.gapLength } })))).reply
        { tag := tag, code := 0x23, answer := { result := .ok, flags := { changed := true }, data := h.bytes } }) })

/-- SET ALLOTMENT and SET PORT (R163, R162): the value is clamped and staged, the active value stays and is answered. -/
def Obligations.AllotmentsAndPeriodsAreStaged : Prop :=
  ∀ (s : State) (tag b : Byte) (i : SiteId) (p : PortId) (allotment : Word) (period : Half), s.dev.feed.Ready →
    (b.toNat = i.val →
      exec (.setAllotment tag b allotment) s = .next { s with dev :=
        ((s.dev.onPace i fun x => { x with staged := some (min allotment.toNat 1048575) }).reply
          { tag := tag, code := 0x24, answer :=
            { result := .ok, flags := { clamped := decide (1048575 < allotment.toNat) },
              data := wordBytes (BitVec.ofNat 32 (s.dev.site i).pace.active) } }) }) ∧
    (8 ≤ b.toNat →
      exec (.setAllotment tag b allotment) s = .next { s with dev :=
        (s.dev.reply { tag := tag, code := 0x24, answer := { result := .range } }) }) ∧
    (b.toNat = p.val →
      exec (.setPort tag b period) s = .next { s with dev :=
        ((s.dev.onPort p fun x => { x with staged := some (min (max period.toNat 1) 1000) }).reply
          { tag := tag, code := 0x28, answer :=
            { result := .ok, flags := { clamped := decide (period.toNat = 0 ∨ 1000 < period.toNat) },
              data := halfN (s.dev.port p).active ++ halfN (s.dev.port p).remaining } }) }) ∧
    (4 ≤ b.toNat →
      exec (.setPort tag b period) s = .next { s with dev :=
        (s.dev.reply { tag := tag, code := 0x28, answer := { result := .range } }) })

/-- LOAD CURVE (R76, R77): the clamped knots replace a curve of the pending set when none is less than the one before
it; otherwise the load is refused with the index of the first that is, and nothing changes. A site above 7 or a
separation above 3 is refused with RANGE. -/
def Obligations.LoadCurveTakesOnlyValidCurves : Prop :=
  ∀ (s : State) (tag b c : Byte) (i : SiteId) (k : Sep) (knots : Vector Half 17) (curve : Curve), s.dev.feed.Ready →
    b.toNat = i.val → c.toNat = k.val → curve = knots.map (fun x => min x.toNat 4080) →
    ((∀ j : Fin 16, curve[j.val] ≤ curve[j.val + 1]) →
      exec (.loadCurve tag b c knots) s = .next { s with dev :=
        ((s.dev.onTone i fun t => { t with pending := { t.pending with
          curves := modifyAt t.pending.curves k fun _ => curve } }).reply
          { tag := tag, code := 0x30, answer :=
            { result := .ok, flags := { clamped := decide (∃ j : Fin 17, 4080 < (knots[j.val]).toNat) } } }) }) ∧
    (∀ j : Fin 16, curve[j.val + 1] < curve[j.val] → (∀ l : Fin 16, l < j → curve[l.val] ≤ curve[l.val + 1]) →
      exec (.loadCurve tag b c knots) s = .next { s with dev :=
        (s.dev.reply { tag := tag, code := 0x30, answer := { result := .curveOrder, data := halfN (j.val + 1) } }) }) ∧
    ∀ x y : Byte, 8 ≤ x.toNat ∨ 4 ≤ y.toNat →
      exec (.loadCurve tag x y knots) s = .next { s with dev :=
        (s.dev.reply { tag := tag, code := 0x30, answer := { result := .range } }) }

/-- ARM CURVES (R79, R80, R107, R112): a cancel makes the pending set a copy of the active one and the site not armed;
an arm replaces stock and gated flag, its gate going to IDLE, and is refused with NO_TARGET when it is gated and the
stock's group target is not set; a stock other than the active one is produced for. The reply carries the arm state as
it was, and the site then looks for a page start. -/
def Obligations.ArmCurvesArmsOrCancels : Prop :=
  ∀ (s : State) (tag b c flags : Byte) (i : SiteId) (k : Stock) (before : List Byte) (d : Device), s.dev.feed.Ready →
    b.toNat = i.val → c.toNat = k.val →
    before = ((s.dev.site i).tone.arm.elim [0] fun a => [1, byteN a.stock.val, if a.gated = true then 1 else 0]) →
    d = (s.dev.onSite i fun st => { st with
      tone := { st.tone with pending := { st.tone.pending with stock := k },
                             arm := some { stock := k, gated := flags.getLsbD 0 } }
      tgt := { st.tgt with gate := .idle } }) →
    (flags.getLsbD 1 = true →
      exec (.armCurves tag b c flags) s = .next { s with dev := ((arbitrate (lookPageStart i
        (s.dev.onSite i fun st => { st with
          tone := { st.tone with pending := st.tone.active, arm := none }
          tgt := { st.tgt with gate := .idle } }))).reply
        { tag := tag, code := 0x31, answer := { result := .ok, data := before } }) }) ∧
    (flags.getLsbD 1 = false → flags.getLsbD 0 = true → (entryOf s.dev.base.groups k).set = false →
      exec (.armCurves tag b c flags) s = .next { s with dev :=
        (s.dev.reply { tag := tag, code := 0x31, answer := { result := .noTarget } }) }) ∧
    (flags.getLsbD 1 = false → flags.getLsbD 0 = false ∨ (entryOf s.dev.base.groups k).set = true →
      exec (.armCurves tag b c flags) s = .next { s with dev := ((arbitrate (lookPageStart i
        (if (s.dev.site i).tone.active.stock = k then d else produce i k d))).reply
        { tag := tag, code := 0x31, answer := { result := .ok, data := before } }) })

/-- R104 to R106: a production at a site that is not DISABLED or closing, for a stock whose group target is set, makes
the site target of the offsets and limits, takes the next generation, and posts a TARGET entry: in place of one of that
stock, at the tail of a list with room, or as owed. Otherwise it changes nothing. -/
def Obligations.ProductionMakesAndPostsTheSiteTarget : Prop :=
  ∀ (i : SiteId) (k : Stock) (d : Device) (aims : Aims) (gen : Byte) (o : SiteOffsets) (g : Aims),
    o = entryOf (d.site i).tgt.offsets k → g = (entryOf d.base.groups k).aims →
    (∀ s : Sep, entryOf aims.density s =
      (min (max (((entryOf g.density s : Nat) : Int) + entryOf o.density s) (o.low : Int)) (o.high : Int)).toNat) →
    (∀ j : Fin 8, entryOf aims.tvi j = (min (max (((entryOf g.tvi j : Nat) : Int) + entryOf o.tvi j) 0) 50).toNat) →
    gen = ((d.site i).target k).latestGen + 1 →
    ((d.site i).win.link = .disabled ∨ (d.site i).win.closing = true ∨ (entryOf d.base.groups k).set = false →
      produce i k d = d) ∧
    ((d.site i).win.link ≠ .disabled → (d.site i).win.closing = false → (entryOf d.base.groups k).set = true →
      ((∀ e ∈ (d.site i).q.control, e.isTarget k = false) → (d.site i).q.control.length < 16 →
        produce i k d = (d.onTarget i k fun r =>
            { aims := some aims, latestGen := gen, ackedGen := r.ackedGen, owed := false }).onQueue i fun q =>
          { q with control := q.control ++ [.target k gen aims] }) ∧
      ((∀ e ∈ (d.site i).q.control, e.isTarget k = false) → 16 ≤ (d.site i).q.control.length →
        produce i k d = d.onTarget i k fun r =>
          { aims := some aims, latestGen := gen, ackedGen := r.ackedGen, owed := true }) ∧
      ∀ (pre post : List ControlEntry) (oldGen : Byte) (old : Aims),
        (d.site i).q.control = pre ++ .target k oldGen old :: post → (∀ e ∈ pre ++ post, e.isTarget k = false) →
        produce i k d = ((d.onTarget i k fun r => { r with aims := some aims, latestGen := gen }).onQueue i fun q =>
          { q with control := pre ++ .target k gen aims :: post }).markIf fun p => p.makesTarget i k)

/-- SET GROUP TARGET and SET SITE TARGET (R100 to R103): the aims, and the offsets and limits, are clamped, the limits
put in order, and held; the sites that print or are armed with the stock are produced for, in ascending order, and no
others. The production at each is that of R106 (`Obligations.ProductionMakesAndPostsTheSiteTarget`), which passes over
a DISABLED or closing site. -/
def Obligations.TargetCommandsHoldClampedValues : Prop :=
  (∀ (st : Site) (k : Stock), st.usesStock k = true ↔ st.tone.active.stock = k ∨
    ∃ a : Arm, st.tone.arm = some a ∧ a.stock = k) ∧
  (∀ (d : Device) (k : Stock) (sites : List SiteId), sites.Pairwise (fun i j => i < j) →
    (∀ i : SiteId, i ∈ sites ↔ (d.site i).tone.active.stock = k ∨
      ∃ a : Arm, (d.site i).tone.arm = some a ∧ a.stock = k) →
    forSites (produceIfUsed k) d = sites.foldl (fun x i => produce i k x) d) ∧
  ∀ (s : State) (tag : Byte) (g : SetGroupTargetArgs) (a : SetSiteTargetArgs) (i : SiteId) (k : Stock) (d e : Device)
    (lo hi : Nat), s.dev.feed.Ready →
    d = { s.dev with base := { s.dev.base with groups := modifyAt s.dev.base.groups k fun _ =>
      { set := true, aims := { density := g.density.map fun x => min x.toNat 250,
                               tvi := g.tvi.map fun x => min x.toNat 50 } } } } →
    lo = min a.low.toNat 250 → hi = min a.high.toNat 250 →
    e = (s.dev.onTgt i fun t => { t with offsets := modifyAt t.offsets k fun _ =>
      { density := a.density.map fun x => min (max x.toInt (-30)) 30,
        tvi := a.tvi.map fun x => min (max x.toInt (-10)) 10, low := min lo hi, high := max lo hi } }) →
    (g.stock.toNat = k.val →
      exec (.setGroupTarget tag g) s = .next { s with dev := ((arbitrate (forSites (produceIfUsed k) d)).reply
        { tag := tag, code := 0x38, answer :=
          { result := .ok, flags := { clamped := decide ((∃ j : Fin 4, 250 < (entryOf g.density j).toNat) ∨
              ∃ j : Fin 8, 50 < (entryOf g.tvi j).toNat) },
            data := [if (entryOf s.dev.base.groups k).set = true then 1 else 0] } }) }) ∧
    ((∀ j : SiteId, (s.dev.site j).usesStock k = false) → forSites (produceIfUsed k) d = d) ∧
    (a.site.toNat = i.val → a.stock.toNat = k.val →
      ∃ clamped : Bool,
        exec (.setSiteTarget tag a) s = .next { s with dev := ((arbitrate (if (s.dev.site i).usesStock k = true
          then produce i k e else e)).reply
          { tag := tag, code := 0x39, answer :=
            { result := .ok, flags := { clamped := clamped, swapped := decide (hi < lo) } } }) } ∧
        (clamped = true ↔ (∃ j : Fin 4, (entryOf a.density j).toInt < -30 ∨ 30 < (entryOf a.density j).toInt) ∨
          (∃ j : Fin 8, (entryOf a.tvi j).toInt < -10 ∨ 10 < (entryOf a.tvi j).toInt) ∨
          250 < a.low.toNat ∨ 250 < a.high.toNat))

/-- QUIESCE and RESUME (R145, R149, R171, R200): QUIESCE sets the quiesced flag and stops every ack and probe timer,
but that a held ack timer stays held at an ACTIVE site with ranks, and answers the ports that are sending; every gap
timer keeps the count it has (the model's choice, log 33) and every gate its own; RESUME clears the flag, starts in
full the stopped ack timer of every ACTIVE site that has ranks and is not paused and the probe timer of every
LINK_LOST site, and gives every gap timer (stopped where the gap length has since become 0, log 20) and waiting gate a
full count (R113), site by site, each then looking for a page start, and changes nothing else; so a waiting gate
leaves RESUME with a full count, or IDLE where the page start is made because the armed stock's acknowledged and
latest generations are equal; a RESUME of a part that is not quiesced restarts nothing (log 19). -/
def Obligations.QuiesceStopsAndResumeRestarts : Prop :=
  ∀ (s : State) (tag : Byte), s.dev.feed.Ready →
    (∀ k : Nat, s.dev.busyPorts.getLsbD k = true ↔ ∃ p : PortId, p.val = k ∧ (s.dev.port p).tx ≠ none) ∧
    (∃ d : Device,
      exec (.quiesce tag) s = .next { s with dev := (d.reply { tag := tag, code := 0x40, answer :=
        { result := .ok, flags := { changed := decide (s.dev.base.quiesced = false) },
          data := [s.dev.busyPorts] } }) } ∧
      { d with base := s.dev.base, sites := s.dev.sites } = s.dev ∧ d.base = { s.dev.base with quiesced := true } ∧
      ∀ i : SiteId, d.site i = { s.dev.site i with win := { (s.dev.site i).win with
        ackTimer := if (s.dev.site i).win.ackTimer = .held ∧ (s.dev.site i).win.link = .active ∧
            (s.dev.site i).win.closing = false ∧ (s.dev.site i).win.ranks ≠ [] then .held else .stopped
        probeTimer := none } }) ∧
    (s.dev.base.quiesced = false →
      exec (.resume tag) s = .next { s with dev :=
        (s.dev.reply { tag := tag, code := 0x41, answer := { result := .ok } }) }) ∧
    ∀ (d : Device) (restart : Site → Site), s.dev.base.quiesced = true →
      (∀ st : Site, restart st = { st with
        win := { st.win with
          ackTimer :=
            if st.win.link = .active ∧ st.win.closing = false ∧ st.win.ranks ≠ [] ∧
              (st.win.ackTimer = .held ∨ ¬((st.cfg.flow = .obey ∨ st.cfg.flow = .gapObey) ∧ st.pace.ready = false))
            then (if st.win.ackTimer = .stopped then .running st.cfg.ackTimeout else st.win.ackTimer) else .stopped
          probeTimer := if st.win.link = .linkLost ∧ st.win.closing = false
            then some (st.win.probeTimer.getD (4 * st.cfg.ackTimeout)) else none }
        pace := { st.pace with gap := st.pace.gap.bind fun _ =>
          if st.cfg.gapLength = 0 then none else some st.cfg.gapLength }
        tgt := { st.tgt with gate := match st.tgt.gate with
          | .wait _ => .wait (10 * st.cfg.gateTimeout)
          | .idle => .idle
          | .bypass => .bypass } }) →
      d = allSites.foldl (fun x i => lookPageStart i (x.onSite i restart))
        { s.dev with base := { s.dev.base with quiesced := false } } →
      exec (.resume tag) s = .next { s with dev := ((arbitrate d).reply
        { tag := tag, code := 0x41, answer := { result := .ok, flags := { changed := true } } }) } ∧
      ∀ i : SiteId, (d.site i).cfg = (s.dev.site i).cfg ∧ (d.site i).win = (restart (s.dev.site i)).win ∧
        (d.site i).pace = (restart (s.dev.site i)).pace ∧
        ∀ (n : Nat) (starts : Prop), (s.dev.site i).tgt.gate = .wait n →
          (starts ↔ (s.dev.site i).win.link = .active ∧ (s.dev.site i).win.closing = false ∧
            (s.dev.site i).q.current = none ∧ (s.dev.site i).q.control = [] ∧ (s.dev.site i).q.queue ≠ [] ∧
            ((s.dev.site i).pace.gap = none ∨ (s.dev.site i).cfg.gapLength = 0) ∧
            (s.dev.site i).win.ranks.length + (if (s.dev.site i).win.prepared = none then 0 else 1) < 16 ∧
            ∃ a : Arm, (s.dev.site i).tone.arm = some a ∧ a.gated = true ∧
              ((s.dev.site i).target a.stock).ackedGen = ((s.dev.site i).target a.stock).latestGen) →
          (¬starts → (d.site i).tgt.gate = .wait (10 * (s.dev.site i).cfg.gateTimeout)) ∧
          (starts → (d.site i).tgt.gate = .idle)

/-- DAY RESET (R28, R45, R56, R63, R90, R99, R102, R105, R108, R135, R157, R166, R172, R174, R177, R189, R201): the
night's work is gone and the configuration stays: settings, curves, targets with their generations, offsets and
limits, allotments and periods. At a site that is neither DISABLED nor closing the stocks that are owed, or whose
latest target is not acknowledged, are posted again into the empty control list, in ascending stock, and nothing is
owed then; a DISABLED site's list is empty; a closing site is left as it is (R156). -/
def Obligations.DayResetDiscardsTheNight : Prop :=
  ∀ (s : State) (tag : Byte), s.dev.feed.Ready → ∃ d : Device,
    exec (.dayReset tag) s = .next { s with dev :=
      (d.reply { tag := tag, code := 0x42, answer := { result := .ok } }) } ∧
    (d.table = [] ∧ d.retained = [] ∧ d.retainedCount = 0 ∧ d.orderCounter = 0 ∧ d.store = s.dev.store ∧
      d.ports = s.dev.ports) ∧
    d.base = { s.dev.base with plans := s.dev.base.plans.map fun p => { p with held := false } } ∧
    (d.feed.events = [] ∧ d.feed.overflow = false ∧ d.feed.overrun = 0 ∧ d.feed.cmds = s.dev.feed.cmds ∧
      d.feed.replies = s.dev.feed.replies) ∧
    (∀ (b : Fin 4) (w : BandWrite), entryOf s.dev.feed.buffers b = .writing w →
      ∃ x : BandWrite, entryOf d.feed.buffers b = .writing x ∧ x.cell = w.cell ∧ x.ref = w.ref) ∧
    (∀ p ∈ d.builder.inFlight, p.discard = true) ∧
    ∀ i : SiteId, (d.site i).cfg = (s.dev.site i).cfg ∧
      (d.site i).tone.active = (s.dev.site i).tone.active ∧ (d.site i).tone.pending = (s.dev.site i).tone.pending ∧
      (d.site i).tone.arm = (s.dev.site i).tone.arm ∧
      (∀ k : Stock, ((d.site i).target k).aims = ((s.dev.site i).target k).aims ∧
        ((d.site i).target k).latestGen = ((s.dev.site i).target k).latestGen ∧
        ((d.site i).target k).ackedGen = ((s.dev.site i).target k).ackedGen) ∧
      (d.site i).tgt.offsets = (s.dev.site i).tgt.offsets ∧
      ((s.dev.site i).win.closing = false → (s.dev.site i).win.link = .disabled →
        (d.site i).q.control = [] ∧ ∀ k : Stock, ((d.site i).target k).owed = ((s.dev.site i).target k).owed) ∧
      ((s.dev.site i).win.closing = false → (s.dev.site i).win.link ≠ .disabled →
        (d.site i).q.control = (allFour.filter fun k => decide (((s.dev.site i).target k).owed = true ∨
            ((s.dev.site i).target k).ackedGen ≠ ((s.dev.site i).target k).latestGen)).map (fun k =>
          .target k ((s.dev.site i).target k).latestGen (((s.dev.site i).target k).aims.getD Aims.zero)) ∧
        ∀ k : Stock, ((d.site i).target k).owed = false) ∧
      ((s.dev.site i).win.closing = true → d.site i = s.dev.site i) ∧
      ((d.site i).pace.active = (s.dev.site i).pace.active ∧ (d.site i).pace.staged = (s.dev.site i).pace.staged ∧
        (d.site i).pace.eCur = (s.dev.site i).pace.eCur) ∧
      ((s.dev.site i).win.closing = false →
        (d.site i).win = if (s.dev.site i).win.link = .disabled then (s.dev.site i).win
          else { ranks := [], nextSeq := 0, prepared := none, ackTimer := .stopped, probeTimer := none, retry := 0,
                 link := .waiting, closing := false }) ∧
      ((s.dev.site i).win.closing = false →
        (d.site i).q.queue = [] ∧ (d.site i).q.current = none ∧ (d.site i).tgt.gate = .idle ∧
        (d.site i).tone.clampCount = 0 ∧ (d.site i).pace.credit = 0 ∧ (d.site i).pace.level = 0 ∧
        (d.site i).pace.refCount = 0 ∧ (d.site i).pace.resendCount = 0 ∧ (d.site i).pace.ready = true ∧
        (d.site i).pace.gap = none ∧ ((s.dev.site i).win.link ≠ .disabled → (d.site i).halt = none))

/-! ## Laws of the arithmetic -/

/-- R54: a time of night is reached from the moment the count equals it until 431 999 units later, never while the clock
is unset, and not during the 432 000 units before it. -/
def Obligations.TimesAreReachedUnderTheHorizon : Prop :=
  ∀ (c : Clock) (t : Nat), c.count < 864000 → t < 864000 →
    (c.unset = true → c.reached t = false) ∧
    (c.unset = false → (c.reached t = true ↔ ((c.count : Int) - (t : Int)) % 864000 < 432000)) ∧
    (∀ n : Nat, c.unset = false → n < 432000 → (t + n) % 864000 = c.count → c.reached t = true) ∧
    (∀ n : Nat, 1 ≤ n → n ≤ 432000 → (c.count + n) % 864000 = t → c.reached t = false) ∧
    ∀ n : Nat, c.unset = false → 432001 ≤ n → n < 864000 → (c.count + n) % 864000 = t → c.reached t = true

/-- R85 to R88: the five stages of the compensation of a tone value, and the bounds each keeps. -/
def Obligations.CompensationFollowsItsStages : Prop :=
  ∀ (k : Curve) (gain minDot maxDot v j w lo hi y z t : Nat) (hold : Bool), k.Valid → 224 ≤ gain → gain ≤ 288 →
    minDot ≤ 31 → 224 ≤ maxDot → maxDot ≤ 255 → v ≤ 255 →
    j = min (v / 16) 15 → w = (if j = 15 then 15 else 16) → k[j]? = some lo → k[j + 1]? = some hi →
    y = lo + (2 * (hi - lo) * (v - 16 * j) + w) / (2 * w) → z = min ((y * gain + 128) / 256) 4080 → t = (z + 8) / 16 →
    (16 * j ≤ v ∧ v - 16 * j ≤ 15 ∧ (j = 15 ↔ 240 ≤ v)) ∧
    (lo ≤ y ∧ y ≤ hi ∧ y ≤ 4080 ∧ (v = 16 * j → y = lo) ∧ (v = 255 → y = hi)) ∧
    (t ≤ 255 ∧ (gain = 256 → z = y) ∧ (gain < 256 → z ≤ y) ∧ (256 < gain → y ≤ z)) ∧
    (compensate k gain minDot maxDot hold v).1 =
      (if v = 0 then 0 else if v = 255 ∧ hold = true then 255 else if t < minDot then minDot
        else if v ≤ 254 ∧ maxDot < t then maxDot else t) ∧
    ((compensate k gain minDot maxDot hold v).2 = true ↔
      v ≠ 0 ∧ ¬(v = 255 ∧ hold = true) ∧ (t < minDot ∨ v ≤ 254 ∧ maxDot < t)) ∧
    (compensate k gain minDot maxDot hold v).1 ≤ 255 ∧
    (1 ≤ v → v ≤ 254 → minDot ≤ (compensate k gain minDot maxDot hold v).1 ∧
      (compensate k gain minDot maxDot hold v).1 ≤ maxDot)

/-- R89: for a valid curve and settings in their ranges the compensated output never decreases as the input increases.
-/
def Obligations.CompensationNeverDecreases : Prop :=
  ∀ (c : Curve) (gain minDot maxDot : Nat) (hold : Bool) (u v : Nat), c.Valid → 224 ≤ gain → gain ≤ 288 →
    minDot ≤ 31 → 224 ≤ maxDot → maxDot ≤ 255 → u ≤ v → v ≤ 255 →
    (compensate c gain minDot maxDot hold u).1 ≤ (compensate c gain minDot maxDot hold v).1

/-! ## Laws that every step keeps -/

/-- The laws below hold of the part at power-on (section 10.5). -/
def Obligations.EveryLawHoldsAtReset : Prop :=
  Memory.wf State.reset.dev.store ∧ State.reset.dev.RangeLaw ∧ State.reset.dev.feed.Law ∧ State.reset.dev.TableLaw ∧
    State.reset.dev.ControlLaw ∧ State.reset.dev.CreditLaw ∧ State.reset.dev.WindowLaw ∧ State.reset.dev.LinkLaw ∧
    State.reset.dev.CellLaw ∧ State.reset.dev.PositionLaw ∧ State.reset.dev.ApprovalLaw

/-- The plate store keeps its canonical form: addresses strictly rising, no byte listed that reads as an unlisted one
does (log 10). -/
def Obligations.EveryStepKeepsTheStoreCanonical : Prop :=
  ∀ s t : State, Memory.wf s.dev.store → step s = .next t → Memory.wf t.dev.store

/-- R31, R51, R52, R76, R84, R90, R100, R102, R112, R138, R161, R172, R176, R177: settings, curves, areas, aims, periods
and counts stay in their ranges, no two sites share a code, and no two enabled areas share a cell. -/
def Obligations.EveryStepKeepsTheRanges : Prop :=
  ∀ s t : State, s.dev.RangeLaw → step s = .next t → t.dev.RangeLaw

/-- R1, R22, R105, R106, R120, R193, R195, R198: the page table, the control lists and the feed port's queues stay
within their capacities, a control list holds one TARGET of a stock at most and none of a stock that is owed, and no
command waits while a reply has room. -/
def Obligations.EveryStepKeepsTheCapacities : Prop :=
  ∀ s t : State, s.dev.feed.Law ∧ s.dev.TableLaw ∧ s.dev.ControlLaw → step s = .next t →
    t.dev.feed.Law ∧ t.dev.TableLaw ∧ t.dev.ControlLaw

/-- R163, R165, R166: a site's credit is always greater than -32 800 and never more than its effective allotment, which
never exceeds the configured allotment; and no block is larger than 32 800 bytes. -/
def Obligations.EveryStepKeepsTheCreditLaw : Prop :=
  ∀ s t : State, s.dev.CreditLaw → step s = .next t → t.dev.CreditLaw

/-- R91, R137, R145, R149, R182: sixteen ranks with a prepared block at most, sequence numbers consecutive modulo 65
536; a halt record exactly in HALTED, an ack timer that is not stopped only in ACTIVE, a probe timer only in
LINK_LOST. -/
def Obligations.EveryStepKeepsTheWindowLaw : Prop :=
  ∀ s t : State, s.dev.WindowLaw ∧ s.dev.LinkLaw → step s = .next t → t.dev.WindowLaw ∧ t.dev.LinkLaw

/-- R31, R39, R43: no cell is recorded for two bands, held by two writes, or both recorded and held. -/
def Obligations.EveryStepKeepsTheCellLaw : Prop :=
  ∀ s t : State, s.dev.CellLaw → step s = .next t → t.dev.CellLaw

/-- R67: at each site at most one delivery of any one page position is queued or current. -/
def Obligations.EveryStepKeepsThePositionLaw : Prop :=
  ∀ s t : State, s.dev.PositionLaw → step s = .next t → t.dev.PositionLaw

/-- R14: every version in APPROVED, RELEASED or DELIVERED holds an approval whose expected digest equals its digest. -/
def Obligations.EveryStepKeepsTheApprovalLaw : Prop :=
  ∀ s t : State, s.dev.ApprovalLaw → step s = .next t → t.dev.ApprovalLaw
end

