-- ==== Sys2Proof/Laws/State.lean ====
section
/-!
SUPPORT. The small lemmas of the state: what each update of a device, site or port leaves as it was, each true by
`rfl` and tagged for `simp`, so that no proof unfolds a record update.
-/

namespace Sys2Proof.Laws
open Sys2Proof.Machine

/-! ## Tables of a fixed number of things -/

/-- Entry `j` of a table in which entry `i` was replaced. -/
theorem entryOf_modifyAt {α : Type} {n : Nat} (t : Vector α n) (i j : Fin n) (f : α → α) :
    entryOf (modifyAt t i f) j = if j = i then f (entryOf t i) else entryOf t j := by
  unfold entryOf modifyAt
  by_cases h : j = i
  · subst h; simp
  · have hv : i.val ≠ j.val := fun e => h (Fin.ext e.symm)
    simp [h, hv]

@[simp] theorem entryOf_modifyAt_same {α : Type} {n : Nat} (t : Vector α n) (i : Fin n) (f : α → α) :
    entryOf (modifyAt t i f) i = f (entryOf t i) := by simp [entryOf_modifyAt]

/-- Two tables with the same entries are the same. -/
theorem table_ext {α : Type} {n : Nat} {t u : Vector α n} (h : ∀ i : Fin n, entryOf t i = entryOf u i) : t = u :=
  Vector.ext fun i hi => h ⟨i, hi⟩

/-! ## Devices -/

@[simp] theorem onSite_base (d : Device) (i : SiteId) (f : Site → Site) : (d.onSite i f).base = d.base := rfl
@[simp] theorem onSite_orderCounter (d : Device) (i : SiteId) (f : Site → Site) :
    (d.onSite i f).orderCounter = d.orderCounter := rfl
@[simp] theorem onSite_table (d : Device) (i : SiteId) (f : Site → Site) : (d.onSite i f).table = d.table := rfl
@[simp] theorem onSite_retained (d : Device) (i : SiteId) (f : Site → Site) :
    (d.onSite i f).retained = d.retained := rfl
@[simp] theorem onSite_retainedCount (d : Device) (i : SiteId) (f : Site → Site) :
    (d.onSite i f).retainedCount = d.retainedCount := rfl
@[simp] theorem onSite_store (d : Device) (i : SiteId) (f : Site → Site) : (d.onSite i f).store = d.store := rfl
@[simp] theorem onSite_builder (d : Device) (i : SiteId) (f : Site → Site) : (d.onSite i f).builder = d.builder := rfl
@[simp] theorem onSite_ports (d : Device) (i : SiteId) (f : Site → Site) : (d.onSite i f).ports = d.ports := rfl
@[simp] theorem onSite_feed (d : Device) (i : SiteId) (f : Site → Site) : (d.onSite i f).feed = d.feed := rfl
@[simp] theorem onSite_serial (d : Device) (i : SiteId) (f : Site → Site) : (d.onSite i f).serial = d.serial := rfl
@[simp] theorem onSite_free (d : Device) (i : SiteId) (f : Site → Site) : (d.onSite i f).free = d.free := rfl
@[simp] theorem onSite_port (d : Device) (i : SiteId) (f : Site → Site) (q : PortId) :
    (d.onSite i f).port q = d.port q := rfl
@[simp] theorem onSite_record (d : Device) (i : SiteId) (f : Site → Site) (v : Nat) :
    (d.onSite i f).record v = d.record v := rfl

@[simp] theorem onWin_base (d : Device) (i : SiteId) (f : Window → Window) : (d.onWin i f).base = d.base := rfl
@[simp] theorem onWin_orderCounter (d : Device) (i : SiteId) (f : Window → Window) :
    (d.onWin i f).orderCounter = d.orderCounter := rfl
@[simp] theorem onWin_table (d : Device) (i : SiteId) (f : Window → Window) : (d.onWin i f).table = d.table := rfl
@[simp] theorem onWin_retained (d : Device) (i : SiteId) (f : Window → Window) :
    (d.onWin i f).retained = d.retained := rfl
@[simp] theorem onWin_retainedCount (d : Device) (i : SiteId) (f : Window → Window) :
    (d.onWin i f).retainedCount = d.retainedCount := rfl
@[simp] theorem onWin_store (d : Device) (i : SiteId) (f : Window → Window) : (d.onWin i f).store = d.store := rfl
@[simp] theorem onWin_builder (d : Device) (i : SiteId) (f : Window → Window) :
    (d.onWin i f).builder = d.builder := rfl
@[simp] theorem onWin_ports (d : Device) (i : SiteId) (f : Window → Window) : (d.onWin i f).ports = d.ports := rfl
@[simp] theorem onWin_feed (d : Device) (i : SiteId) (f : Window → Window) : (d.onWin i f).feed = d.feed := rfl
@[simp] theorem onWin_serial (d : Device) (i : SiteId) (f : Window → Window) : (d.onWin i f).serial = d.serial := rfl
@[simp] theorem onWin_free (d : Device) (i : SiteId) (f : Window → Window) : (d.onWin i f).free = d.free := rfl
@[simp] theorem onWin_port (d : Device) (i : SiteId) (f : Window → Window) (q : PortId) :
    (d.onWin i f).port q = d.port q := rfl
@[simp] theorem onWin_record (d : Device) (i : SiteId) (f : Window → Window) (v : Nat) :
    (d.onWin i f).record v = d.record v := rfl

@[simp] theorem onQueue_base (d : Device) (i : SiteId) (f : SiteQueue → SiteQueue) :
    (d.onQueue i f).base = d.base := rfl
@[simp] theorem onQueue_orderCounter (d : Device) (i : SiteId) (f : SiteQueue → SiteQueue) :
    (d.onQueue i f).orderCounter = d.orderCounter := rfl
@[simp] theorem onQueue_table (d : Device) (i : SiteId) (f : SiteQueue → SiteQueue) :
    (d.onQueue i f).table = d.table := rfl
@[simp] theorem onQueue_retained (d : Device) (i : SiteId) (f : SiteQueue → SiteQueue) :
    (d.onQueue i f).retained = d.retained := rfl
@[simp] theorem onQueue_retainedCount (d : Device) (i : SiteId) (f : SiteQueue → SiteQueue) :
    (d.onQueue i f).retainedCount = d.retainedCount := rfl
@[simp] theorem onQueue_store (d : Device) (i : SiteId) (f : SiteQueue → SiteQueue) :
    (d.onQueue i f).store = d.store := rfl
@[simp] theorem onQueue_builder (d : Device) (i : SiteId) (f : SiteQueue → SiteQueue) :
    (d.onQueue i f).builder = d.builder := rfl
@[simp] theorem onQueue_ports (d : Device) (i : SiteId) (f : SiteQueue → SiteQueue) :
    (d.onQueue i f).ports = d.ports := rfl
@[simp] theorem onQueue_feed (d : Device) (i : SiteId) (f : SiteQueue → SiteQueue) :
    (d.onQueue i f).feed = d.feed := rfl
@[simp] theorem onQueue_serial (d : Device) (i : SiteId) (f : SiteQueue → SiteQueue) :
    (d.onQueue i f).serial = d.serial := rfl
@[simp] theorem onQueue_free (d : Device) (i : SiteId) (f : SiteQueue → SiteQueue) :
    (d.onQueue i f).free = d.free := rfl
@[simp] theorem onQueue_port (d : Device) (i : SiteId) (f : SiteQueue → SiteQueue) (q : PortId) :
    (d.onQueue i f).port q = d.port q := rfl
@[simp] theorem onQueue_record (d : Device) (i : SiteId) (f : SiteQueue → SiteQueue) (v : Nat) :
    (d.onQueue i f).record v = d.record v := rfl

@[simp] theorem onTone_base (d : Device) (i : SiteId) (f : Tone → Tone) : (d.onTone i f).base = d.base := rfl
@[simp] theorem onTone_orderCounter (d : Device) (i : SiteId) (f : Tone → Tone) :
    (d.onTone i f).orderCounter = d.orderCounter := rfl
@[simp] theorem onTone_table (d : Device) (i : SiteId) (f : Tone → Tone) : (d.onTone i f).table = d.table := rfl
@[simp] theorem onTone_retained (d : Device) (i : SiteId) (f : Tone → Tone) :
    (d.onTone i f).retained = d.retained := rfl
@[simp] theorem onTone_retainedCount (d : Device) (i : SiteId) (f : Tone → Tone) :
    (d.onTone i f).retainedCount = d.retainedCount := rfl
@[simp] theorem onTone_store (d : Device) (i : SiteId) (f : Tone → Tone) : (d.onTone i f).store = d.store := rfl
@[simp] theorem onTone_builder (d : Device) (i : SiteId) (f : Tone → Tone) : (d.onTone i f).builder = d.builder := rfl
@[simp] theorem onTone_ports (d : Device) (i : SiteId) (f : Tone → Tone) : (d.onTone i f).ports = d.ports := rfl
@[simp] theorem onTone_feed (d : Device) (i : SiteId) (f : Tone → Tone) : (d.onTone i f).feed = d.feed := rfl
@[simp] theorem onTone_serial (d : Device) (i : SiteId) (f : Tone → Tone) : (d.onTone i f).serial = d.serial := rfl
@[simp] theorem onTone_free (d : Device) (i : SiteId) (f : Tone → Tone) : (d.onTone i f).free = d.free := rfl
@[simp] theorem onTone_port (d : Device) (i : SiteId) (f : Tone → Tone) (q : PortId) :
    (d.onTone i f).port q = d.port q := rfl
@[simp] theorem onTone_record (d : Device) (i : SiteId) (f : Tone → Tone) (v : Nat) :
    (d.onTone i f).record v = d.record v := rfl

@[simp] theorem onTgt_base (d : Device) (i : SiteId) (f : Targets → Targets) : (d.onTgt i f).base = d.base := rfl
@[simp] theorem onTgt_orderCounter (d : Device) (i : SiteId) (f : Targets → Targets) :
    (d.onTgt i f).orderCounter = d.orderCounter := rfl
@[simp] theorem onTgt_table (d : Device) (i : SiteId) (f : Targets → Targets) : (d.onTgt i f).table = d.table := rfl
@[simp] theorem onTgt_retained (d : Device) (i : SiteId) (f : Targets → Targets) :
    (d.onTgt i f).retained = d.retained := rfl
@[simp] theorem onTgt_retainedCount (d : Device) (i : SiteId) (f : Targets → Targets) :
    (d.onTgt i f).retainedCount = d.retainedCount := rfl
@[simp] theorem onTgt_store (d : Device) (i : SiteId) (f : Targets → Targets) : (d.onTgt i f).store = d.store := rfl
@[simp] theorem onTgt_builder (d : Device) (i : SiteId) (f : Targets → Targets) :
    (d.onTgt i f).builder = d.builder := rfl
@[simp] theorem onTgt_ports (d : Device) (i : SiteId) (f : Targets → Targets) : (d.onTgt i f).ports = d.ports := rfl
@[simp] theorem onTgt_feed (d : Device) (i : SiteId) (f : Targets → Targets) : (d.onTgt i f).feed = d.feed := rfl
@[simp] theorem onTgt_serial (d : Device) (i : SiteId) (f : Targets → Targets) :
    (d.onTgt i f).serial = d.serial := rfl
@[simp] theorem onTgt_free (d : Device) (i : SiteId) (f : Targets → Targets) : (d.onTgt i f).free = d.free := rfl
@[simp] theorem onTgt_port (d : Device) (i : SiteId) (f : Targets → Targets) (q : PortId) :
    (d.onTgt i f).port q = d.port q := rfl
@[simp] theorem onTgt_record (d : Device) (i : SiteId) (f : Targets → Targets) (v : Nat) :
    (d.onTgt i f).record v = d.record v := rfl

@[simp] theorem onPace_base (d : Device) (i : SiteId) (f : Pacer → Pacer) : (d.onPace i f).base = d.base := rfl
@[simp] theorem onPace_orderCounter (d : Device) (i : SiteId) (f : Pacer → Pacer) :
    (d.onPace i f).orderCounter = d.orderCounter := rfl
@[simp] theorem onPace_table (d : Device) (i : SiteId) (f : Pacer → Pacer) : (d.onPace i f).table = d.table := rfl
@[simp] theorem onPace_retained (d : Device) (i : SiteId) (f : Pacer → Pacer) :
    (d.onPace i f).retained = d.retained := rfl
@[simp] theorem onPace_retainedCount (d : Device) (i : SiteId) (f : Pacer → Pacer) :
    (d.onPace i f).retainedCount = d.retainedCount := rfl
@[simp] theorem onPace_store (d : Device) (i : SiteId) (f : Pacer → Pacer) : (d.onPace i f).store = d.store := rfl
@[simp] theorem onPace_builder (d : Device) (i : SiteId) (f : Pacer → Pacer) :
    (d.onPace i f).builder = d.builder := rfl
@[simp] theorem onPace_ports (d : Device) (i : SiteId) (f : Pacer → Pacer) : (d.onPace i f).ports = d.ports := rfl
@[simp] theorem onPace_feed (d : Device) (i : SiteId) (f : Pacer → Pacer) : (d.onPace i f).feed = d.feed := rfl
@[simp] theorem onPace_serial (d : Device) (i : SiteId) (f : Pacer → Pacer) : (d.onPace i f).serial = d.serial := rfl
@[simp] theorem onPace_free (d : Device) (i : SiteId) (f : Pacer → Pacer) : (d.onPace i f).free = d.free := rfl
@[simp] theorem onPace_port (d : Device) (i : SiteId) (f : Pacer → Pacer) (q : PortId) :
    (d.onPace i f).port q = d.port q := rfl
@[simp] theorem onPace_record (d : Device) (i : SiteId) (f : Pacer → Pacer) (v : Nat) :
    (d.onPace i f).record v = d.record v := rfl

@[simp] theorem onTarget_base (d : Device) (i : SiteId) (k : Stock) (f : TargetRecord → TargetRecord) :
    (d.onTarget i k f).base = d.base := rfl
@[simp] theorem onTarget_orderCounter (d : Device) (i : SiteId) (k : Stock) (f : TargetRecord → TargetRecord) :
    (d.onTarget i k f).orderCounter = d.orderCounter := rfl
@[simp] theorem onTarget_table (d : Device) (i : SiteId) (k : Stock) (f : TargetRecord → TargetRecord) :
    (d.onTarget i k f).table = d.table := rfl
@[simp] theorem onTarget_retained (d : Device) (i : SiteId) (k : Stock) (f : TargetRecord → TargetRecord) :
    (d.onTarget i k f).retained = d.retained := rfl
@[simp] theorem onTarget_retainedCount (d : Device) (i : SiteId) (k : Stock) (f : TargetRecord → TargetRecord) :
    (d.onTarget i k f).retainedCount = d.retainedCount := rfl
@[simp] theorem onTarget_store (d : Device) (i : SiteId) (k : Stock) (f : TargetRecord → TargetRecord) :
    (d.onTarget i k f).store = d.store := rfl
@[simp] theorem onTarget_builder (d : Device) (i : SiteId) (k : Stock) (f : TargetRecord → TargetRecord) :
    (d.onTarget i k f).builder = d.builder := rfl
@[simp] theorem onTarget_ports (d : Device) (i : SiteId) (k : Stock) (f : TargetRecord → TargetRecord) :
    (d.onTarget i k f).ports = d.ports := rfl
@[simp] theorem onTarget_feed (d : Device) (i : SiteId) (k : Stock) (f : TargetRecord → TargetRecord) :
    (d.onTarget i k f).feed = d.feed := rfl
@[simp] theorem onTarget_serial (d : Device) (i : SiteId) (k : Stock) (f : TargetRecord → TargetRecord) :
    (d.onTarget i k f).serial = d.serial := rfl
@[simp] theorem onTarget_free (d : Device) (i : SiteId) (k : Stock) (f : TargetRecord → TargetRecord) :
    (d.onTarget i k f).free = d.free := rfl
@[simp] theorem onTarget_port (d : Device) (i : SiteId) (k : Stock) (f : TargetRecord → TargetRecord) (q : PortId) :
    (d.onTarget i k f).port q = d.port q := rfl
@[simp] theorem onTarget_record (d : Device) (i : SiteId) (k : Stock) (f : TargetRecord → TargetRecord) (v : Nat) :
    (d.onTarget i k f).record v = d.record v := rfl

@[simp] theorem onPort_base (d : Device) (p : PortId) (f : Port → Port) : (d.onPort p f).base = d.base := rfl
@[simp] theorem onPort_orderCounter (d : Device) (p : PortId) (f : Port → Port) :
    (d.onPort p f).orderCounter = d.orderCounter := rfl
@[simp] theorem onPort_table (d : Device) (p : PortId) (f : Port → Port) : (d.onPort p f).table = d.table := rfl
@[simp] theorem onPort_retained (d : Device) (p : PortId) (f : Port → Port) :
    (d.onPort p f).retained = d.retained := rfl
@[simp] theorem onPort_retainedCount (d : Device) (p : PortId) (f : Port → Port) :
    (d.onPort p f).retainedCount = d.retainedCount := rfl
@[simp] theorem onPort_store (d : Device) (p : PortId) (f : Port → Port) : (d.onPort p f).store = d.store := rfl
@[simp] theorem onPort_sites (d : Device) (p : PortId) (f : Port → Port) : (d.onPort p f).sites = d.sites := rfl
@[simp] theorem onPort_builder (d : Device) (p : PortId) (f : Port → Port) : (d.onPort p f).builder = d.builder := rfl
@[simp] theorem onPort_feed (d : Device) (p : PortId) (f : Port → Port) : (d.onPort p f).feed = d.feed := rfl
@[simp] theorem onPort_serial (d : Device) (p : PortId) (f : Port → Port) : (d.onPort p f).serial = d.serial := rfl
@[simp] theorem onPort_free (d : Device) (p : PortId) (f : Port → Port) : (d.onPort p f).free = d.free := rfl
@[simp] theorem onPort_site (d : Device) (p : PortId) (f : Port → Port) (j : SiteId) :
    (d.onPort p f).site j = d.site j := rfl
@[simp] theorem onPort_record (d : Device) (p : PortId) (f : Port → Port) (v : Nat) :
    (d.onPort p f).record v = d.record v := rfl

@[simp] theorem onRecord_base (d : Device) (u : Nat) (f : PageVersion → PageVersion) :
    (d.onRecord u f).base = d.base := rfl
@[simp] theorem onRecord_orderCounter (d : Device) (u : Nat) (f : PageVersion → PageVersion) :
    (d.onRecord u f).orderCounter = d.orderCounter := rfl
@[simp] theorem onRecord_retained (d : Device) (u : Nat) (f : PageVersion → PageVersion) :
    (d.onRecord u f).retained = d.retained := rfl
@[simp] theorem onRecord_retainedCount (d : Device) (u : Nat) (f : PageVersion → PageVersion) :
    (d.onRecord u f).retainedCount = d.retainedCount := rfl
@[simp] theorem onRecord_store (d : Device) (u : Nat) (f : PageVersion → PageVersion) :
    (d.onRecord u f).store = d.store := rfl
@[simp] theorem onRecord_sites (d : Device) (u : Nat) (f : PageVersion → PageVersion) :
    (d.onRecord u f).sites = d.sites := rfl
@[simp] theorem onRecord_builder (d : Device) (u : Nat) (f : PageVersion → PageVersion) :
    (d.onRecord u f).builder = d.builder := rfl
@[simp] theorem onRecord_ports (d : Device) (u : Nat) (f : PageVersion → PageVersion) :
    (d.onRecord u f).ports = d.ports := rfl
@[simp] theorem onRecord_feed (d : Device) (u : Nat) (f : PageVersion → PageVersion) :
    (d.onRecord u f).feed = d.feed := rfl
@[simp] theorem onRecord_serial (d : Device) (u : Nat) (f : PageVersion → PageVersion) :
    (d.onRecord u f).serial = d.serial := rfl
@[simp] theorem onRecord_free (d : Device) (u : Nat) (f : PageVersion → PageVersion) :
    (d.onRecord u f).free = d.free := rfl
@[simp] theorem onRecord_site (d : Device) (u : Nat) (f : PageVersion → PageVersion) (j : SiteId) :
    (d.onRecord u f).site j = d.site j := rfl
@[simp] theorem onRecord_port (d : Device) (u : Nat) (f : PageVersion → PageVersion) (q : PortId) :
    (d.onRecord u f).port q = d.port q := rfl

@[simp] theorem onDelivery_base (d : Device) (u : Nat) (i : SiteId) (f : DeliveryRecord → DeliveryRecord) :
    (d.onDelivery u i f).base = d.base := rfl
@[simp] theorem onDelivery_orderCounter (d : Device) (u : Nat) (i : SiteId) (f : DeliveryRecord → DeliveryRecord) :
    (d.onDelivery u i f).orderCounter = d.orderCounter := rfl
@[simp] theorem onDelivery_retained (d : Device) (u : Nat) (i : SiteId) (f : DeliveryRecord → DeliveryRecord) :
    (d.onDelivery u i f).retained = d.retained := rfl
@[simp] theorem onDelivery_retainedCount (d : Device) (u : Nat) (i : SiteId) (f : DeliveryRecord → DeliveryRecord) :
    (d.onDelivery u i f).retainedCount = d.retainedCount := rfl
@[simp] theorem onDelivery_store (d : Device) (u : Nat) (i : SiteId) (f : DeliveryRecord → DeliveryRecord) :
    (d.onDelivery u i f).store = d.store := rfl
@[simp] theorem onDelivery_sites (d : Device) (u : Nat) (i : SiteId) (f : DeliveryRecord → DeliveryRecord) :
    (d.onDelivery u i f).sites = d.sites := rfl
@[simp] theorem onDelivery_builder (d : Device) (u : Nat) (i : SiteId) (f : DeliveryRecord → DeliveryRecord) :
    (d.onDelivery u i f).builder = d.builder := rfl
@[simp] theorem onDelivery_ports (d : Device) (u : Nat) (i : SiteId) (f : DeliveryRecord → DeliveryRecord) :
    (d.onDelivery u i f).ports = d.ports := rfl
@[simp] theorem onDelivery_feed (d : Device) (u : Nat) (i : SiteId) (f : DeliveryRecord → DeliveryRecord) :
    (d.onDelivery u i f).feed = d.feed := rfl
@[simp] theorem onDelivery_serial (d : Device) (u : Nat) (i : SiteId) (f : DeliveryRecord → DeliveryRecord) :
    (d.onDelivery u i f).serial = d.serial := rfl
@[simp] theorem onDelivery_free (d : Device) (u : Nat) (i : SiteId) (f : DeliveryRecord → DeliveryRecord) :
    (d.onDelivery u i f).free = d.free := rfl
@[simp] theorem onDelivery_site (d : Device) (u : Nat) (i : SiteId) (f : DeliveryRecord → DeliveryRecord) (j : SiteId) :
    (d.onDelivery u i f).site j = d.site j := rfl
@[simp] theorem onDelivery_port (d : Device) (u : Nat) (i : SiteId) (f : DeliveryRecord → DeliveryRecord) (q : PortId) :
    (d.onDelivery u i f).port q = d.port q := rfl

@[simp] theorem event_base (d : Device) (e : Event) : (d.event e).base = d.base := rfl
@[simp] theorem event_orderCounter (d : Device) (e : Event) : (d.event e).orderCounter = d.orderCounter := rfl
@[simp] theorem event_table (d : Device) (e : Event) : (d.event e).table = d.table := rfl
@[simp] theorem event_retained (d : Device) (e : Event) : (d.event e).retained = d.retained := rfl
@[simp] theorem event_retainedCount (d : Device) (e : Event) : (d.event e).retainedCount = d.retainedCount := rfl
@[simp] theorem event_store (d : Device) (e : Event) : (d.event e).store = d.store := rfl
@[simp] theorem event_sites (d : Device) (e : Event) : (d.event e).sites = d.sites := rfl
@[simp] theorem event_builder (d : Device) (e : Event) : (d.event e).builder = d.builder := rfl
@[simp] theorem event_ports (d : Device) (e : Event) : (d.event e).ports = d.ports := rfl
@[simp] theorem event_serial (d : Device) (e : Event) : (d.event e).serial = d.serial := rfl
@[simp] theorem event_free (d : Device) (e : Event) : (d.event e).free = d.free := rfl
@[simp] theorem event_site (d : Device) (e : Event) (j : SiteId) : (d.event e).site j = d.site j := rfl
@[simp] theorem event_port (d : Device) (e : Event) (q : PortId) : (d.event e).port q = d.port q := rfl
@[simp] theorem event_record (d : Device) (e : Event) (v : Nat) : (d.event e).record v = d.record v := rfl

@[simp] theorem eventIf_base (d : Device) (b : Bool) (e : Event) : (d.eventIf b e).base = d.base := rfl
@[simp] theorem eventIf_orderCounter (d : Device) (b : Bool) (e : Event) :
    (d.eventIf b e).orderCounter = d.orderCounter := rfl
@[simp] theorem eventIf_table (d : Device) (b : Bool) (e : Event) : (d.eventIf b e).table = d.table := rfl
@[simp] theorem eventIf_retained (d : Device) (b : Bool) (e : Event) : (d.eventIf b e).retained = d.retained := rfl
@[simp] theorem eventIf_retainedCount (d : Device) (b : Bool) (e : Event) :
    (d.eventIf b e).retainedCount = d.retainedCount := rfl
@[simp] theorem eventIf_store (d : Device) (b : Bool) (e : Event) : (d.eventIf b e).store = d.store := rfl
@[simp] theorem eventIf_sites (d : Device) (b : Bool) (e : Event) : (d.eventIf b e).sites = d.sites := rfl
@[simp] theorem eventIf_builder (d : Device) (b : Bool) (e : Event) : (d.eventIf b e).builder = d.builder := rfl
@[simp] theorem eventIf_ports (d : Device) (b : Bool) (e : Event) : (d.eventIf b e).ports = d.ports := rfl
@[simp] theorem eventIf_serial (d : Device) (b : Bool) (e : Event) : (d.eventIf b e).serial = d.serial := rfl
@[simp] theorem eventIf_free (d : Device) (b : Bool) (e : Event) : (d.eventIf b e).free = d.free := rfl
@[simp] theorem eventIf_site (d : Device) (b : Bool) (e : Event) (j : SiteId) :
    (d.eventIf b e).site j = d.site j := rfl
@[simp] theorem eventIf_port (d : Device) (b : Bool) (e : Event) (q : PortId) :
    (d.eventIf b e).port q = d.port q := rfl
@[simp] theorem eventIf_record (d : Device) (b : Bool) (e : Event) (v : Nat) :
    (d.eventIf b e).record v = d.record v := rfl

@[simp] theorem onBuffer_base (d : Device) (b : Fin 4) (x : Buffer) : (d.onBuffer b x).base = d.base := rfl
@[simp] theorem onBuffer_orderCounter (d : Device) (b : Fin 4) (x : Buffer) :
    (d.onBuffer b x).orderCounter = d.orderCounter := rfl
@[simp] theorem onBuffer_table (d : Device) (b : Fin 4) (x : Buffer) : (d.onBuffer b x).table = d.table := rfl
@[simp] theorem onBuffer_retained (d : Device) (b : Fin 4) (x : Buffer) :
    (d.onBuffer b x).retained = d.retained := rfl
@[simp] theorem onBuffer_retainedCount (d : Device) (b : Fin 4) (x : Buffer) :
    (d.onBuffer b x).retainedCount = d.retainedCount := rfl
@[simp] theorem onBuffer_store (d : Device) (b : Fin 4) (x : Buffer) : (d.onBuffer b x).store = d.store := rfl
@[simp] theorem onBuffer_sites (d : Device) (b : Fin 4) (x : Buffer) : (d.onBuffer b x).sites = d.sites := rfl
@[simp] theorem onBuffer_builder (d : Device) (b : Fin 4) (x : Buffer) : (d.onBuffer b x).builder = d.builder := rfl
@[simp] theorem onBuffer_ports (d : Device) (b : Fin 4) (x : Buffer) : (d.onBuffer b x).ports = d.ports := rfl
@[simp] theorem onBuffer_serial (d : Device) (b : Fin 4) (x : Buffer) : (d.onBuffer b x).serial = d.serial := rfl
@[simp] theorem onBuffer_free (d : Device) (b : Fin 4) (x : Buffer) : (d.onBuffer b x).free = d.free := rfl
@[simp] theorem onBuffer_site (d : Device) (b : Fin 4) (x : Buffer) (j : SiteId) :
    (d.onBuffer b x).site j = d.site j := rfl
@[simp] theorem onBuffer_port (d : Device) (b : Fin 4) (x : Buffer) (q : PortId) :
    (d.onBuffer b x).port q = d.port q := rfl
@[simp] theorem onBuffer_record (d : Device) (b : Fin 4) (x : Buffer) (v : Nat) :
    (d.onBuffer b x).record v = d.record v := rfl

@[simp] theorem markIf_base (d : Device) (f : Preparation → Bool) : (d.markIf f).base = d.base := rfl
@[simp] theorem markIf_orderCounter (d : Device) (f : Preparation → Bool) :
    (d.markIf f).orderCounter = d.orderCounter := rfl
@[simp] theorem markIf_table (d : Device) (f : Preparation → Bool) : (d.markIf f).table = d.table := rfl
@[simp] theorem markIf_retained (d : Device) (f : Preparation → Bool) : (d.markIf f).retained = d.retained := rfl
@[simp] theorem markIf_retainedCount (d : Device) (f : Preparation → Bool) :
    (d.markIf f).retainedCount = d.retainedCount := rfl
@[simp] theorem markIf_store (d : Device) (f : Preparation → Bool) : (d.markIf f).store = d.store := rfl
@[simp] theorem markIf_sites (d : Device) (f : Preparation → Bool) : (d.markIf f).sites = d.sites := rfl
@[simp] theorem markIf_ports (d : Device) (f : Preparation → Bool) : (d.markIf f).ports = d.ports := rfl
@[simp] theorem markIf_feed (d : Device) (f : Preparation → Bool) : (d.markIf f).feed = d.feed := rfl
@[simp] theorem markIf_serial (d : Device) (f : Preparation → Bool) : (d.markIf f).serial = d.serial := rfl
@[simp] theorem markIf_free (d : Device) (f : Preparation → Bool) : (d.markIf f).free = d.free := rfl
@[simp] theorem markIf_site (d : Device) (f : Preparation → Bool) (j : SiteId) : (d.markIf f).site j = d.site j := rfl
@[simp] theorem markIf_port (d : Device) (f : Preparation → Bool) (q : PortId) : (d.markIf f).port q = d.port q := rfl
@[simp] theorem markIf_record (d : Device) (f : Preparation → Bool) (v : Nat) :
    (d.markIf f).record v = d.record v := rfl

@[simp] theorem markSite_base (d : Device) (i : SiteId) : (d.markSite i).base = d.base := rfl
@[simp] theorem markSite_orderCounter (d : Device) (i : SiteId) : (d.markSite i).orderCounter = d.orderCounter := rfl
@[simp] theorem markSite_table (d : Device) (i : SiteId) : (d.markSite i).table = d.table := rfl
@[simp] theorem markSite_retained (d : Device) (i : SiteId) : (d.markSite i).retained = d.retained := rfl
@[simp] theorem markSite_retainedCount (d : Device) (i : SiteId) :
    (d.markSite i).retainedCount = d.retainedCount := rfl
@[simp] theorem markSite_store (d : Device) (i : SiteId) : (d.markSite i).store = d.store := rfl
@[simp] theorem markSite_sites (d : Device) (i : SiteId) : (d.markSite i).sites = d.sites := rfl
@[simp] theorem markSite_ports (d : Device) (i : SiteId) : (d.markSite i).ports = d.ports := rfl
@[simp] theorem markSite_feed (d : Device) (i : SiteId) : (d.markSite i).feed = d.feed := rfl
@[simp] theorem markSite_serial (d : Device) (i : SiteId) : (d.markSite i).serial = d.serial := rfl
@[simp] theorem markSite_free (d : Device) (i : SiteId) : (d.markSite i).free = d.free := rfl
@[simp] theorem markSite_site (d : Device) (i : SiteId) (j : SiteId) : (d.markSite i).site j = d.site j := rfl
@[simp] theorem markSite_port (d : Device) (i : SiteId) (q : PortId) : (d.markSite i).port q = d.port q := rfl
@[simp] theorem markSite_record (d : Device) (i : SiteId) (v : Nat) : (d.markSite i).record v = d.record v := rfl

@[simp] theorem builderIdle_base (d : Device) : (d.builderIdle).base = d.base := rfl
@[simp] theorem builderIdle_orderCounter (d : Device) : (d.builderIdle).orderCounter = d.orderCounter := rfl
@[simp] theorem builderIdle_table (d : Device) : (d.builderIdle).table = d.table := rfl
@[simp] theorem builderIdle_retained (d : Device) : (d.builderIdle).retained = d.retained := rfl
@[simp] theorem builderIdle_retainedCount (d : Device) : (d.builderIdle).retainedCount = d.retainedCount := rfl
@[simp] theorem builderIdle_store (d : Device) : (d.builderIdle).store = d.store := rfl
@[simp] theorem builderIdle_sites (d : Device) : (d.builderIdle).sites = d.sites := rfl
@[simp] theorem builderIdle_ports (d : Device) : (d.builderIdle).ports = d.ports := rfl
@[simp] theorem builderIdle_feed (d : Device) : (d.builderIdle).feed = d.feed := rfl
@[simp] theorem builderIdle_serial (d : Device) : (d.builderIdle).serial = d.serial := rfl
@[simp] theorem builderIdle_free (d : Device) : (d.builderIdle).free = d.free := rfl
@[simp] theorem builderIdle_site (d : Device) (j : SiteId) : (d.builderIdle).site j = d.site j := rfl
@[simp] theorem builderIdle_port (d : Device) (q : PortId) : (d.builderIdle).port q = d.port q := rfl
@[simp] theorem builderIdle_record (d : Device) (v : Nat) : (d.builderIdle).record v = d.record v := rfl

/-! ## Sites -/

/-- Site `j` after a change of site `i`. -/
theorem site_onSite (d : Device) (i j : SiteId) (f : Site → Site) :
    (d.onSite i f).site j = if j = i then f (d.site i) else d.site j := entryOf_modifyAt _ _ _ _

@[simp] theorem site_onSite_same (d : Device) (i : SiteId) (f : Site → Site) :
    (d.onSite i f).site i = f (d.site i) := entryOf_modifyAt_same _ _ _

@[simp] theorem site_onWin_same (d : Device) (i : SiteId) (f : Window → Window) :
    (d.onWin i f).site i = { d.site i with win := f (d.site i).win } := entryOf_modifyAt_same _ _ _

@[simp] theorem site_onQueue_same (d : Device) (i : SiteId) (f : SiteQueue → SiteQueue) :
    (d.onQueue i f).site i = { d.site i with q := f (d.site i).q } := entryOf_modifyAt_same _ _ _

@[simp] theorem site_onTone_same (d : Device) (i : SiteId) (f : Tone → Tone) :
    (d.onTone i f).site i = { d.site i with tone := f (d.site i).tone } := entryOf_modifyAt_same _ _ _

@[simp] theorem site_onTgt_same (d : Device) (i : SiteId) (f : Targets → Targets) :
    (d.onTgt i f).site i = { d.site i with tgt := f (d.site i).tgt } := entryOf_modifyAt_same _ _ _

@[simp] theorem site_onPace_same (d : Device) (i : SiteId) (f : Pacer → Pacer) :
    (d.onPace i f).site i = { d.site i with pace := f (d.site i).pace } := entryOf_modifyAt_same _ _ _

/-- A site other than the one changed is as it was. -/
theorem site_onSite_ne (d : Device) {i j : SiteId} (h : j ≠ i) (f : Site → Site) :
    (d.onSite i f).site j = d.site j := by simp [site_onSite, h]

/-- Port `q` after a change of port `p`. -/
theorem port_onPort (d : Device) (p q : PortId) (f : Port → Port) :
    (d.onPort p f).port q = if q = p then f (d.port p) else d.port q := entryOf_modifyAt _ _ _ _

@[simp] theorem port_onPort_same (d : Device) (p : PortId) (f : Port → Port) :
    (d.onPort p f).port p = f (d.port p) := entryOf_modifyAt_same _ _ _

/-- A port other than the one changed is as it was. -/
theorem port_onPort_ne (d : Device) {p q : PortId} (h : q ≠ p) (f : Port → Port) :
    (d.onPort p f).port q = d.port q := by simp [port_onPort, h]

@[simp] theorem onWin_cfg (d : Device) (i j : SiteId) (f : Window → Window) :
    ((d.onWin i f).site j).cfg = (d.site j).cfg := by
  unfold Device.onWin; rw [site_onSite]; split <;> simp_all
@[simp] theorem onWin_tone (d : Device) (i j : SiteId) (f : Window → Window) :
    ((d.onWin i f).site j).tone = (d.site j).tone := by
  unfold Device.onWin; rw [site_onSite]; split <;> simp_all
@[simp] theorem onWin_tgt (d : Device) (i j : SiteId) (f : Window → Window) :
    ((d.onWin i f).site j).tgt = (d.site j).tgt := by
  unfold Device.onWin; rw [site_onSite]; split <;> simp_all
@[simp] theorem onWin_q (d : Device) (i j : SiteId) (f : Window → Window) :
    ((d.onWin i f).site j).q = (d.site j).q := by
  unfold Device.onWin; rw [site_onSite]; split <;> simp_all
@[simp] theorem onWin_pace (d : Device) (i j : SiteId) (f : Window → Window) :
    ((d.onWin i f).site j).pace = (d.site j).pace := by
  unfold Device.onWin; rw [site_onSite]; split <;> simp_all
@[simp] theorem onWin_halt (d : Device) (i j : SiteId) (f : Window → Window) :
    ((d.onWin i f).site j).halt = (d.site j).halt := by
  unfold Device.onWin; rw [site_onSite]; split <;> simp_all

@[simp] theorem onQueue_cfg (d : Device) (i j : SiteId) (f : SiteQueue → SiteQueue) :
    ((d.onQueue i f).site j).cfg = (d.site j).cfg := by
  unfold Device.onQueue; rw [site_onSite]; split <;> simp_all
@[simp] theorem onQueue_tone (d : Device) (i j : SiteId) (f : SiteQueue → SiteQueue) :
    ((d.onQueue i f).site j).tone = (d.site j).tone := by
  unfold Device.onQueue; rw [site_onSite]; split <;> simp_all
@[simp] theorem onQueue_tgt (d : Device) (i j : SiteId) (f : SiteQueue → SiteQueue) :
    ((d.onQueue i f).site j).tgt = (d.site j).tgt := by
  unfold Device.onQueue; rw [site_onSite]; split <;> simp_all
@[simp] theorem onQueue_win (d : Device) (i j : SiteId) (f : SiteQueue → SiteQueue) :
    ((d.onQueue i f).site j).win = (d.site j).win := by
  unfold Device.onQueue; rw [site_onSite]; split <;> simp_all
@[simp] theorem onQueue_pace (d : Device) (i j : SiteId) (f : SiteQueue → SiteQueue) :
    ((d.onQueue i f).site j).pace = (d.site j).pace := by
  unfold Device.onQueue; rw [site_onSite]; split <;> simp_all
@[simp] theorem onQueue_halt (d : Device) (i j : SiteId) (f : SiteQueue → SiteQueue) :
    ((d.onQueue i f).site j).halt = (d.site j).halt := by
  unfold Device.onQueue; rw [site_onSite]; split <;> simp_all

@[simp] theorem onTone_cfg (d : Device) (i j : SiteId) (f : Tone → Tone) :
    ((d.onTone i f).site j).cfg = (d.site j).cfg := by
  unfold Device.onTone; rw [site_onSite]; split <;> simp_all
@[simp] theorem onTone_tgt (d : Device) (i j : SiteId) (f : Tone → Tone) :
    ((d.onTone i f).site j).tgt = (d.site j).tgt := by
  unfold Device.onTone; rw [site_onSite]; split <;> simp_all
@[simp] theorem onTone_q (d : Device) (i j : SiteId) (f : Tone → Tone) :
    ((d.onTone i f).site j).q = (d.site j).q := by
  unfold Device.onTone; rw [site_onSite]; split <;> simp_all
@[simp] theorem onTone_win (d : Device) (i j : SiteId) (f : Tone → Tone) :
    ((d.onTone i f).site j).win = (d.site j).win := by
  unfold Device.onTone; rw [site_onSite]; split <;> simp_all
@[simp] theorem onTone_pace (d : Device) (i j : SiteId) (f : Tone → Tone) :
    ((d.onTone i f).site j).pace = (d.site j).pace := by
  unfold Device.onTone; rw [site_onSite]; split <;> simp_all
@[simp] theorem onTone_halt (d : Device) (i j : SiteId) (f : Tone → Tone) :
    ((d.onTone i f).site j).halt = (d.site j).halt := by
  unfold Device.onTone; rw [site_onSite]; split <;> simp_all

@[simp] theorem onTgt_cfg (d : Device) (i j : SiteId) (f : Targets → Targets) :
    ((d.onTgt i f).site j).cfg = (d.site j).cfg := by
  unfold Device.onTgt; rw [site_onSite]; split <;> simp_all
@[simp] theorem onTgt_tone (d : Device) (i j : SiteId) (f : Targets → Targets) :
    ((d.onTgt i f).site j).tone = (d.site j).tone := by
  unfold Device.onTgt; rw [site_onSite]; split <;> simp_all
@[simp] theorem onTgt_q (d : Device) (i j : SiteId) (f : Targets → Targets) :
    ((d.onTgt i f).site j).q = (d.site j).q := by
  unfold Device.onTgt; rw [site_onSite]; split <;> simp_all
@[simp] theorem onTgt_win (d : Device) (i j : SiteId) (f : Targets → Targets) :
    ((d.onTgt i f).site j).win = (d.site j).win := by
  unfold Device.onTgt; rw [site_onSite]; split <;> simp_all
@[simp] theorem onTgt_pace (d : Device) (i j : SiteId) (f : Targets → Targets) :
    ((d.onTgt i f).site j).pace = (d.site j).pace := by
  unfold Device.onTgt; rw [site_onSite]; split <;> simp_all
@[simp] theorem onTgt_halt (d : Device) (i j : SiteId) (f : Targets → Targets) :
    ((d.onTgt i f).site j).halt = (d.site j).halt := by
  unfold Device.onTgt; rw [site_onSite]; split <;> simp_all

@[simp] theorem onPace_cfg (d : Device) (i j : SiteId) (f : Pacer → Pacer) :
    ((d.onPace i f).site j).cfg = (d.site j).cfg := by
  unfold Device.onPace; rw [site_onSite]; split <;> simp_all
@[simp] theorem onPace_tone (d : Device) (i j : SiteId) (f : Pacer → Pacer) :
    ((d.onPace i f).site j).tone = (d.site j).tone := by
  unfold Device.onPace; rw [site_onSite]; split <;> simp_all
@[simp] theorem onPace_tgt (d : Device) (i j : SiteId) (f : Pacer → Pacer) :
    ((d.onPace i f).site j).tgt = (d.site j).tgt := by
  unfold Device.onPace; rw [site_onSite]; split <;> simp_all
@[simp] theorem onPace_q (d : Device) (i j : SiteId) (f : Pacer → Pacer) :
    ((d.onPace i f).site j).q = (d.site j).q := by
  unfold Device.onPace; rw [site_onSite]; split <;> simp_all
@[simp] theorem onPace_win (d : Device) (i j : SiteId) (f : Pacer → Pacer) :
    ((d.onPace i f).site j).win = (d.site j).win := by
  unfold Device.onPace; rw [site_onSite]; split <;> simp_all
@[simp] theorem onPace_halt (d : Device) (i j : SiteId) (f : Pacer → Pacer) :
    ((d.onPace i f).site j).halt = (d.site j).halt := by
  unfold Device.onPace; rw [site_onSite]; split <;> simp_all

/-! ## Page table -/

/-- A record found by its identity has that identity and is in the table. -/
theorem record_some {d : Device} {u : Nat} {v : PageVersion} (h : d.record u = some v) : v.uid = u ∧ v ∈ d.table :=
  ⟨by simpa using List.find?_some h, List.mem_of_find?_eq_some h⟩

/-- A record found by its key and version has them and is in the table. -/
theorem lookup_some {d : Device} {k : PageKey} {n : Nat} {v : PageVersion} (h : d.lookup k n = some v) :
    v.key = k ∧ v.version = n ∧ v ∈ d.table := by
  have := List.find?_some h
  simp at this
  exact ⟨this.1, this.2, List.mem_of_find?_eq_some h⟩

/-! ## Outcomes -/

@[simp] theorem onDevice_next (f : Device → Device) (s : State) : onDevice f s = .next { s with dev := f s.dev } := rfl

end Sys2Proof.Laws
end

