-- ==== Sys2Proof/Laws/Setting.lean ====
section
/-!
SUPPORT. For each shared operation, the one lemma that says what it leaves as it is: `Device.KeepsSetting`. The
timers, conditions, postings, cancellations, page starts, enqueues, releases, grants and transmissions keep it; so does
the asking of the arbiters that ends a step.
-/

namespace Sys2Proof.Laws
open Sys2Proof.Machine

/-! ## Closure -/

/-- Nothing changed. -/
theorem site_refl (a : Site) : a.KeepsSetting a := ⟨rfl, rfl, rfl, rfl, rfl, rfl⟩

/-- One change after another. -/
theorem site_trans {a b c : Site} (h : a.KeepsSetting b) (k : b.KeepsSetting c) : a.KeepsSetting c :=
  ⟨k.cfg.trans h.cfg, k.offsets.trans h.offsets, k.pending.trans h.pending, k.active.trans h.active,
    k.staged.trans h.staged, k.eCur.trans h.eCur⟩

/-- Nothing changed. -/
theorem keeps_refl (d : Device) : d.KeepsSetting d :=
  ⟨rfl, rfl, rfl, rfl, rfl, rfl, rfl, rfl, fun _ => site_refl _, fun _ => ⟨rfl, rfl, rfl⟩⟩

/-- One change after another. -/
theorem keeps_trans {d e f : Device} (h : d.KeepsSetting e) (k : e.KeepsSetting f) : d.KeepsSetting f :=
  ⟨k.base.trans h.base, k.store.trans h.store, k.buffers.trans h.buffers, k.arrivals.trans h.arrivals,
    k.cmds.trans h.cmds, k.replies.trans h.replies, k.linkUp.trans h.linkUp, k.overrun.trans h.overrun,
    fun i => site_trans (h.site i) (k.site i),
    fun p => ⟨(k.port p).active.trans (h.port p).active, (k.port p).staged.trans (h.port p).staged,
      (k.port p).remaining.trans (h.port p).remaining⟩⟩

/-- One change before another. -/
theorem keeps_after {d e f : Device} (k : e.KeepsSetting f) (h : d.KeepsSetting e) : d.KeepsSetting f :=
  keeps_trans h k

/-- A fold keeps it when each of its steps does. -/
theorem keeps_foldl {α : Type} (l : List α) (f : Device → α → Device) (h : ∀ (d : Device) (a : α), d.KeepsSetting (f d a))
    (d : Device) : d.KeepsSetting (l.foldl f d) := by
  induction l generalizing d with
  | nil => exact keeps_refl d
  | cons a l ih => exact keeps_trans (h d a) (ih _)

/-- A thing done at every site keeps it when it does at each. -/
theorem keeps_forSites {f : SiteId → Device → Device} (h : ∀ (i : SiteId) (d : Device), d.KeepsSetting (f i d)) (d : Device) :
    d.KeepsSetting (forSites f d) := keeps_foldl _ _ (fun d i => h i d) d

/-- A thing done at every port keeps it when it does at each. -/
theorem keeps_forPorts {f : PortId → Device → Device} (h : ∀ (p : PortId) (d : Device), d.KeepsSetting (f p d)) (d : Device) :
    d.KeepsSetting (forPorts f d) := keeps_foldl _ _ (fun d p => h p d) d

/-! ## Single changes -/

/-- A change of one site that keeps its setting. -/
theorem keeps_onSite (d : Device) (i : SiteId) {f : Site → Site} (h : ∀ st : Site, st.KeepsSetting (f st)) :
    d.KeepsSetting (d.onSite i f) :=
  ⟨rfl, rfl, rfl, rfl, rfl, rfl, rfl, rfl, fun j => by
    rw [site_onSite]
    by_cases hj : j = i
    · subst hj; simpa using h _
    · simpa [hj] using site_refl _, fun _ => ⟨rfl, rfl, rfl⟩⟩

theorem keeps_onWin (d : Device) (i : SiteId) (f : Window → Window) : d.KeepsSetting (d.onWin i f) :=
  keeps_onSite d i fun _ => ⟨rfl, rfl, rfl, rfl, rfl, rfl⟩

theorem keeps_onQueue (d : Device) (i : SiteId) (f : SiteQueue → SiteQueue) : d.KeepsSetting (d.onQueue i f) :=
  keeps_onSite d i fun _ => ⟨rfl, rfl, rfl, rfl, rfl, rfl⟩

theorem keeps_onTone (d : Device) (i : SiteId) {f : Tone → Tone} (h : ∀ t, (f t).pending = t.pending) :
    d.KeepsSetting (d.onTone i f) := keeps_onSite d i fun _ => ⟨rfl, rfl, h _, rfl, rfl, rfl⟩

theorem keeps_onTgt (d : Device) (i : SiteId) {f : Targets → Targets} (h : ∀ t, (f t).offsets = t.offsets) :
    d.KeepsSetting (d.onTgt i f) := keeps_onSite d i fun _ => ⟨rfl, h _, rfl, rfl, rfl, rfl⟩

theorem keeps_onTarget (d : Device) (i : SiteId) (k : Stock) (f : TargetRecord → TargetRecord) :
    d.KeepsSetting (d.onTarget i k f) := keeps_onTgt d i fun _ => rfl

theorem keeps_onPace (d : Device) (i : SiteId) {f : Pacer → Pacer}
    (h : ∀ p, (f p).active = p.active ∧ (f p).staged = p.staged ∧ (f p).eCur = p.eCur) :
    d.KeepsSetting (d.onPace i f) := keeps_onSite d i fun _ => ⟨rfl, rfl, rfl, (h _).1, (h _).2.1, (h _).2.2⟩

theorem keeps_onPort (d : Device) (p : PortId) {f : Port → Port}
    (h : ∀ x, (f x).active = x.active ∧ (f x).staged = x.staged ∧ (f x).remaining = x.remaining) :
    d.KeepsSetting (d.onPort p f) :=
  ⟨rfl, rfl, rfl, rfl, rfl, rfl, rfl, rfl, fun _ => site_refl _, fun q => by
    rw [port_onPort]
    by_cases hq : q = p
    · subst hq; simpa using ⟨(h _).1, (h _).2.1, (h _).2.2⟩
    · simpa [hq] using ⟨rfl, rfl, rfl⟩⟩

/-- A change that leaves base, store, sites, ports and the intake side of the feed port as they are. -/
theorem keeps_of {d e : Device} (hb : e.base = d.base) (hs : e.store = d.store) (hi : e.sites = d.sites)
    (hp : e.ports = d.ports) (hf : e.feed = d.feed) : d.KeepsSetting e :=
  ⟨hb, hs, by rw [hf], by rw [hf], by rw [hf], by rw [hf], by rw [hf], by rw [hf],
    fun i => by unfold Device.site; rw [hi]; exact site_refl _,
    fun p => by unfold Device.port; rw [hp]; exact ⟨rfl, rfl, rfl⟩⟩

theorem keeps_onRecord (d : Device) (u : Nat) (f : PageVersion → PageVersion) : d.KeepsSetting (d.onRecord u f) :=
  keeps_of rfl rfl rfl rfl rfl

theorem keeps_onDelivery (d : Device) (u : Nat) (i : SiteId) (f : DeliveryRecord → DeliveryRecord) :
    d.KeepsSetting (d.onDelivery u i f) := keeps_of rfl rfl rfl rfl rfl

theorem keeps_markIf (d : Device) (f : Preparation → Bool) : d.KeepsSetting (d.markIf f) :=
  keeps_of rfl rfl rfl rfl rfl

theorem keeps_markSite (d : Device) (i : SiteId) : d.KeepsSetting (d.markSite i) := keeps_of rfl rfl rfl rfl rfl

theorem keeps_builderIdle (d : Device) : d.KeepsSetting d.builderIdle := keeps_of rfl rfl rfl rfl rfl

/-! ## The outbound feed -/

/-- What the outbound side of the feed port leaves of the inbound side and of the reply queue. -/
theorem feedAsk_keeps (f : Feed) :
    (feedAsk f).buffers = f.buffers ∧ (feedAsk f).arrivals = f.arrivals ∧ (feedAsk f).cmds = f.cmds ∧
      (feedAsk f).replies = f.replies ∧ (feedAsk f).linkUp = f.linkUp ∧ (feedAsk f).overrun = f.overrun := by
  unfold feedAsk
  repeat' split
  all_goals exact ⟨rfl, rfl, rfl, rfl, rfl, rfl⟩

/-- The same of an event that joins or is lost. -/
theorem joinEvent_keeps (e : Event) (f : Feed) :
    (joinEvent e f).buffers = f.buffers ∧ (joinEvent e f).arrivals = f.arrivals ∧ (joinEvent e f).cmds = f.cmds ∧
      (joinEvent e f).replies = f.replies ∧ (joinEvent e f).linkUp = f.linkUp ∧
      (joinEvent e f).overrun = f.overrun := by
  unfold joinEvent
  split
  · exact feedAsk_keeps _
  · exact ⟨rfl, rfl, rfl, rfl, rfl, rfl⟩

theorem keeps_event (d : Device) (e : Event) : d.KeepsSetting (d.event e) := by
  obtain ⟨h1, h2, h3, h4, h5, h6⟩ := joinEvent_keeps e d.feed
  exact ⟨rfl, rfl, h1, h2, h3, h4, h5, h6, fun _ => site_refl _, fun _ => ⟨rfl, rfl, rfl⟩⟩

theorem keeps_eventIf (d : Device) (b : Bool) (e : Event) : d.KeepsSetting (d.eventIf b e) := by
  cases b
  · exact keeps_of rfl rfl rfl rfl rfl
  · exact keeps_event d e

/-! ## Timers and conditions -/

theorem keeps_syncTimers (i : SiteId) (d : Device) : d.KeepsSetting (syncTimers i d) :=
  keeps_onSite d i fun _ => ⟨rfl, rfl, rfl, rfl, rfl, rfl⟩

theorem keeps_startAck (i : SiteId) (d : Device) : d.KeepsSetting (startAck i d) :=
  keeps_onSite d i fun _ => ⟨rfl, rfl, rfl, rfl, rfl, rfl⟩

theorem keeps_haltSite (i : SiteId) (det : CondDetails) (d : Device) : d.KeepsSetting (haltSite i det d) :=
  keeps_after (keeps_syncTimers i _) (keeps_onSite d i fun _ => ⟨rfl, rfl, rfl, rfl, rfl, rfl⟩)

theorem keeps_raise (i : SiteId) (det : CondDetails) (d : Device) : d.KeepsSetting (raise i det d) := by
  unfold raise
  simp only
  split
  · exact keeps_refl d
  · exact keeps_trans (keeps_event d _) (keeps_haltSite i det _)
  · exact keeps_event d _
  · exact keeps_event d _

/-! ## Control lists and targets -/

theorem keeps_appendControl (i : SiteId) (e : ControlEntry) (d : Device) : d.KeepsSetting (appendControl i e d) :=
  keeps_onQueue d i _

theorem keeps_postCancel (i : SiteId) (key : PageKey) (n : Nat) (r : CancelReason) (d : Device) :
    d.KeepsSetting (postCancel i key n r d) := by
  unfold postCancel
  repeat' split
  · exact keeps_refl d
  · exact keeps_appendControl i _ d
  · exact keeps_raise i _ d

theorem keeps_postNotAvail (i : SiteId) (pos : Position) (r : NotAvailReason) (d : Device) :
    d.KeepsSetting (postNotAvail i pos r d) := by
  unfold postNotAvail
  repeat' split
  · exact keeps_refl d
  · exact keeps_appendControl i _ d
  · exact keeps_raise i _ d

theorem keeps_postProduced (i : SiteId) (k : Stock) (gen : Byte) (a : Aims) (d : Device) :
    d.KeepsSetting (postProduced i k gen a d) := by
  unfold postProduced
  simp only
  repeat' split
  · exact keeps_trans (keeps_onQueue d i _) (keeps_markIf _ _)
  · exact keeps_trans (keeps_onTarget d i k _) (keeps_appendControl i _ _)
  · exact keeps_onTarget d i k _

theorem keeps_produce (i : SiteId) (k : Stock) (d : Device) : d.KeepsSetting (produce i k d) := by
  unfold produce
  simp only
  split
  · exact keeps_refl d
  · exact keeps_trans (keeps_onTarget d i k _) (keeps_postProduced i k _ _ _)

theorem keeps_postOwedStock (i : SiteId) (k : Stock) (d : Device) : d.KeepsSetting (postOwedStock i k d) := by
  unfold postOwedStock
  simp only
  split
  · exact keeps_trans (keeps_onTarget d i k _) (keeps_appendControl i _ _)
  · exact keeps_refl d

theorem keeps_postOwed (i : SiteId) (d : Device) : d.KeepsSetting (postOwed i d) :=
  keeps_foldl _ _ (fun d k => keeps_postOwedStock i k d) d

theorem keeps_oweUnacknowledged (i : SiteId) (d : Device) : d.KeepsSetting (oweUnacknowledged i d) := by
  refine keeps_trans (keeps_foldl _ _ (fun d k => ?_) d) (keeps_postOwed i _)
  repeat' split
  · exact keeps_refl d
  · exact keeps_refl d
  · exact keeps_onTarget d i k _

theorem keeps_setGate (i : SiteId) (g : Gate) (d : Device) : d.KeepsSetting (setGate i g d) :=
  keeps_onTgt d i fun _ => rfl

theorem keeps_applyTarget (i : SiteId) (k : Stock) (gen : Byte) (d : Device) :
    d.KeepsSetting (applyTarget i k gen d) := by
  unfold applyTarget
  simp only
  split
  · exact keeps_trans (keeps_trans (keeps_onTarget d i k _) (keeps_event _ _)) (keeps_onTgt _ i fun _ => rfl)
  · exact keeps_trans (keeps_onTarget d i k _) (keeps_event _ _)

/-! ## Deliveries -/

theorem keeps_retain (u : Nat) (d : Device) : d.KeepsSetting (retain u d) := by
  unfold retain
  split
  · exact keeps_refl d
  · exact keeps_of rfl rfl rfl rfl rfl

theorem keeps_deliveredCheck (u : Nat) (d : Device) : d.KeepsSetting (deliveredCheck u d) := by
  unfold deliveredCheck
  repeat' split
  · exact keeps_trans (keeps_trans (keeps_onRecord d u _) (keeps_retain u _)) (keeps_event _ _)
  · exact keeps_refl d
  · exact keeps_refl d

theorem keeps_finalRecord (u : Nat) (i : SiteId) (st : DeliveryState) (c : Option Condition) (d : Device) :
    d.KeepsSetting (finalRecord u i st c d) :=
  keeps_trans (keeps_onDelivery d u i _) (keeps_deliveredCheck u _)

theorem keeps_cancelCurrent (i : SiteId) (c : Delivery) (cause : CancelCause) (d : Device) :
    d.KeepsSetting (cancelCurrent i c cause d) := by
  unfold cancelCurrent
  have h := keeps_trans (keeps_onWin d i fun w => w.cancelled c.id)
    (keeps_markIf _ fun p => decide (p.site = i) && decide (p.job.delivery = some c.id))
  simp only
  split
  · exact keeps_trans (keeps_trans (keeps_trans h (keeps_postCancel i _ _ _ _)) (keeps_onQueue _ i _))
      (keeps_finalRecord _ _ _ _ _)
  · exact keeps_trans (keeps_trans h (keeps_onQueue _ i _)) (keeps_finalRecord _ _ _ _ _)

theorem keeps_cancelQueued (i : SiteId) (u : Nat) (d : Device) : d.KeepsSetting (cancelQueued i u d) :=
  keeps_trans (keeps_onQueue d i _) (keeps_finalRecord _ _ _ _ _)

theorem keeps_cancelDelivery (i : SiteId) (u : Nat) (cause : CancelCause) (d : Device) :
    d.KeepsSetting (cancelDelivery i u cause d) := by
  unfold cancelDelivery
  repeat' split
  all_goals first
    | exact keeps_cancelCurrent _ _ _ _
    | exact keeps_cancelQueued _ _ _
    | exact keeps_refl d

theorem keeps_cancelAll (u : Nat) (cause : CancelCause) (d : Device) : d.KeepsSetting (cancelAll u cause d) := by
  refine keeps_forSites (fun i d => ?_) d
  repeat' split
  · exact keeps_refl d
  · exact keeps_cancelDelivery i u cause d
  · exact keeps_refl d

theorem keeps_switchCurves (i : SiteId) (a : Arm) (b : Bool) (d : Device) : d.KeepsSetting (switchCurves i a b d) := by
  unfold switchCurves
  simp only
  split
  · exact keeps_after (keeps_event _ _) (keeps_onTone d i fun _ => rfl)
  · exact keeps_onTone d i fun _ => rfl

theorem keeps_takeHead (i : SiteId) (d : Device) : d.KeepsSetting (takeHead i d) := by
  unfold takeHead
  split
  · exact keeps_after (keeps_onDelivery _ _ i _) (keeps_after (keeps_onQueue _ i _) (keeps_of rfl rfl rfl rfl rfl))
  · exact keeps_refl d

theorem keeps_lookPageStart (i : SiteId) (d : Device) : d.KeepsSetting (lookPageStart i d) := by
  unfold lookPageStart
  simp only
  repeat' split
  · exact keeps_takeHead i d
  · exact keeps_trans (keeps_trans (keeps_setGate i _ d) (keeps_switchCurves i _ _ _)) (keeps_takeHead i _)
  · exact keeps_setGate i _ d
  · exact keeps_refl d
  · exact keeps_trans (keeps_trans (keeps_setGate i _ d) (keeps_switchCurves i _ _ _)) (keeps_takeHead i _)
  · exact keeps_trans (keeps_switchCurves i _ _ d) (keeps_takeHead i _)
  · exact keeps_refl d

theorem keeps_enqueue (i : SiteId) (r : PageRef) (c : DeliveryClass) (seps : SepSet) (d : Device) :
    d.KeepsSetting (enqueue i r c seps d) :=
  keeps_after (keeps_lookPageStart i _)
    (keeps_after (keeps_onDelivery _ _ i _) (keeps_after (keeps_onQueue _ i _) (keeps_of rfl rfl rfl rfl rfl)))

theorem keeps_endDelivery (i : SiteId) (id : Nat) (d : Device) : d.KeepsSetting (endDelivery i id d) := by
  unfold endDelivery
  repeat' split
  all_goals first
    | exact keeps_refl d
    | exact keeps_trans (keeps_trans (keeps_trans (keeps_onDelivery d _ i _) (keeps_onQueue _ i _)) (keeps_event _ _))
        (keeps_deliveredCheck _ _)

/-! ## Reclaim and the builder -/

theorem keeps_removeVersion (v : PageVersion) (c : ReclaimCause) (d : Device) :
    d.KeepsSetting (removeVersion v c d) := keeps_after (keeps_event _ _) (keeps_of rfl rfl rfl rfl rfl)

theorem keeps_reclaimForArea (n : Fin 8) (u : Nat) (d : Device) : d.KeepsSetting (reclaimForArea n u d) := by
  unfold reclaimForArea
  split
  · exact keeps_removeVersion _ _ d
  · exact keeps_refl d

theorem keeps_allocate (n : Fin 8) (u : Nat) (d : Device) : d.KeepsSetting (allocate n u d).1 := by
  unfold allocate
  split
  · exact keeps_refl d
  · exact keeps_reclaimForArea n u d

theorem keeps_storeErrorAt (i : SiteId) (j : PlateJob) (d : Device) : d.KeepsSetting (storeErrorAt i j d) := by
  unfold storeErrorAt
  simp only
  repeat' split
  all_goals first
    | exact keeps_trans (keeps_raise i _ d) (keeps_cancelCurrent i _ _ _)
    | exact keeps_raise i _ d

theorem keeps_grant (i : SiteId) (k : Fin 16) (job : Job) (d : Device) : d.KeepsSetting (grant i k job d) := by
  unfold grant
  simp only
  repeat' split
  · exact keeps_after (keeps_storeErrorAt i _ _) (keeps_of rfl rfl rfl rfl rfl)
  · exact keeps_of rfl rfl rfl rfl rfl
  · exact keeps_of rfl rfl rfl rfl rfl

theorem keeps_grantRounds (n : Nat) (d : Device) : d.KeepsSetting (grantRounds n d) := by
  induction n generalizing d with
  | zero => exact keeps_refl d
  | succ n ih =>
    unfold grantRounds
    repeat' split
    all_goals first
      | exact keeps_refl d
      | exact keeps_trans (keeps_grant _ _ _ d) (ih _)

theorem keeps_askBuilder (d : Device) : d.KeepsSetting (askBuilder d) := keeps_grantRounds 9 d

/-! ## Ports -/

theorem keeps_gaugeEnd (i : SiteId) (d : Device) : d.KeepsSetting (gaugeEnd i d) := by
  unfold gaugeEnd
  simp only
  repeat' split
  · exact keeps_onPace d i fun _ => ⟨rfl, rfl, rfl⟩
  · exact keeps_after (keeps_event _ _) (keeps_onPace d i fun _ => ⟨rfl, rfl, rfl⟩)
  · exact keeps_refl d

theorem keeps_sendRank (p : PortId) (i : SiteId) (r : Rank) (d : Device) : d.KeepsSetting (sendRank p i r d) := by
  unfold sendRank
  simp only
  split
  · exact keeps_onPort d p fun _ => ⟨rfl, rfl, rfl⟩
  · exact keeps_after (keeps_onPort _ p fun _ => ⟨rfl, rfl, rfl⟩)
      (keeps_after (keeps_eventIf _ _ _) (keeps_of rfl rfl rfl rfl rfl))

theorem keeps_ackAtStart (i : SiteId) (w : Window) (o : Offer) (d : Device) : d.KeepsSetting (ackAtStart i w o d) := by
  unfold ackAtStart
  repeat' split
  all_goals first
    | exact keeps_startAck i d
    | exact keeps_refl d

theorem keeps_beginTransmission (p : PortId) (i : SiteId) (o : Offer) (d : Device) :
    d.KeepsSetting (beginTransmission p i o d) := by
  unfold beginTransmission
  simp only
  split
  · exact keeps_refl d
  · refine keeps_after (keeps_sendRank p i _ _) (keeps_after (keeps_ackAtStart i _ o _) (keeps_after (keeps_gaugeEnd i _)
      (keeps_after (keeps_onPace _ i fun p => ?_) (keeps_after (keeps_onPace _ i fun _ => ⟨rfl, rfl, rfl⟩)
        (keeps_onWin d i _)))))
    unfold Pacer.counted
    repeat' split
    all_goals exact ⟨rfl, rfl, rfl⟩

theorem keeps_askPort (p : PortId) (d : Device) : d.KeepsSetting (askPort p d) := by
  unfold askPort
  repeat' split
  all_goals first
    | exact keeps_refl d
    | exact keeps_beginTransmission p _ _ d

/-- The asking of the builder and the ports at the end of a step keeps every setting. -/
theorem keeps_arbitrate (d : Device) : d.KeepsSetting (arbitrate d) :=
  keeps_trans (keeps_trans (keeps_askBuilder d) (keeps_forPorts keeps_askPort _)) (keeps_askBuilder _)

theorem keeps_becomeDisabled (i : SiteId) (d : Device) : d.KeepsSetting (becomeDisabled i d) :=
  keeps_trans (keeps_markSite d i) (keeps_onSite _ i fun _ => ⟨rfl, rfl, rfl, rfl, rfl, rfl⟩)

theorem keeps_endTransmission (p : PortId) (t : Transmission) (d : Device) :
    d.KeepsSetting (endTransmission p t d) := by
  unfold endTransmission
  have h1 := keeps_onPort d p (f := fun x => { x with tx := none }) fun _ => ⟨rfl, rfl, rfl⟩
  have h2 : ∀ e : Device, e.KeepsSetting (e.onSite t.site fun st =>
      { st with pace := st.pace.startGap st.cfg.gapLength }) := fun e => keeps_onSite e t.site fun st => by
    unfold Pacer.startGap
    split <;> exact ⟨rfl, rfl, rfl, rfl, rfl, rfl⟩
  simp only
  repeat' split
  all_goals first
    | exact keeps_trans (keeps_trans h1 (h2 _)) (keeps_becomeDisabled _ _)
    | exact keeps_trans h1 (keeps_becomeDisabled _ _)
    | exact keeps_trans h1 (h2 _)
    | exact h1

end Sys2Proof.Laws
end

