-- ==== Sys2Proof/Laws/Commands.lean ====
section
/-!
SUPPORT. What the reading of operands, the demultiplexing of return frames and the taking of a command come to: the
lemmas a statement about one command cites instead of unfolding the feed port.
-/

namespace Sys2Proof.Laws
open Sys2Proof.Machine

/-! ## Operands -/

/-- A byte that names one of eight things is that one. -/
theorem eightOf_of {b : Byte} {i : Fin 8} (h : b.toNat = i.val) : eightOf b = some i := by
  unfold eightOf
  rw [dif_pos (by omega)]
  exact congrArg some (Fin.ext h)

/-- A byte above seven names none. -/
theorem eightOf_none {b : Byte} (h : 8 ≤ b.toNat) : eightOf b = none := by
  unfold eightOf; exact dif_neg (by omega)

/-- A byte that names one of four things is that one. -/
theorem fourOf_of {b : Byte} {i : Fin 4} (h : b.toNat = i.val) : fourOf b = some i := by
  unfold fourOf
  rw [dif_pos (by omega)]
  exact congrArg some (Fin.ext h)

/-- A byte above three names none. -/
theorem fourOf_none {b : Byte} (h : 4 ≤ b.toNat) : fourOf b = none := by
  unfold fourOf; exact dif_neg (by omega)

/-- A byte that names an edition is that one. -/
theorem editionOf_of {b : Byte} {i : Fin 16} (h : b.toNat = i.val) : editionOf b = some i := by
  unfold editionOf
  rw [dif_pos (by omega)]
  exact congrArg some (Fin.ext h)

/-- A byte above fifteen names no edition. -/
theorem editionOf_none {b : Byte} (h : 16 ≤ b.toNat) : editionOf b = none := by
  unfold editionOf; exact dif_neg (by omega)

/-- A 16-bit port field that names a port is that one (R159). -/
theorem portOf_of {b : Half} {i : PortId} (h : b.toNat = i.val) : portOf b = some i := by
  unfold portOf
  rw [dif_pos (by omega)]
  exact congrArg some (Fin.ext h)

/-! ## Return frames -/

/-- The frame check of a return frame as a Boolean (R151, R203). -/
theorem returnPasses_of {f : ReturnFrame} {kind : Byte} {fields : List Byte} {len : Nat}
    (h : ReturnPasses f kind fields) (hl : fields.length = len) : returnPasses f kind len = true := by
  obtain ⟨hk, hf, hn, hc⟩ := h
  unfold returnPasses
  simp only [Bool.and_eq_true, decide_eq_true_eq]
  exact ⟨⟨⟨hk, by rw [hn, hl]⟩, by rw [hf, hl]⟩, hc⟩

/-- The first site of the list of eight that meets a test. -/
theorem find_site {test : SiteId → Bool} {i : SiteId} (h : test i = true) (hb : ∀ j : SiteId, j < i → test j = false) :
    allSites.find? test = some i := by
  have e : ∀ j : SiteId, j < i → ¬ test j = true := fun j hj => by simp [hb j hj]
  unfold allSites
  match i, h, e with
  | 0, h, e => simp [List.find?, h]
  | 1, h, e => simp [List.find?, h, e 0 (by decide)]
  | 2, h, e => simp [List.find?, h, e 0 (by decide), e 1 (by decide)]
  | 3, h, e => simp [List.find?, h, e 0 (by decide), e 1 (by decide), e 2 (by decide)]
  | 4, h, e => simp [List.find?, h, e 0 (by decide), e 1 (by decide), e 2 (by decide), e 3 (by decide)]
  | 5, h, e =>
    simp [List.find?, h, e 0 (by decide), e 1 (by decide), e 2 (by decide), e 3 (by decide), e 4 (by decide)]
  | 6, h, e =>
    simp [List.find?, h, e 0 (by decide), e 1 (by decide), e 2 (by decide), e 3 (by decide), e 4 (by decide),
      e 5 (by decide)]
  | 7, h, e =>
    simp [List.find?, h, e 0 (by decide), e 1 (by decide), e 2 (by decide), e 3 (by decide), e 4 (by decide),
      e 5 (by decide), e 6 (by decide)]

/-- A return frame is demultiplexed to the site it names (R151). -/
theorem siteOn_of {d : Device} {p : PortId} {code : Half} {i : SiteId} (h : d.Names p code i) :
    d.siteOn p code = some i := by
  obtain ⟨hp, hc, hb⟩ := h
  refine find_site (by simp [hp, hc]) fun j hj => ?_
  by_cases hjp : (d.site j).cfg.port = p
  · simp [hb j hj hjp]
  · simp [hjp]

/-- A frame whose code no site mapped to the port has is demultiplexed to none (R151). -/
theorem siteOn_none {d : Device} {p : PortId} {code : Half}
    (h : ∀ i : SiteId, (d.site i).cfg.port = p → (d.site i).cfg.code ≠ code) : d.siteOn p code = none := by
  unfold Device.siteOn
  rw [List.find?_eq_none]
  intro i _
  by_cases hp : (d.site i).cfg.port = p
  · simp [h i hp]
  · simp [hp]

/-! ## The command unit -/

/-- A command that arrives when none waits and the reply queue has room is taken at once (R193, R195). -/
theorem submit_ready {d : Device} (h : d.feed.Ready) (q : QueuedCommand) : submit q d = answerCommand q d := by
  obtain ⟨hl, hc, hr⟩ := h
  obtain ⟨base, oc, table, ret, rc, store, sites, builder, ports, feed, serial, free⟩ := d
  obtain ⟨buffers, arrivals, cmds, replies, events, overflow, overrun, linkUp, tx⟩ := feed
  simp only at hl hc hr
  subst hl hc
  simp [submit, takeCommand, Config.commandCapacity, Config.replyCapacity, hr]

/-- What a command row answers then: the command's effect with its reply placed (R195, R196). -/
theorem onCommand_ready {s : State} (h : s.dev.feed.Ready) (tag : Byte) (c : Command) :
    onCommand tag c s = .next { s with dev :=
      ((applyCommand c s.dev).1.reply { tag := tag, code := c.code, answer := (applyCommand c s.dev).2 }) } := by
  unfold onCommand onDevice
  rw [submit_ready h]
  rfl

/-! ## The arbiters -/

/-- A builder with a preparation in flight grants nothing (R92). -/
theorem askBuilder_busy {d : Device} {p : Preparation} (h : d.builder.inFlight = some p) : askBuilder d = d := by
  simp [askBuilder, grantRounds, h]

/-- A port that sends begins nothing (R168). -/
theorem askPort_busy {p : PortId} {d : Device} {t : Transmission} (h : (d.port p).tx = some t) : askPort p d = d := by
  simp [askPort, h]

/-- With the builder and every port busy the asking at the end of a step changes nothing. -/
theorem arbitrate_busy {d : Device} {p : Preparation} (h : d.builder.inFlight = some p)
    (hp : ∀ q : PortId, ∃ t, (d.port q).tx = some t) : arbitrate d = d := by
  obtain ⟨t0, h0⟩ := hp 0
  obtain ⟨t1, h1⟩ := hp 1
  obtain ⟨t2, h2⟩ := hp 2
  obtain ⟨t3, h3⟩ := hp 3
  simp [arbitrate, forPorts, allFour, askBuilder_busy h, askPort_busy h0, askPort_busy h1, askPort_busy h2,
    askPort_busy h3]

/-- The store at power-on is in canonical form. -/
theorem reset_store_wf : Memory.wf State.reset.dev.store := ⟨List.Pairwise.nil, fun c hc => by cases hc⟩

end Sys2Proof.Laws
end

