-- ==== Sys2Proof/Laws/Store.lean ====
section
/-!
SUPPORT. The laws of the plate store's memory: every operation keeps the canonical form, a byte read after a write is
the byte written, and a write leaves every other byte as it was.
-/

namespace Sys2Proof.Laws
open Sys2Proof.Machine

/-- Every address listed after a canonical memory's first entry is above it. -/
theorem wf_cons {c : Host.Cell} {m : Memory} (h : Memory.wf (c :: m)) :
    c.2 ≠ 0 ∧ (∀ x ∈ m, c.1 < x.1) ∧ Memory.wf m := by
  obtain ⟨hp, hz⟩ := h
  rw [List.pairwise_cons] at hp
  exact ⟨hz _ (List.mem_cons_self), hp.1, hp.2, fun x hx => hz _ (List.mem_cons_of_mem _ hx)⟩

/-- The addresses a write lists are those listed before and the one written. -/
theorem mem_memWrite {m : Memory} {x : Nat} {v : Byte} {c : Host.Cell} (h : c ∈ memWrite m x v) :
    c ∈ m ∨ c = (x, v) := by
  induction m with
  | nil => simp only [memWrite] at h; split at h <;> simp_all
  | cons p m ih =>
    obtain ⟨a, b⟩ := p
    simp only [memWrite] at h
    repeat' split at h
    all_goals simp_all
    all_goals grind

/-- A write keeps the canonical form. -/
theorem memWrite_wf {m : Memory} (x : Nat) (v : Byte) (h : Memory.wf m) : Memory.wf (memWrite m x v) := by
  induction m with
  | nil => simp only [memWrite]; split <;> simp_all [Memory.wf]
  | cons p m ih =>
    obtain ⟨a, b⟩ := p
    obtain ⟨hb, hlt, hm⟩ := wf_cons h
    simp only [memWrite]
    split
    · split
      · exact h
      · rename_i hx hv
        refine ⟨List.pairwise_cons.2 ⟨?_, h.1⟩, ?_⟩
        · intro c hc
          rcases List.mem_cons.1 hc with rfl | hc
          · exact hx
          · exact Nat.lt_trans hx (hlt c hc)
        · intro c hc
          rcases List.mem_cons.1 hc with rfl | hc
          · exact hv
          · exact h.2 c hc
    · split
      · split
        · exact hm
        · rename_i hx hv
          subst hx
          exact ⟨List.pairwise_cons.2 ⟨hlt, hm.1⟩, by
            intro c hc
            rcases List.mem_cons.1 hc with rfl | hc
            · exact hv
            · exact hm.2 c hc⟩
      · rename_i hge hne
        have ih := ih hm
        refine ⟨List.pairwise_cons.2 ⟨?_, ih.1⟩, ?_⟩
        · intro c hc
          rcases mem_memWrite hc with hc | rfl
          · exact hlt c hc
          · show a < x; omega
        · intro c hc
          rcases List.mem_cons.1 hc with rfl | hc
          · exact hb
          · exact ih.2 c hc

/-- An address below every listed one reads 0. -/
theorem memRead_below {m : Memory} {x : Nat} (h : ∀ c ∈ m, x < c.1) : memRead m x = 0 := by
  induction m with
  | nil => rfl
  | cons p m ih =>
    obtain ⟨a, b⟩ := p
    have : x < a := h (a, b) List.mem_cons_self
    simp only [memRead]
    rw [if_neg (by omega)]
    exact ih fun c hc => h c (List.mem_cons_of_mem _ hc)

/-- What a byte reads after a write to a canonical memory. -/
theorem memRead_memWrite {m : Memory} (h : Memory.wf m) (x y : Nat) (v : Byte) :
    memRead (memWrite m x v) y = if y = x then v else memRead m y := by
  induction m with
  | nil => simp only [memWrite]; split <;> simp_all [memRead]; all_goals grind
  | cons p m ih =>
    obtain ⟨a, b⟩ := p
    obtain ⟨-, hlt, hm⟩ := wf_cons h
    have ih := ih hm
    have hbelow : x < a → memRead m x = 0 := fun hx => memRead_below fun c hc => Nat.lt_trans hx (hlt c hc)
    have hat : memRead m a = 0 := memRead_below hlt
    simp only [memWrite]
    grind [memRead]

/-- Writing a list of bytes keeps the canonical form. -/
theorem writeBytes_wf (bs : List Byte) {m : Memory} (a : Nat) (h : Memory.wf m) : Memory.wf (writeBytes m a bs) := by
  induction bs generalizing m a with
  | nil => exact h
  | cons b bs ih => exact ih _ (memWrite_wf _ _ h)

/-- Writing a list of bytes leaves the bytes outside them as they were. -/
theorem memRead_writeBytes_outside (bs : List Byte) {m : Memory} {a x : Nat} (h : Memory.wf m)
    (hx : x < a ∨ a + bs.length ≤ x) : memRead (writeBytes m a bs) x = memRead m x := by
  induction bs generalizing m a with
  | nil => rfl
  | cons b bs ih =>
    simp only [List.length_cons] at hx
    simp only [writeBytes]
    rw [ih (memWrite_wf _ _ h) (by omega), memRead_memWrite h, if_neg (by omega)]

/-- A list of bytes written is read back. -/
theorem readBytes_writeBytes (bs : List Byte) {m : Memory} (a : Nat) (h : Memory.wf m) :
    readBytes (writeBytes m a bs) a bs.length = bs := by
  induction bs generalizing m a with
  | nil => rfl
  | cons b bs ih =>
    have hw := memWrite_wf a b h
    simp only [writeBytes, readBytes, List.length_cons]
    rw [memRead_writeBytes_outside bs hw (Or.inl (Nat.lt_succ_self a)), memRead_memWrite h, if_pos rfl, ih _ hw]

/-- A payload put into a cell keeps the canonical form. -/
theorem storePayload_wf {d : Device} (cell : Nat) (payload : List Byte) (h : Memory.wf d.store) :
    Memory.wf (storePayload cell payload d).store := writeBytes_wf _ _ h

end Sys2Proof.Laws
end

