-- ==== Sys2Proof/Tests/Slice0.lean ====
section
/-!
SUPPORT. The model's own tests: terms that `WellFormed` refuses, payloads and frames written out from section 10.6,
the manual's worked figures (sections 4.6 and 8.1, R204), one or two steps of a command, and for each statement that
has hypotheses a concrete state and operands that meet them (`witness_<statement>_<clause>`).
-/

namespace Sys2Proof.Tests
open Sys2Proof.Machine

-- one theorem at a time: each waits for the one before it, and a thread each would exceed the memory the build has
set_option Elab.async false

/-! ## Small states -/

/-- A part right after reset with site `i` changed. -/
def atSite (i : SiteId) (f : Site → Site) : State := { State.reset with dev := (Device.reset.onSite i f) }

/-- A part right after reset with site 0's window changed. -/
def atWin (f : Window → Window) : State := atSite 0 fun st => { st with win := f st.win }

/-- A window in a link state with ranks. -/
def window (link : LinkState) (ranks : List Rank) : Window :=
  { Window.reset with link := link, ranks := ranks, nextSeq := BitVec.ofNat 16 ranks.length }

/-- A block of 32 bytes. -/
def block (kind : BlockKind) (delivery : Option Nat) : Block :=
  { kind, slot := some 0, delivery, ident := Ident.zero, target := none, size := 32 }

/-- Rank with sequence number `n`. -/
def rank (n : Nat) (kind : BlockKind) : Rank := { seq := BitVec.ofNat 16 n, block := block kind none, pending := false }

/-- The runs of a band of four pixels: one run of tone 130. -/
def runs : List Byte := [3, 130]

/-- The key of page 1 of section 0 of edition 0, common, version 1. -/
def key1 : KeyField := { edition := 0, version := 1, sect := 0, page := 1, zone := 0 }

/-- The key of every version of that page. -/
def key0 : KeyField := { key1 with version := 0 }

/-- A band entry in cell 5. -/
def entry (fault : Bool) : BandEntry := { cell := 5, crc := crc32 runs, fault }

/-- Version 1 of page 1: four pixels, one line, separation K, its one band as given. -/
def page (state : VersionState) (e : Option BandEntry) : PageVersion :=
  { uid := 0, key := keyOf key1, version := 1, width := 4, height := 1, seps := 1, bands := #v[[e], [], [], []], area := 0,
    digest := e.elim 0 fun x => x.crc, releaseAt := none, latest := none, approval := none, state,
    records := Vector.replicate 8 DeliveryRecord.fresh, retained := none }

/-- An approval of a digest. -/
def approval (digest : Word) : Approval := { station := 1, expected := digest, approvedAt := none, checked := false }

/-- The part with one version in its page table. -/
def withPage (v : PageVersion) (d : Device) : Device := { d with table := [v], serial := 1 }

/-- That part as a state right after reset. -/
def atPage (v : PageVersion) : State := { State.reset with dev := (withPage v Device.reset) }

/-- The delivery of that page as the current one of a site, its cursor as given. -/
def delivery (cursor : Option (Sep × Nat)) : Delivery :=
  { id := 0, ref := { uid := 0, key := keyOf key1, version := 1 }, cls := .first, seps := 1, cursor, sent := 0, pageEnd := false }

/-- A queue entry of that page. -/
def queued (cls : DeliveryClass) : QueueEntry :=
  { ref := { uid := 0, key := keyOf key1, version := 1 }, cls, seps := 1, order := 0 }

/-- A whole feed frame (R205). -/
def feed (kind tag : Byte) (payload : List Byte) : FeedFrame :=
  { kind, tag, length := BitVec.ofNat 16 payload.length, payload,
    crc := crc32 (kind :: tag :: (halfBytes (BitVec.ofNat 16 payload.length) ++ payload)) }

/-- A band frame (R206). -/
def bandFrame (key : KeyField) (sep band : Byte) (crc : Word) (runs : List Byte) : FeedFrame :=
  feed 0x01 7 (key.bytes ++ (sep :: band :: (wordBytes crc ++ runs)))

/-- A return frame of site code 0 (R211). -/
def back (kind : Byte) (fields : List Byte) : ReturnFrame :=
  { kind, length := BitVec.ofNat 8 fields.length, code := 0, fields,
    crc := crc32 (kind :: BitVec.ofNat 8 fields.length :: (halfBytes 0 ++ fields)) }

/-- The part with `n` commands and `m` replies waiting. -/
def waiting (n m : Nat) : State :=
  { State.reset with dev := ({ Device.reset with feed := { Device.reset.feed with
      cmds := List.replicate n { tag := 1, cmd := .quiesce }
      replies := List.replicate m { tag := 1, code := 0x40, answer := { result := .ok } } } }) }

/-- The part with a band frame arriving into buffer 0, or into no buffer. -/
def arriving (b : Option (Fin 4)) (d : Device) : State :=
  { State.reset with dev := ({ d with feed := { d.feed with
      arrivals := [b], buffers := modifyAt d.feed.buffers 0 fun _ => .receiving } }) }

/-- A band write of page 1's band, in cell 5. -/
def write (repair : Bool) : BandWrite :=
  { tag := 7, ref := { uid := 0, key := keyOf key1, version := 1 }, sep := 0, band := 0, crc := crc32 runs, repair, cell := 5,
    payload := runs, ended := false, dayReset := false }

/-- The part with a band write in buffer 0. -/
def writing (w : BandWrite) (d : Device) : State :=
  { State.reset with dev := ({ d with feed := { d.feed with buffers := modifyAt d.feed.buffers 0 fun _ => .writing w } }) }

/-- The PLATE job of page 1's band. -/
def job : PlateJob :=
  { delivery := 0, ref := { uid := 0, key := keyOf key1, version := 1 }, sep := 0, band := 0, cell := 5, pixels := 4,
    curve := identityCurve, gain := 256, minDot := 0, maxDot := 255, solidHold := true, ident := Ident.zero }

/-- The preparation of that job for site 0. -/
def preparing (discard : Bool) : Preparation := { site := 0, slot := 0, job := .plate job, discard }

/-- The part with a preparation in flight. -/
def building (p : Preparation) (d : Device) : State :=
  { State.reset with dev := ({ d with builder := { d.builder with inFlight := some p } }) }

/-- The state an outcome goes on to. -/
def after (o : Host.Outcome State Fault Refusal) (s : State) : State :=
  match o with
  | .next t => t
  | .fault _ => s
  | .refused _ => s

/-! ## Well-formed terms -/

/-- A payload one byte longer than a length field can say. -/
def longPayload : List Byte := List.replicate 65536 0

/-- A field list one byte longer than a field length can say. -/
def longFields : List Byte := List.replicate 256 0

theorem length_longPayload : longPayload.length = 65536 := List.length_replicate

theorem test_illformed_band_frame : Instr.WellFormed (.bandFrame { feed 1 0 [] with payload := longPayload }) = false := by
  simp [Instr.WellFormed, FeedFrame.Fits, length_longPayload]

theorem test_illformed_command_frame :
    Instr.WellFormed (.commandFrame { feed 2 0 [] with payload := longPayload }) = false := by
  simp [Instr.WellFormed, FeedFrame.Fits, length_longPayload]

theorem test_illformed_ack : Instr.WellFormed (.ack 0 { back 1 [] with fields := longFields }) = false := by decide +kernel
theorem test_illformed_miss : Instr.WellFormed (.miss 0 { back 2 [] with fields := longFields }) = false := by decide +kernel
theorem test_illformed_pause : Instr.WellFormed (.pause 0 { back 3 [] with fields := longFields }) = false := by decide +kernel
theorem test_illformed_resume_frame :
    Instr.WellFormed (.resumeFrame 0 { back 4 [] with fields := longFields }) = false := by decide +kernel
theorem test_illformed_hello : Instr.WellFormed (.hello 0 { back 5 [] with fields := longFields }) = false := by decide +kernel
theorem test_illformed_remake : Instr.WellFormed (.remake 0 { back 6 [] with fields := longFields }) = false := by decide +kernel

/-- A command row is well-formed whatever its operands. -/
theorem test_wellformed_command : Instr.WellFormed (.enableSite 0 0xFF) = true := by decide

/-! ## Payloads and CRC -/

/-- The table gives its rows no bits. -/
theorem test_no_word_is_a_command : decodeTableWord 8 0x40 = none := by decide

/-- R204: the CRC of the nine characters 1 to 9, and of no byte. -/
theorem test_crc_check_value :
    crc32 [0x31, 0x32, 0x33, 0x34, 0x35, 0x36, 0x37, 0x38, 0x39] = 0xCBF43926 ∧ crc32 [] = 0 := by decide +kernel

/-- R207, code 01h: edition 2, version 3, section 1, page 9, zone 4; width 1024, height 300, K and M, both times. -/
theorem test_parse_open_page :
    parseCommand [0x01, 0x23, 0x01, 0x09, 0x04, 0x04, 0x00, 0x01, 0x2C, 0x05, 0x03, 0x00, 0x00, 0x00, 0x14, 0x00, 0x00,
        0x00, 0x19] =
      .openPage { key := { edition := 2, version := 3, sect := 1, page := 9, zone := 4 }, width := 1024, height := 300,
                  seps := 5, flags := 3, releaseAt := 20, latest := 25 } := by decide

/-- R207, codes 02h to 05h. -/
theorem test_parse_page_commands :
    parseCommand [0x02, 0x01, 0, 1, 0, 7, 0xDE, 0xAD, 0xBE, 0xEF] =
        .approve { key := key1, station := 7, expected := 0xDEADBEEF } ∧
      parseCommand [0x03, 0x01, 0, 1, 0, 1] = .withdraw key1 1 ∧ parseCommand [0x04, 0x01, 0, 1, 0] = .purge key1 ∧
      parseCommand [0x05, 0x01, 0, 1, 0, 3] = .sendPage key1 3 := by decide

/-- R207, codes 10h to 13h and 18h. -/
theorem test_parse_release_commands :
    parseCommand [0x10, 2, 0, 1, 2, 3, 0xFF, 0xFF, 0xFF, 0xFF] = .setPlan 2 #v[0, 1, 2, 3, 0xFF, 0xFF, 0xFF, 0xFF] ∧
      parseCommand [0x11, 2] = .holdEdition 2 ∧ parseCommand [0x12, 2] = .openEdition 2 ∧
      parseCommand [0x13, 0x00, 0x0D, 0x2E, 0xFF] = .setClock 863999 ∧
      parseCommand [0x18, 1, 1, 0x00, 0x10, 0x00, 0x20, 0x5F] =
        .defineArea { area := 1, flags := 1, base := 16, length := 32, mtch := 5, mask := 15 } := by decide

/-- R207, codes 20h to 28h. -/
theorem test_parse_site_commands :
    parseCommand [0x20, 1, 0, 9, 0, 2, 3, 0, 4, 0, 5, 0, 6, 0, 7, 0, 8, 0, 9, 0x05, 1, 0, 1, 1, 1, 2, 1, 3, 0, 10, 0, 240,
        1] =
        .setSite { site := 1, code := 9, port := 2, flow := 3, gapLength := 4, ackTimeout := 5, retryLimit := 6,
                   highMark := 7, lowMark := 8, gateTimeout := 9, haltMask := 5, gains := #v[256, 257, 258, 259],
                   minDot := 10, maxDot := 240, solidHold := 1 } ∧
      parseCommand [0x21, 3] = .enableSite 3 ∧ parseCommand [0x22, 3] = .disableSite 3 ∧
      parseCommand [0x23, 3] = .resumeSite 3 ∧ parseCommand [0x24, 3, 0, 1, 0, 0] = .setAllotment 3 65536 ∧
      parseCommand [0x28, 3, 0, 100] = .setPort 3 100 := by decide

/-- R207, code 31h and codes 40h to 4Ch. -/
theorem test_parse_other_commands :
    parseCommand [0x31, 1, 2, 1] = .armCurves 1 2 1 ∧ parseCommand [0x40] = .quiesce ∧ parseCommand [0x41] = .resume ∧
      parseCommand [0x42] = .dayReset ∧ parseCommand [0x48, 0x01, 0, 1, 0] = .queryPage key1 ∧
      parseCommand [0x49, 7] = .querySite 7 ∧ parseCommand [0x4A, 7] = .queryArea 7 ∧ parseCommand [0x4B] = .queryDevice ∧
      parseCommand [0x4C, 7] = .readCurve 7 := by decide

/-- R195: an unknown code, an empty payload, a byte too few and a byte too many. -/
theorem test_parse_refuses :
    parseCommand [0x06] = .malformed 0x06 ∧ parseCommand [] = .malformed 0 ∧ parseCommand [0x49] = .malformed 0x49 ∧
      parseCommand [0x40, 0] = .malformed 0x40 := by decide

/-! ## The manual's worked figures -/

/-- The curve of section 4.6: the knots the table names, and straight steps between them. -/
def workedCurve : Curve :=
  #v[0, 200, 360, 520, 680, 840, 1000, 1160, 1320, 1450, 1600, 1760, 1920, 2080, 2240, 2400, 4080]

/-- Section 4.6: gain 240, dots 4 and 245, solid hold on. -/
theorem test_compensation_figures :
    compensate workedCurve 240 4 245 true 130 = (78, false) ∧ compensate workedCurve 240 4 245 true 250 = (206, false) ∧
      compensate workedCurve 240 4 245 true 3 = (4, true) ∧ compensate workedCurve 240 4 245 true 255 = (255, false) ∧
      compensate workedCurve 240 4 245 true 0 = (0, false) := by decide

/-- Section 4.6, at power-on: the identity curve and gain 256 give 130 for 130 and 250 for 250. -/
theorem test_identity_figures :
    compensate identityCurve 256 0 255 true 130 = (130, false) ∧
      compensate identityCurve 256 0 255 true 250 = (250, false) := by decide

/-- R164: the effective allotment at degrade levels. -/
theorem test_effective_allotment :
    effective 65536 0 = 65536 ∧ effective 65536 2 = 16384 ∧ effective 65536 3 = 8192 ∧ effective 3000 3 = 2048 ∧
      effective 1000 2 = 1000 ∧ effective 0 1 = 0 := by decide

/-- R54: a time is reached from its moment on for half a day, across midnight too. -/
theorem test_time_reached :
    Clock.reached { count := 10, unset := false } 10 = true ∧ Clock.reached { count := 10, unset := false } 11 = false ∧
      Clock.reached { count := 10, unset := false } 863990 = true ∧
      Clock.reached { count := 432009, unset := false } 10 = true ∧
      Clock.reached { count := 432010, unset := false } 10 = false := by decide

/-! ## Single steps -/

/-- POWER_ON_RESET empties the store and the page table. -/
theorem test_power_on :
    (after (exec .powerOnReset (atPage (page .filling none))) State.reset).dev = Device.reset := by decide

/-- R52: the tick after 863 999 counts 0; an unset clock does not count. -/
theorem test_clock_midnight :
    Clock.tick { count := 863999, unset := false } = { count := 0, unset := false } ∧
      Clock.tick { count := 5, unset := true } = { count := 5, unset := true } := by decide

/-- R195, R196, R205: QUIESCE by its frame is answered with the changed flag and begins to be sent. -/
theorem test_quiesce_frame :
    (after (exec (.commandFrame (feed 0x02 9 [0x40])) State.reset) State.reset).dev.feed.replies =
      [{ tag := 9, code := 0x40, answer := { result := .ok, flags := { changed := true }, data := [0] } }] := by
  decide +kernel

/-- R43, R9: the last absent band makes the version HELD, and its digest is the band's CRC. -/
theorem test_last_band_completes :
    ((after (exec (.bandWriteComplete 0) (writing (write false) (withPage (page .filling none) Device.reset)))
      State.reset).dev.table.map fun v => (v.state, v.digest)) = [(.held, crc32 runs)] := by decide +kernel

/-- R46, R39: the band of page 1 goes to the lowest free cell of area 0. -/
theorem test_band_takes_lowest_cell :
    ((after (exec (.bandFrame (bandFrame key1 0 0 (crc32 runs) runs))
        (arriving (some 0) (withPage (page .filling none) Device.reset))) State.reset).dev.feed.buffers.toList.map
      Buffer.cell) = [some 0, none, none, none] := by decide +kernel

/-- R95, R97: the band 130 at identity curve and gain 256 leaves the bytes 3, 130 in slot 0 of site 0. -/
theorem test_preparation_writes_slot :
    readBytes (after (exec .preparationComplete
      (building (preparing false)
        { withPage (page .released (some (entry false))) (Device.reset.onSite 0 fun st => { st with
            win := window .linkLost []
            q := { st.q with current := some (delivery (some (0, 0))) } }) with
          store := writeBytes [] (5 * 32768) runs })) State.reset).dev.store (32640 * 32768) 2 = [3, 130] := by
  decide +kernel

/-- R141: with numbers 0, 1, 2 in the window, ACK 1 leaves rank 2 only. -/
theorem test_ack_removes :
    ((after (exec (.ack 0 (back 0x01 [0, 1])) (atWin fun _ => window .active [rank 0 .plate, rank 1 .plate, rank 2 .plate]))
      State.reset).dev.site 0).win.ranks = [rank 2 .plate] := by decide +kernel

/-- R143: MISS 1 marks rank 2; the pacer's credit of 0 keeps the resend waiting. -/
theorem test_miss_marks :
    (((after (exec (.miss 0 (back 0x02 [0, 1])) (atWin fun _ => window .active [rank 0 .plate, rank 1 .plate]))
      State.reset).dev.site 0).win.ranks.map (·.pending)) = [false, true] := by decide +kernel

/-- R134, R153: ENABLE SITE and a HELLO take site 0 to ACTIVE. -/
theorem test_enable_and_hello :
    ((after (exec (.hello 0 (back 0x05 [0])) (after (exec (.enableSite 1 0) State.reset) State.reset))
      State.reset).dev.site 0).win.link = .active := by decide +kernel

/-- R163: an allotment above the range is staged clamped, and becomes active at the period's end. -/
theorem test_allotment :
    ((after (exec (.periodEnd 0) (after (exec (.setAllotment 1 0 0xFFFFFFFF) State.reset) State.reset))
      State.reset).dev.site 0).pace.active = 1048575 := by decide

/-- R138: SET SITE clamps an ack timeout of 0 to 1, and keeps the low mark below the high mark. -/
theorem test_set_site_clamps :
    let cfg := ((after (exec (.setSite 1
      { site := 0, code := 0, port := 0, flow := 0, gapLength := 0, ackTimeout := 0, retryLimit := 6, highMark := 4,
        lowMark := 9, gateTimeout := 30, haltMask := 0, gains := #v[256, 256, 256, 300], minDot := 0, maxDot := 255,
        solidHold := 1 }) State.reset) State.reset).dev.site 0).cfg
    cfg.ackTimeout = 1 ∧ cfg.lowMark = 3 ∧ entryOf cfg.gains 3 = 288 := by decide +kernel

/-! ## Witnesses

Each theorem gives a state and operands that meet together the hypotheses of one clause of the statement it names. An
operand that a hypothesis defines (`d = …`, `w = …`) takes the value given there. -/

/-- The frame of QUIESCE. -/
def quiesceFrame : FeedFrame := feed 0x02 9 [0x40]

theorem witness_CommandFrameIsTakenQueuedOrLost_linkDown :
    (after (exec .feedLinkLost State.reset) State.reset).dev.feed.linkUp = false := by decide +kernel

theorem witness_CommandFrameIsTakenQueuedOrLost_fails :
    ¬(({ quiesceFrame with crc := 0 } : FeedFrame).kind = 0x02 ∧
      ({ quiesceFrame with crc := 0 } : FeedFrame).length.toNat = ({ quiesceFrame with crc := 0 } : FeedFrame).payload.length ∧
      ({ quiesceFrame with crc := 0 } : FeedFrame).crc =
        crc32 (quiesceFrame.kind :: quiesceFrame.tag :: (halfBytes quiesceFrame.length ++ quiesceFrame.payload))) := by
  decide +kernel

theorem witness_CommandFrameIsTakenQueuedOrLost_passes :
    quiesceFrame.kind = 0x02 ∧ quiesceFrame.length.toNat = quiesceFrame.payload.length ∧ quiesceFrame.crc =
      crc32 (quiesceFrame.kind :: quiesceFrame.tag :: (halfBytes quiesceFrame.length ++ quiesceFrame.payload)) := by
  decide +kernel

theorem witness_CommandFrameIsTakenQueuedOrLost_queues :
    ((waiting 0 15).dev.feed.linkUp = true ∧ (waiting 0 15).dev.feed.cmds = [] ∧ (waiting 0 15).dev.feed.replies.length < 16) ∧
      ((waiting 15 16).dev.feed.linkUp = true ∧ (waiting 15 16).dev.feed.cmds.length < 16 ∧
        16 ≤ (waiting 15 16).dev.feed.replies.length) ∧
      ((waiting 16 16).dev.feed.linkUp = true ∧ 16 ≤ (waiting 16 16).dev.feed.cmds.length) := by decide +kernel

/-- A command that waits although the reply queue has room, at both bounds. -/
theorem witness_CommandFrameIsTakenQueuedOrLost_takesTheFirst :
    (waiting 15 15).dev.feed.linkUp = true ∧
      (waiting 15 15).dev.feed.cmds = { tag := 1, cmd := .quiesce } :: List.replicate 14 { tag := 1, cmd := .quiesce } ∧
      (waiting 15 15).dev.feed.cmds.length < 16 ∧ (waiting 15 15).dev.feed.replies.length < 16 := by decide +kernel

/-- The well-formed frame of a row is the one whose bytes the table of R207 gives: QUIESCE with tag 9. -/
theorem witness_CommandFrameIsTakenQueuedOrLost_rows :
    quiesceFrame = { kind := 0x02, tag := 9, length := BitVec.ofNat 16 Command.quiesce.encode.length,
                     payload := Command.quiesce.encode,
                     crc := crc32 (0x02 :: 9 :: (halfBytes (BitVec.ofNat 16 Command.quiesce.encode.length) ++
                       Command.quiesce.encode)) } := by decide +kernel

theorem witness_CommandPayloadsRoundTrip :
    (Command.setClock 863999).isFormed = true ∧ (parseCommand [0x13, 0x00, 0x0D, 0x2E, 0xFF]).isFormed = true := by decide +kernel

/-- The part with the timebase counts given. -/
def atBase (ms tens : Nat) : State :=
  { State.reset with dev := ({ Device.reset with base := { Base.reset with ms := ms, tens := tens } }) }

theorem witness_Tick1msCountsTheTimebaseAndPeriods :
    (atBase 8 0).dev.base.ms < 9 ∧ ((atBase 9 8).dev.base.ms = 9 ∧ (atBase 9 8).dev.base.tens < 9) ∧
      ((atBase 9 9).dev.base.ms = 9 ∧ (atBase 9 9).dev.base.tens = 9) ∧
      1 < (Device.reset.port 0).remaining ∧
      ((Device.reset.onPort 0 fun p => { p with remaining := 1 }).port 0).remaining ≤ 1 := by decide +kernel

theorem witness_Tick10msCountsTheGapTimers :
    (atBase 0 8).dev.base.tens < 9 ∧ (atBase 0 9).dev.base.tens = 9 := by decide +kernel

/-- Site 0 with its ack timer one tick before its last. -/
def atTick : State := atWin fun _ => { window .active [rank 0 .plate] with ackTimer := .running 2 }

theorem witness_Tick100msCountsTheClockAndTimers :
    (∀ i : SiteId, (∀ n : Nat, (atTick.dev.site i).win.ackTimer = .running n → 2 ≤ n) ∧
        (∀ n : Nat, (atTick.dev.site i).win.probeTimer = some n → 2 ≤ n) ∧
        ∀ n : Nat, (atTick.dev.site i).tgt.gate = .wait n → 2 ≤ n) ∧
      ∀ v ∈ atTick.dev.table, v.state ≠ .approved ∧ v.state ≠ .released := by
  have ha : ∀ i : SiteId, (atTick.dev.site i).win.ackTimer = .running 2 ∨ (atTick.dev.site i).win.ackTimer = .stopped := by
    decide
  have hp : ∀ i : SiteId, (atTick.dev.site i).win.probeTimer = none := by decide
  have hg : ∀ i : SiteId, (atTick.dev.site i).tgt.gate = .idle := by decide
  refine ⟨fun i => ⟨fun n h => ?_, fun n h => ?_, fun n h => ?_⟩, by decide⟩
  · rcases ha i with e | e
    · rw [e] at h; cases h; decide
    · rw [e] at h; cases h
  · rw [hp i] at h; cases h
  · rw [hg i] at h; cases h

/-- That site with the night clock one unit before time 9, and the part after the counts of the tick. -/
def atTickSet : Device :=
  { atTick.dev with base := { atTick.dev.base with clock := { count := 8, unset := false } } }

theorem witness_Tick100msCountsTheClockAndTimers_counted :
    let x : Device := { atTickSet with
      base := { atTickSet.base with clock := { count := 9, unset := false } }
      sites := modifyAt atTickSet.sites 0 fun st => { st with win := { st.win with ackTimer := .running 1 } } }
    { x with base := atTickSet.base, sites := atTickSet.sites } = atTickSet ∧ atTickSet.base.clock.unset = false ∧
      ∀ i : SiteId, x.site i = { atTickSet.site i with
        win := { (atTickSet.site i).win with
          ackTimer := (atTickSet.site i).win.ackTimer.tick
          probeTimer := (atTickSet.site i).win.probeTimer.map fun n => n - 1 }
        tgt := { (atTickSet.site i).tgt with
          gate := if atTickSet.base.quiesced = true ∨ (atTickSet.site i).win.link = .halted then (atTickSet.site i).tgt.gate
            else (atTickSet.site i).tgt.gate.tick } } := by decide +kernel

/-- Page 1 with its record at every site in a state, late or not. -/
def owing (state : DeliveryState) (late : Bool) : PageVersion :=
  { page .released (some (entry false)) with
    latest := some 9, records := Vector.replicate 8 { state := state, late := late, cause := none } }

theorem witness_Tick100msCountsTheClockAndTimers_late :
    let d : Device := (atPage (owing .queued false)).dev.onWin 0 fun w => { w with link := .active }
    d.record 0 = some (owing .queued false) ∧ ((owing .queued false).at 0).state = .queued ∧
      ((owing .queued false).at 0).late = false ∧ (d.site 0).win.link ≠ .disabled ∧ (d.site 0).win.closing = false ∧
      ((owing .acked false).at 0).state ≠ .queued ∧ ((owing .acked false).at 0).state ≠ .sending ∧
      ((owing .acked false).at 0).state ≠ .failed ∧ ((owing .queued true).at 0).late = true := by decide +kernel

theorem witness_PeriodEndRefillsTheSitesOfThePort :
    (Device.reset.site 4).cfg.port = 0 ∧
      65536 = (Device.reset.site 4).pace.staged.getD (Device.reset.site 4).pace.active ∧
      65536 = max (65536 / 2 ^ (Device.reset.site 4).pace.level) (min 65536 2048) ∧ (Device.reset.site 1).cfg.port ≠ 0 ∧
      (1 : PortId) ≠ 0 := by decide +kernel

/-- Site 0 ACTIVE with page 1 at the head of its queue and its gap timer at its last count. -/
def atGap : State :=
  { State.reset with dev := ((withPage (page .released (some (entry false))) Device.reset).onSite 0 fun st => { st with
      win := window .active [], q := { st.q with queue := [queued .first] }, pace := { st.pace with gap := some 1 } }) }

theorem witness_GapExpiryAllowsThePageStart :
    (State.reset.dev.site 0).pace.gap = none ∧ (atGap.dev.site 0).pace.gap ≠ none ∧ atGap.dev.base.quiesced = false ∧
      (atGap.dev.site 0).win.link ≠ .halted ∧ (atGap.dev.site 0).q.queue = queued .first :: [] ∧
      (atGap.dev.site 0).q.current = none ∧ (atGap.dev.site 0).q.control = [] ∧ (atGap.dev.site 0).win.link = .active ∧
      (atGap.dev.site 0).win.closing = false ∧ (atGap.dev.site 0).win.count < 16 ∧ (atGap.dev.site 0).tone.arm = none := by
  decide +kernel

/-- That site with its gap timer stopped, armed, its gate and the generations of stock 1 as given. -/
def atStart (gated : Bool) (gate : Gate) (latest : Byte) : Device :=
  atGap.dev.onSite 0 fun st => { st with
    pace := { st.pace with gap := none }
    tone := { st.tone with arm := some { stock := 1, gated } }
    tgt := { st.tgt with gate := gate, records := modifyAt st.tgt.records 1 fun r => { r with latestGen := latest } } }

theorem witness_GapExpiryAllowsThePageStart_armed :
    ∀ d ∈ [atStart false .idle 0, atStart true .idle 0, atStart true .idle 1, atStart true (.wait 5) 1, atStart true .bypass 1],
      (d.site 0).q.queue = queued .first :: [] ∧ (d.site 0).q.current = none ∧ (d.site 0).q.control = [] ∧
        (d.site 0).pace.gap = none ∧ (d.site 0).win.link = .active ∧ (d.site 0).win.closing = false ∧
        (d.site 0).win.count < 16 := by decide +kernel

theorem witness_GapExpiryAllowsThePageStart_gate :
    ((atStart true .idle 0).site 0).tone.arm = some { stock := 1, gated := true } ∧
      ((atStart false .idle 0).site 0).tone.arm = some { stock := 1, gated := false } ∧
      (((atStart true .idle 0).site 0).target 1).ackedGen = (((atStart true .idle 0).site 0).target 1).latestGen ∧
      (((atStart true .idle 1).site 0).target 1).ackedGen ≠ (((atStart true .idle 1).site 0).target 1).latestGen ∧
      ((atStart true .idle 1).site 0).tgt.gate = .idle ∧ ((atStart true (.wait 5) 1).site 0).tgt.gate = .wait 5 ∧
      ((atStart true .bypass 1).site 0).tgt.gate = .bypass := by decide +kernel

/-- A site that is not ACTIVE and has an empty queue, one whose gap timer runs, and one whose window is full. -/
theorem witness_GapExpiryAllowsThePageStart_notReady :
    (Device.reset.site 0).q.queue = [] ∧ (Device.reset.site 0).win.link ≠ .active ∧ (atGap.dev.site 0).pace.gap ≠ none ∧
      16 ≤ ((atWin fun _ => window .active (List.replicate 16 (rank 0 .plate))).dev.site 0).win.count ∧
      ((atWin fun _ => { window .active [] with closing := true }).dev.site 0).win.closing = true := by decide +kernel

/-- Site 0 with one rank, its ack timer at its last count, a retry count and LINK_LOST selected or not. -/
def atAck (retry : Nat) (mask : BitVec 7) : State :=
  atSite 0 fun st => { st with
    win := { window .active [rank 0 .plate] with ackTimer := .running 1, retry := retry }
    cfg := { st.cfg with haltMask := mask } }

/-- A site that drops a condition, one that takes its action, one that is HALTED already and one that halts. -/
theorem witness_Tick100msCountsTheClockAndTimers_raise :
    (Device.reset.site 0).win.link = .disabled ∧
      ((atAck 5 0).dev.site 0).win.link ≠ .disabled ∧ ((atAck 5 0).dev.site 0).win.closing = false ∧
      false = ((atAck 5 0).dev.site 0).cfg.haltMask.getLsbD (CondDetails.linkLost 6 0).condition.bit ∧
      true = ((atAck 5 0x20).dev.site 0).cfg.haltMask.getLsbD (CondDetails.linkLost 6 0).condition.bit ∧
      ((atAck 5 0x20).dev.site 0).win.link ≠ .halted ∧
      (((atAck 5 0x20).dev.onWin 0 fun w => { w with link := .halted }).site 0).win.link = .halted := by decide +kernel

/-- Site 0 in LINK_LOST with one rank and its probe timer at its last count. -/
def atProbe : State := atWin fun _ => { window .linkLost [rank 0 .plate] with probeTimer := some 1 }

theorem witness_AckAndProbeExpiriesMarkRankOne_below :
    ((atAck 4 0).dev.site 0).win.ranks = rank 0 .plate :: [] ∧ 5 = min (((atAck 4 0).dev.site 0).win.retry + 1) 15 ∧
      ((atAck 4 0).dev.site 0).win.ackTimer = .running 1 ∧ 5 < ((atAck 4 0).dev.site 0).cfg.retryLimit := by decide +kernel

theorem witness_AckAndProbeExpiriesMarkRankOne_lost :
    ((atAck 5 0).dev.site 0).win.ranks = rank 0 .plate :: [] ∧ 6 = min (((atAck 5 0).dev.site 0).win.retry + 1) 15 ∧
      ((atAck 5 0).dev.site 0).win.ackTimer = .running 1 ∧ ((atAck 5 0).dev.site 0).cfg.retryLimit ≤ 6 ∧
      ((atAck 5 0).dev.site 0).win.link = .active ∧ ((atAck 5 0).dev.site 0).win.closing = false ∧
      ((atAck 5 0).dev.site 0).win.probeTimer = none ∧ ((atAck 5 0).dev.site 0).cfg.haltMask.getLsbD 5 = false := by decide +kernel

theorem witness_AckAndProbeExpiriesMarkRankOne_halted :
    ((atAck 5 0x20).dev.site 0).win.ranks = rank 0 .plate :: [] ∧ 6 = min (((atAck 5 0x20).dev.site 0).win.retry + 1) 15 ∧
      ((atAck 5 0x20).dev.site 0).win.ackTimer = .running 1 ∧ ((atAck 5 0x20).dev.site 0).cfg.retryLimit ≤ 6 ∧
      ((atAck 5 0x20).dev.site 0).win.link = .active ∧ ((atAck 5 0x20).dev.site 0).win.closing = false ∧
      ((atAck 5 0x20).dev.site 0).win.probeTimer = none ∧ ((atAck 5 0x20).dev.site 0).cfg.haltMask.getLsbD 5 = true := by
  decide +kernel

theorem witness_AckAndProbeExpiriesMarkRankOne_probe :
    (atProbe.dev.site 0).win.ranks = rank 0 .plate :: [] ∧ (atProbe.dev.site 0).win.probeTimer = some 1 := by decide +kernel

/-- Site 0 ACTIVE, armed with stock 1 behind the gate, the gate at its last count. -/
def atGate (mask : BitVec 7) : State :=
  atSite 0 fun st => { st with
    win := window .active []
    tone := { st.tone with arm := some { stock := 1, gated := true } }
    tgt := { st.tgt with gate := .wait 1 }
    cfg := { st.cfg with haltMask := mask } }

theorem witness_GateExpiryRaisesTargetTimeout :
    ∀ m ∈ [0x00#7, 0x10#7],
      ((atGate m).dev.site 0).tgt.gate = .wait 1 ∧ ((atGate m).dev.site 0).tone.arm = some { stock := 1, gated := true } ∧
      (atGate m).dev.base.quiesced = false ∧ ((atGate m).dev.site 0).win.link ≠ .halted ∧
      ((atGate m).dev.site 0).win.link ≠ .disabled ∧ ((atGate m).dev.site 0).win.closing = false ∧
      ((atGate m).dev.site 0).cfg.haltMask.getLsbD 4 = decide (m ≠ 0) := by decide +kernel

/-- Every buffer is taken. -/
def fullBuffers : State :=
  { State.reset with dev := ({ Device.reset with feed := { Device.reset.feed with
      buffers := Vector.replicate 4 .receiving } }) }

theorem witness_BandFramesTakeAndFreeBuffers_begins :
    ((after (exec .feedLinkLost State.reset) State.reset).dev.feed.linkUp = false) ∧
      (State.reset.dev.feed.linkUp = true ∧ entryOf State.reset.dev.feed.buffers 0 = .free ∧
        ∀ c : Fin 4, c < 0 → entryOf State.reset.dev.feed.buffers c ≠ .free) ∧
      (fullBuffers.dev.feed.linkUp = true ∧ ∀ b : Fin 4, entryOf fullBuffers.dev.feed.buffers b ≠ .free) := by decide +kernel

theorem witness_BandFramesTakeAndFreeBuffers_wholeFrame :
    State.reset.dev.feed.linkUp = true ∧ State.reset.dev.feed.arrivals = [] ∧
      ∃ t : State, exec .bandFrameArrivalBegins State.reset = .next t := ⟨rfl, rfl, _, rfl⟩

/-- The band frame of page 1, and what it meets of R191 and R206. -/
def goodBand : FeedFrame := bandFrame key1 0 0 (crc32 runs) runs

theorem witness_BandFramesTakeAndFreeBuffers_frame :
    goodBand.kind = 0x01 ∧ goodBand.length.toNat = goodBand.payload.length ∧
      goodBand.crc = crc32 (goodBand.kind :: goodBand.tag :: (halfBytes goodBand.length ++ goodBand.payload)) ∧
      10 ≤ goodBand.payload.length ∧ goodBand.payload = key1.bytes ++ (0 :: 0 :: (wordBytes (crc32 runs) ++ runs)) ∧
      (arriving (some 0) Device.reset).dev.feed.linkUp = true ∧
      (arriving (some 0) Device.reset).dev.feed.arrivals = some 0 :: [] ∧
      (arriving none Device.reset).dev.feed.arrivals = none :: [] := by decide +kernel

/-- A payload one byte short of the fixed fields of R206. -/
theorem witness_BandFramesTakeAndFreeBuffers_short :
    ¬((feed 0x01 7 (List.replicate 9 0)).kind = 0x01 ∧
      (feed 0x01 7 (List.replicate 9 0)).length.toNat = (feed 0x01 7 (List.replicate 9 0)).payload.length ∧
      (feed 0x01 7 (List.replicate 9 0)).crc = crc32 ((feed 0x01 7 (List.replicate 9 0)).kind ::
        (feed 0x01 7 (List.replicate 9 0)).tag :: (halfBytes (feed 0x01 7 (List.replicate 9 0)).length ++
          (feed 0x01 7 (List.replicate 9 0)).payload)) ∧ 10 ≤ (feed 0x01 7 (List.replicate 9 0)).payload.length) := by
  decide +kernel

theorem witness_BandFramesTakeAndFreeBuffers_range :
    versionOf key0 = 0 ∧ keyInRange { key1 with page := 97 } = false ∧ keyInRange key1 = true ∧ versionOf key1 ≠ 0 ∧
      (arriving (some 0) Device.reset).dev.lookup (keyOf key1) (versionOf key1) = none ∧
      (page .filling none).bandCount ≤ (1 : Byte).toNat ∧ (page .filling none).seps.getLsbD (1 : Byte).toNat = false := by
  decide +kernel

/-- Page 1 in a state, its frame arriving into buffer 0. -/
def bandAt (state : VersionState) (e : Option BandEntry) : State := arriving (some 0) (withPage (page state e) Device.reset)

theorem witness_BandFramesTakeAndFreeBuffers_version :
    (bandAt .held (some (entry false))).dev.lookup (keyOf key1) (versionOf key1) = some (page .held (some (entry false))) ∧
      (bandAt .filling none).dev.lookup (keyOf key1) (versionOf key1) = some (page .filling none) ∧
      (page .filling none).state = .filling ∧ (0 : Byte) = byteN (0 : Sep).val ∧ (page .filling none).seps.has 0 = true ∧
      (0 : Byte).toNat < (page .filling none).bandCount := by decide +kernel

theorem witness_BandFramesTakeAndFreeBuffers_notFaulty :
    (page .released (some (entry false))).state ≠ .filling ∧
      ∀ e : BandEntry, (page .released (some (entry false))).entry 0 0 = some e → e.fault = false := by
  refine ⟨by decide, fun e h => ?_⟩
  cases (show (page .released (some (entry false))).entry 0 0 = some (entry false) from rfl).symm.trans h
  rfl

/-- Runs of five pixels for a band of four (check 8 of R37), and runs that pass. -/
theorem witness_BandFramesTakeAndFreeBuffers_runs :
    runPixels [4, 130] ≠ (page .filling none).pixels 0 ∧ runs ≠ [] ∧ runs.length % 2 = 0 ∧ runs.length ≤ 32768 ∧
      crc32 runs = crc32 runs ∧ runPixels runs = (page .filling none).pixels 0 := by decide +kernel

theorem witness_BandFramesTakeAndFreeBuffers_mismatch :
    (∃ e : BandEntry, (page .released (some { entry true with crc := 0 })).entry 0 0 = some e ∧ e.fault = true) ∧
      ∀ e : BandEntry, (page .released (some { entry true with crc := 0 })).entry 0 0 = some e → e.crc ≠ crc32 runs := by
  refine ⟨⟨{ entry true with crc := 0 }, rfl, rfl⟩, fun e h => ?_⟩
  cases (show (page .released (some { entry true with crc := 0 })).entry 0 0 = some { entry true with crc := 0 } from
    rfl).symm.trans h
  decide +kernel

theorem witness_AcceptedBandFrameBeginsItsWrite :
    (bandAt .filling none).dev.feed.linkUp = true ∧ (bandAt .filling none).dev.feed.arrivals = some 0 :: [] ∧
      keyInRange key1 = true ∧ versionOf key1 ≠ 0 ∧
      (bandAt .filling none).dev.lookup (keyOf key1) (versionOf key1) = some (page .filling none) ∧
      (page .filling none).seps.has 0 = true ∧ (0 : Byte).toNat < (page .filling none).bandCount ∧
      (page .filling none).state = .filling ∧
      (bandAt .filling none).dev.cellFree (entryOf (bandAt .filling none).dev.base.areas (page .filling none).area) 0 = true ∧
      ∀ c : Fin 0, (bandAt .filling none).dev.cellFree
        (entryOf (bandAt .filling none).dev.base.areas (page .filling none).area) c.val = false := by decide +kernel

/-- Page 1 FILLING in an area that is disabled and so has no free cell, with no other version. -/
theorem witness_AcceptedBandFrameBeginsItsWrite_full :
    (∀ c : Nat, (arriving (some 0) (withPage { page .filling none with area := 1 } Device.reset)).dev.cellFree
        (entryOf (arriving (some 0) (withPage { page .filling none with area := 1 } Device.reset)).dev.base.areas 1) c =
          false) ∧
      (arriving (some 0) (withPage { page .filling none with area := 1 } Device.reset)).dev.candidate (fun x =>
        decide (x.area = 1) && !x.entries.isEmpty && decide (x.uid ≠ 0)) = none :=
  ⟨fun _ => rfl, by decide⟩

/-- Area 1 of one cell, which the reclaimable version 9 of page 2 holds, and page 1 FILLING in it. -/
def fullArea : Device :=
  { Device.reset with
    table := [{ page .filling none with area := 1 },
      { page .delivered (some (entry false)) with
        uid := 9, area := 1, retained := some 0, key := { keyOf key1 with pos := { edition := 0, sect := 0, page := 2 } } }]
    retained := [9]
    base := { Base.reset with areas := modifyAt Base.reset.areas 1 fun _ =>
      { enabled := true, base := 5, length := 1, mtch := 0, mask := 0 } } }

theorem witness_AcceptedBandFrameBeginsItsWrite_reclaim :
    (∀ c : Nat, fullArea.cellFree (entryOf fullArea.base.areas 1) c = false) ∧
      ((fullArea.candidate fun y => decide (y.area = 1) && !y.entries.isEmpty && decide (y.uid ≠ 0)).map PageVersion.uid) =
        some 9 ∧
      ({ fullArea with table := fullArea.table.filter fun y => decide (y.uid ≠ 9), retained := [] } : Device).cellFree
        (entryOf fullArea.base.areas 1) 5 = true := by
  refine ⟨fun c => ?_, by decide +kernel, by decide +kernel⟩
  by_cases h : c = 5
  · subst h; decide +kernel
  · have e : entryOf fullArea.base.areas 1 = { enabled := true, base := 5, length := 1, mtch := 0, mask := 0 } := by
      decide +kernel
    rw [e]
    simp only [Device.cellFree]
    grind

theorem witness_AcceptedBandFrameBeginsItsWrite_repair :
    (page .released (some (entry true))).state = .released ∧
      ∃ e : BandEntry, (page .released (some (entry true))).entry 0 0 = some e ∧ e.fault = true ∧ e.crc = crc32 runs :=
  ⟨rfl, entry true, rfl, rfl, rfl⟩

/-- The part with an event in the event queue, in transmission. -/
def sending (source : TxSource) : State :=
  { State.reset with dev := ({ Device.reset with feed := { Device.reset.feed with tx := some { source, bytes := [1] } } }) }

/-- An event queue of 32. -/
def fullEvents : Feed :=
  { Device.reset.feed with events := List.replicate 32 { event := .feedOverrun 1 1 .noBuffer, mark := false } }

theorem witness_FeedTransmitterSendsRepliesFirst :
    State.reset.dev.feed.tx = none ∧ (sending .event).dev.feed.tx = some { source := .event, bytes := [1] } ∧
      ((sending .reply).dev.feed.tx = some { source := .reply, bytes := [1] } ∧ (sending .reply).dev.feed.cmds = []) ∧
      ((waiting 0 1).dev.feed.linkUp = true ∧ (waiting 0 1).dev.feed.tx = none ∧
        (waiting 0 1).dev.feed.replies = { tag := 1, code := 0x40, answer := { result := .ok } } :: []) ∧
      (fullEvents.linkUp = true ∧ fullEvents.tx = none ∧ fullEvents.replies = [] ∧
        fullEvents.events = { event := .feedOverrun 1 1 .noBuffer, mark := false } :: fullEvents.events.tail) ∧
      (State.reset.dev.feed.linkUp = true ∧ State.reset.dev.feed.replies = [] ∧ State.reset.dev.feed.events = []) ∧
      (sending .reply).dev.feed.tx ≠ none ∧ (sending .reply).dev.feed.events.length < 32 ∧
      32 ≤ fullEvents.events.length := by decide +kernel

theorem witness_FeedTransmitterSendsRepliesFirst_afterReply :
    let s : State := { State.reset with dev := ({ (waiting 1 16).dev with feed :=
      { (waiting 1 16).dev.feed with tx := some { source := .reply, bytes := [1] } } }) }
    (sending .orphan).dev.feed.tx = some { source := .orphan, bytes := [1] } ∧
      s.dev.feed.tx = some { source := .reply, bytes := [1] } ∧ s.dev.feed.cmds = { tag := 1, cmd := .quiesce } :: [] ∧
      s.dev.feed.replies.length ≤ 16 := by decide +kernel

theorem witness_BandWriteIsRecordedOrDiscarded_recorded :
    let s := writing (write false) (withPage (page .filling none) Device.reset)
    entryOf s.dev.feed.buffers 0 = .writing (write false) ∧ (write false).repair = false ∧
      s.dev.record (write false).ref.uid = some (page .filling none) ∧ (page .filling none).state = .filling ∧
      (page .filling none).entry 0 0 = none ∧ ((page .filling none).withEntry 0 0 (entry false)).complete = true ∧
      (page .filling none).approval = none := by decide +kernel

theorem witness_BandWriteIsRecordedOrDiscarded_approvals :
    (approval 1).expected ≠ crc32 runs ∧ (approval (crc32 runs)).expected = crc32 runs ∧
      (page .filling (some (entry false))).entry 0 0 ≠ none := by decide +kernel

theorem witness_BandWriteIsRecordedOrDiscarded_discarded :
    (writing (write false) Device.reset).dev.record (write false).ref.uid = none ∧ (write false).dayReset = false ∧
      ({ write false with dayReset := true } : BandWrite).dayReset = true ∧
      (writing (write false) (withPage (page .withdrawn none) Device.reset)).dev.record (write false).ref.uid =
        some (page .withdrawn none) ∧ (page .withdrawn none).state ≠ .filling := by decide +kernel

/-- A repair of page 1 in buffer 0. -/
def repairing (state : VersionState) : State :=
  writing (write true) (withPage (page state (some { entry true with cell := 9 })) Device.reset)

theorem witness_RepairWriteIsRecordedOrWaits :
    entryOf (repairing .released).dev.feed.buffers 0 = .writing (write true) ∧ (write true).repair = true ∧
      (write true).ended = false ∧ (repairing .released).dev.reading (write true) = false ∧
      (repairing .released).dev.record 0 = some (page .released (some { entry true with cell := 9 })) ∧
      (page .released (some { entry true with cell := 9 })).state = .released ∧
      ((page .released (some { entry true with cell := 9 })).withEntry 0 0 (entry false)).faulty = 0 ∧
      (page .withdrawn (some { entry true with cell := 9 })).state ≠ .released ∧
      (page .withdrawn (some { entry true with cell := 9 })).state ≠ .delivered := by decide +kernel

/-- A page of two bands, both faulty, of which one repair leaves one faulty; a record that DAY RESET removed; and page 1
with its delivery FAILED at site 0, which is ACTIVE. -/
theorem witness_RepairWriteIsRecordedOrWaits_records :
    let two : PageVersion := { page .released none with height := 129, bands := #v[[some (entry true), some (entry true)], [], [], []] }
    let failed : PageVersion := { page .released (some (entry true)) with
      records := modifyAt (Vector.replicate 8 DeliveryRecord.fresh) 0 fun r => { r with state := .failed, cause := some .storeError } }
    let d := (withPage failed Device.reset).onSite 0 fun st => { st with win := window .active [] }
    (two.withEntry 0 0 (entry false)).faulty ≠ 0 ∧
      (writing (write true) Device.reset).dev.record (write true).ref.uid = none ∧ (write true).dayReset = false ∧
      ({ write true with dayReset := true } : BandWrite).dayReset = true ∧
      (failed.withEntry 0 0 (entry false)).faulty = 0 ∧
      [0] = allSites.filter fun i => decide ((failed.at i).state = .failed ∧ (failed.at i).cause = some .storeError ∧
        (d.site i).win.link ≠ .disabled ∧ (d.site i).win.closing = false ∧
        (d.site i).hasPosition failed.key.pos = false) := by decide +kernel

/-- A PLATE preparation that reads the cell the entry records. -/
theorem witness_RepairWriteIsRecordedOrWaits_reading :
    (building { preparing false with job := .plate { job with cell := 9 } } (repairing .released).dev).dev.reading
      (write true) = true := by decide +kernel

/-- Site 0 ACTIVE with the delivery of page 1 at its only band, or at its end. -/
def delivering (cursor : Option (Sep × Nat)) : Device :=
  (withPage (page .released (some (entry false))) Device.reset).onSite 0 fun st => { st with
    win := window .active [], q := { st.q with current := some (delivery cursor) } }

theorem witness_BuilderGrantsRoundRobin_plate :
    let d := delivering (some (0, 0))
    d.builder.inFlight = none ∧ d.requests 0 = true ∧
      (∀ j : SiteId, d.requests j = true →
        ((0 : SiteId).val + 7 - d.builder.last.val) % 8 ≤ (j.val + 7 - d.builder.last.val) % 8) ∧
      d.slotUsed 0 0 = false ∧ (∀ l : Fin 16, l < 0 → d.slotUsed 0 l = true) ∧ (d.site 0).q.control = [] ∧
      (d.site 0).q.current = some (delivery (some (0, 0))) ∧
      d.record 0 = some (page .released (some (entry false))) ∧
      (page .released (some (entry false))).entry 0 0 = some (entry false) := by decide +kernel

theorem witness_BuilderGrantsRoundRobin_job :
    (delivering (some (0, 0))).nextJob 0 = some (.plate (plateJob ((delivering (some (0, 0))).site 0)
        (delivery (some (0, 0))) (page .released (some (entry false))) 0 0 (entry false))) ∧
      (delivering (some (0, 0))).jobFaulty (.plate (plateJob ((delivering (some (0, 0))).site 0)
        (delivery (some (0, 0))) (page .released (some (entry false))) 0 0 (entry false))) = false := by decide +kernel

theorem witness_BuilderGrantsRoundRobin_rest :
    (∀ j : SiteId, Device.reset.requests j = false) ∧ (building (preparing false) Device.reset).dev.builder.inFlight ≠ none ∧
      (delivery none).cursor = none ∧ (delivery none).pageEnd = false ∧
      ({ delivery none with pageEnd := true } : Delivery).pageEnd = true := by decide +kernel

/-- Page 1 with an approval that has an approved-at, or none. -/
theorem witness_BuilderGrantsRoundRobin_pageEnd :
    let v (a : Approval) : PageVersion := { page .released (some (entry false)) with approval := some a }
    (∀ a ∈ [approval 1, { approval 1 with approvedAt := some 863999 }],
      let d := (withPage (v a) Device.reset).onSite 0 fun st => { st with q := { st.q with current := some (delivery none) } }
      (d.site 0).q.control = [] ∧ (d.site 0).q.current = some (delivery none) ∧ d.record 0 = some (v a) ∧
        (v a).approval = some a) ∧ (approval 1).approvedAt = none := by decide +kernel

/-- Site 0 ACTIVE with the delivery of page 1 at its band, which is faulty, under a halt mask. -/
def faultyBand (mask : BitVec 7) : Device :=
  (withPage (page .released (some (entry true))) Device.reset).onSite 0 fun st => { st with
    cfg := { st.cfg with haltMask := mask }, win := window .active []
    q := { st.q with current := some (delivery (some (0, 0))) } }

theorem witness_BuilderGrantsRoundRobin_faulty :
    (∀ m ∈ [0#7, 1#7], (faultyBand m).builder.inFlight = none ∧ (faultyBand m).requests 0 = true ∧
        (∀ j : SiteId, (faultyBand m).requests j = true →
          ((0 : SiteId).val + 7 - (faultyBand m).builder.last.val) % 8 ≤ (j.val + 7 - (faultyBand m).builder.last.val) % 8) ∧
        (faultyBand m).slotUsed 0 0 = false ∧ ((faultyBand m).site 0).cfg.haltMask.getLsbD 0 = decide (m ≠ 0) ∧
        ((faultyBand m).site 0).q.current = some (delivery (some (0, 0)))) ∧
      ∃ j : PlateJob, (faultyBand 1).nextJob 0 = some (.plate j) ∧ (faultyBand 1).jobFaulty (.plate j) = true ∧
        (faultyBand 1).record j.ref.uid = some (page .released (some (entry true))) ∧
        (page .released (some (entry true))).entry j.sep j.band = some (entry true) ∧
        ∀ m : SiteId, (raise 0 (.storeError j.ref.key j.ref.version j.sep j.band)
          { faultyBand 1 with builder := { (faultyBand 1).builder with last := 0 }, free := 1 }).requests m = false :=
  ⟨by decide +kernel, _, rfl, by decide +kernel, rfl, rfl, by decide +kernel⟩

/-- Where STORE_ERROR is not selected, the site goes on to request the CANCEL of the delivery that failed. -/
theorem witness_BuilderGrantsRoundRobin_failed :
    let j := plateJob ((faultyBand 0).site 0) (delivery (some (0, 0))) (page .released (some (entry true))) 0 0 (entry true)
    let y := cancelCurrent 0 (delivery (some (0, 0))) .storeError
      (raise 0 (.storeError j.ref.key j.ref.version j.sep j.band)
        { faultyBand 0 with builder := { (faultyBand 0).builder with last := 0 }, free := 1 })
    y.requests 0 = true ∧ (∀ n : SiteId, n ≠ 0 → y.requests n = false) ∧ y.slotUsed 0 0 = false ∧
      y.nextJob 0 = some (.control (.cancel j.ref.key j.ref.version .failed)) := by decide +kernel

/-- A repair of page 1's band whose write ended while site 0's preparation reads the cell the entry records. -/
def repairWaits : State :=
  building { preparing false with job := .plate { job with cell := 9 } }
    (writing { write true with ended := true }
      (withPage (page .released (some { entry true with cell := 9 })) (delivering (some (0, 0))))).dev

theorem repairWaits_buffers (b : Fin 4) :
    entryOf repairWaits.dev.feed.buffers b = if b = 0 then .writing { write true with ended := true } else .free := by
  revert b
  decide +kernel

/-- The list of the repairs that wait, with one and with none. -/
theorem witness_PreparationLeavesItsBlock_waiting :
    (∀ (b : Fin 4) (w : BandWrite), (b, w) ∈ [((0 : Fin 4), { write true with ended := true })] ↔
      entryOf repairWaits.dev.feed.buffers b = .writing w ∧ w.ended = true) ∧
      (∀ x ∈ [((0 : Fin 4), { write true with ended := true })],
        x.2.repair = true ∧ repairWaits.dev.reading x.2 = true) ∧
      repairWaits.dev.builder.inFlight = some { preparing false with job := .plate { job with cell := 9 } } ∧
      (repairWaits.dev.site 0).q.current = some (delivery (some (0, 0))) ∧
      repairWaits.dev.record job.ref.uid = some (page .released (some { entry true with cell := 9 })) ∧
      ∀ (b : Fin 4) (w : BandWrite), (b, w) ∈ ([] : List (Fin 4 × BandWrite)) ↔
        entryOf (building (preparing false) (delivering (some (0, 0)))).dev.feed.buffers b = .writing w ∧ w.ended = true := by
  refine ⟨fun b w => ?_, by decide +kernel, by decide +kernel, by decide +kernel, by decide +kernel, fun b w => ?_⟩
  · rw [repairWaits_buffers]
    by_cases h : b = 0
    · subst h
      constructor
      · intro m
        cases List.mem_singleton.mp m
        exact ⟨rfl, rfl⟩
      · rintro ⟨m, -⟩
        cases m
        exact List.mem_singleton.mpr rfl
    · simp [h]
  · have free : ∀ c : Fin 4, entryOf (building (preparing false) (delivering (some (0, 0)))).dev.feed.buffers c = .free := by
      decide +kernel
    simp [free b]

theorem witness_PreparationLeavesItsBlock :
    let s := building (preparing false) (delivering (some (0, 0)))
    s.dev.builder.inFlight = some (preparing false) ∧ (∀ b : Fin 4, entryOf s.dev.feed.buffers b = .free) ∧
      (preparing true).discard = true ∧ (preparing false).discard = false ∧ (preparing false).job = .plate job ∧
      (s.dev.site (preparing false).site).q.current = some (delivery (some (0, 0))) ∧
      s.dev.record job.ref.uid = some (page .released (some (entry false))) := by decide +kernel

theorem witness_PreparationLeavesItsBlock_otherJobs :
    let ref : PageRef := { uid := 0, key := keyOf key1, version := 1 }
    let e := ControlEntry.notAvail { edition := 0, sect := 0, page := 1 } .noVersion
    ({ preparing false with job := .pageEnd 0 ref Ident.zero [1] } : Preparation).discard = false ∧
      ({ preparing false with job := .pageEnd 0 ref Ident.zero [1] } : Preparation).job = .pageEnd 0 ref Ident.zero [1] ∧
      ({ preparing false with job := .control e } : Preparation).job = .control e := by decide +kernel

theorem witness_UncorrectableReadFaultsTheBand :
    let s := building (preparing false) (delivering (some (0, 0)))
    (preparing false).job = .plate job ∧ (preparing true).discard = true ∧ (preparing false).discard = false ∧
      (s.dev.site 0).win.link ≠ .halted ∧ (s.dev.site 0).win.link ≠ .disabled ∧ (s.dev.site 0).win.closing = false ∧
      (s.dev.site 0).cfg.haltMask.getLsbD 0 = true ∧
      ((s.dev.onSite 0 fun st => { st with cfg := { st.cfg with haltMask := 0 } }).site 0).cfg.haltMask.getLsbD 0 = false ∧
      (s.dev.site 0).q.current = some (delivery (some (0, 0))) ∧ (delivery (some (0, 0))).id = job.delivery := by decide +kernel

/-- The read at a site that is HALTED with STORE_ERROR selected, and at one that is closing. -/
theorem witness_UncorrectableReadFaultsTheBand_haltedOrClosing :
    let s := repairWaits.dev.onWin 0 fun w => { w with link := .halted }
    let t := repairWaits.dev.onWin 0 fun w => { w with closing := true }
    (s.site 0).win.link = .halted ∧ (s.site 0).win.closing = false ∧ (s.site 0).cfg.haltMask.getLsbD 0 = true ∧
      s.reading { write true with ended := true } = true ∧ (t.site 0).win.closing = true ∧
      t.reading { write true with ended := true } = true := by decide +kernel

/-- A preparation that reads no band. -/
theorem witness_UncorrectableReadFaultsTheBand_noBand :
    ∀ k : PlateJob, Job.control (.notAvail { edition := 0, sect := 0, page := 1 } .noVersion) ≠ .plate k := by
  intro k h
  cases h

theorem witness_CancellationMakesRanksVoid :
    (delivering (some (0, 0))).record (delivery (some (0, 0))).ref.uid = some (page .released (some (entry false))) ∧
      (page .released (some (entry false))).uid = (delivery (some (0, 0))).ref.uid := by decide +kernel

/-- Site 0 with the delivery of page 1 current or queued, and a control list with room or without. -/
theorem witness_CancellationMakesRanksVoid_postings :
    let full := (delivering (some (0, 0))).onQueue 0 fun q => { q with
      control := List.replicate 16 (.notAvail { edition := 0, sect := 0, page := 1 } .noVersion) }
    let waits := (withPage (page .released none) Device.reset).onQueue 0 fun q => { q with queue := [queued .first] }
    ((delivering (some (0, 0))).site 0).win.link ≠ .disabled ∧ ((delivering (some (0, 0))).site 0).win.closing = false ∧
      ((delivering (some (0, 0))).site 0).q.control.length < 16 ∧ 16 ≤ (full.site 0).q.control.length ∧
      ((delivering (some (0, 0))).site 0).q.current = some (delivery (some (0, 0))) ∧
      (waits.site 0).q.current = none ∧ (∃ e ∈ (waits.site 0).q.queue, e.ref.uid = 0) ∧
      ∀ e ∈ (waits.site 0).q.queue, e.ref.uid ≠ 1 := by decide +kernel

/-- Site 0 with credit, a prepared block, or a rank marked for resend. -/
def credited (prepared : Option Block) (ranks : List Rank) : Device :=
  Device.reset.onSite 0 fun st => { st with
    win := { window .active ranks with prepared := prepared }, pace := { st.pace with credit := 1 } }

theorem witness_PortSendsForTheFirstEligibleSite_prepared :
    let d := credited (some (block .plate none)) [rank 0 .plate]
    (d.port 0).tx = none ∧ (d.site 0).cfg.port = 0 ∧ d.eligible 0 = true ∧
      (∀ j : SiteId, (d.site j).cfg.port = 0 → d.eligible j = true →
        ((0 : SiteId).val + 7 - (d.port 0).last.val) % 8 ≤ (j.val + 7 - (d.port 0).last.val) % 8) ∧
      (d.site 0).win.link = .active ∧ (∀ x ∈ (d.site 0).win.ranks, x.pending = false) ∧
      (d.site 0).win.prepared = some (block .plate none) ∧
      AckTimer.stopped = (if (d.site 0).win.ranks = [] then .running (d.site 0).cfg.ackTimeout else (d.site 0).win.ackTimer) := by
  decide +kernel

theorem witness_PortSendsForTheFirstEligibleSite_resend :
    let d := credited none [rank 0 .plate, { rank 1 .plate with pending := true }]
    (d.port 0).tx = none ∧ (d.site 0).cfg.port = 0 ∧ d.eligible 0 = true ∧
      (∀ j : SiteId, (d.site j).cfg.port = 0 → d.eligible j = true →
        ((0 : SiteId).val + 7 - (d.port 0).last.val) % 8 ≤ (j.val + 7 - (d.port 0).last.val) % 8) ∧
      (d.site 0).win.ranks = [rank 0 .plate] ++ { rank 1 .plate with pending := true } :: [] ∧
      (∀ x ∈ [rank 0 .plate], x.pending = false) ∧ (d.site 0).win.link = .active ∧
      AckTimer.running 20 = (if (d.site 0).win.link = .active ∧ ([rank 0 .plate] = [] ∨ (d.site 0).win.ackTimer ≠ .held)
        then .running (d.site 0).cfg.ackTimeout else (d.site 0).win.ackTimer) ∧
      (rank 1 .plate).block.slot = some 0 ∧ voidBlock.slot = none := by decide +kernel

/-- The 64th first transmission of a PLATE block in a gauge window, with as many resends as the high mark. -/
theorem witness_PortSendsForTheFirstEligibleSite_gauge :
    let d := (credited (some (block .plate none)) []).onPace 0 fun p => { p with refCount := 63, resendCount := 8 }
    d.eligible 0 = true ∧ 64 ≤ (d.site 0).pace.refCount + (if (block .plate none).kind = .plate then 1 else 0) ∧
      (d.site 0).cfg.highMark ≤ (d.site 0).pace.resendCount ∧
      ((askPort 0 d).site 0).pace.level ≠ (d.site 0).pace.level := by decide +kernel

/-- The same site in a quiesced part. -/
theorem witness_PortSendsForTheFirstEligibleSite_quiesced :
    let d := credited (some (block .plate none)) []
    ({ d with base := { d.base with quiesced := true } } : Device).base.quiesced = true := by decide +kernel

theorem witness_PortSendsForTheFirstEligibleSite_none :
    ∀ j : SiteId, (Device.reset.site j).cfg.port = 0 → Device.reset.eligible j = false := by decide +kernel

/-- Port 0 with a block of site 0 on the wire. -/
def onWire (kind : BlockKind) (closing : Bool) : State :=
  { State.reset with dev := ((Device.reset.onSite 0 fun st => { st with win := { window .active [] with closing := closing } }).onPort 0
      fun p => { p with tx := some { site := 0, kind, header := [], payload := [] } }) }

theorem witness_TransmissionEndFreesThePort :
    (State.reset.dev.port 0).tx = none ∧
      ((onWire .pageEnd false).dev.port 0).tx = some { site := 0, kind := .pageEnd, header := [], payload := [] } ∧
      ((onWire .pageEnd false).dev.site 0).win.closing = false ∧
      ((onWire .plate true).dev.port 0).tx = some { site := 0, kind := .plate, header := [], payload := [] } ∧
      ((onWire .plate true).dev.site 0).win.closing = true ∧
      ((onWire .pageEnd true).dev.port 0).tx = some { site := 0, kind := .pageEnd, header := [], payload := [] } ∧
      ((onWire .pageEnd true).dev.site 0).win.closing = true := by decide +kernel

/-- Site 0 ACTIVE with numbers 0 and 1 in its window. -/
def atRanks : State := atWin fun _ => window .active [rank 0 .plate, rank 1 .void]

theorem witness_AckAndMissAreMeasuredFromRankOne_frames :
    ReturnPasses (back 0x01 (halfBytes 1)) 0x01 (halfBytes 1) ∧ ReturnPasses (back 0x02 (halfBytes 1)) 0x02 (halfBytes 1) ∧
      atRanks.dev.Names 0 0 0 ∧ (atRanks.dev.site 0).win.link = .active ∧ (atRanks.dev.site 0).win.closing = false := by
  decide +kernel

/-- Distances of the numbers 1 (rank 2), 2 (beyond the newest rank), 7FFFh, 8000h and FFFFh (stale) from rank 1. -/
theorem witness_AckAndMissAreMeasuredFromRankOne_distances :
    let first := ((atRanks.dev.site 0).win.ranks.head?.elim (atRanks.dev.site 0).win.nextSeq fun r => r.seq)
    ((1#16 - first).toNat < (atRanks.dev.site 0).win.ranks.length ∧
      (∀ r ∈ (atRanks.dev.site 0).win.ranks.take ((1#16 - first).toNat + 1), r.block.kind ≠ .target ∧ r.block.kind ≠ .pageEnd)) ∧
      ((atRanks.dev.site 0).win.ranks.length ≤ (2#16 - first).toNat ∧ (0x7FFF#16 - first).toNat < 32768) ∧
      ((atRanks.dev.site 0).win.ranks.length ≤ (0x8000#16 - first).toNat ∧ 32768 ≤ (0x8000#16 - first).toNat ∧
        32768 ≤ (0xFFFF#16 - first).toNat) ∧
      (atRanks.dev.site 0).win.ranks = [rank 0 .plate] ++ rank 1 .void :: [] ∧
      [rank 0 .plate].length = (1#16 - first).toNat := by decide +kernel

/-- Numbers 0 and 1 in the window of a site in LINK_LOST. -/
theorem witness_AckAndMissAreMeasuredFromRankOne_linkLost :
    let d := atRanks.dev.onWin 0 fun w => { w with link := .linkLost }
    d.Names 0 0 0 ∧ (d.site 0).win.closing = false ∧ (d.site 0).win.link = .linkLost ∧
      (d.site 0).win.ranks = [rank 0 .plate] ++ rank 1 .void :: [] := by decide +kernel

/-- A site whose ack timer may run, and the same one paused, with the timer stopped or held. -/
theorem witness_AckAndMissAreMeasuredFromRankOne_timers :
    let d := atRanks.dev
    let e := d.onPace 0 fun p => { p with ready := false }
    let runs := fun (x : Device) => (x.site 0).win.link = .active ∧ (x.site 0).win.closing = false ∧
      (x.site 0).win.ranks ≠ [] ∧ ¬(((x.site 0).cfg.flow = .obey ∨ (x.site 0).cfg.flow = .gapObey) ∧
        (x.site 0).pace.ready = false) ∧ x.base.quiesced = false
    runs d ∧ ¬runs e ∧ (d.site 0).win.ackTimer = .stopped ∧
      (((e.onWin 0 fun w => { w with ackTimer := .held }).site 0).win.ackTimer = .held) := by decide +kernel

/-- An ACK of rank 1, which holds the PAGE_END of delivery 0, at a site in each state in which it is taken. -/
theorem witness_AckEndsDeliveriesAndAppliesTargets_frame :
    ReturnPasses (back 0x01 (halfBytes 0)) 0x01 (halfBytes 0) ∧ ∀ l ∈ [LinkState.active, .halted, .linkLost],
      let d := (delivering none).onWin 0 fun _ => window l [{ rank 0 .pageEnd with block := block .pageEnd (some 0) }]
      d.Names 0 0 0 ∧ (d.site 0).win.closing = false ∧ (d.site 0).win.link = l ∧
        0 = (0#16 - ((d.site 0).win.ranks.head?.elim (d.site 0).win.nextSeq fun r => r.seq)).toNat ∧
        0 < (d.site 0).win.ranks.length := by decide +kernel

/-- A rank that holds the PAGE_END of delivery 0, and one that holds a TARGET of stock 1, generation 3. -/
theorem witness_AckEndsDeliveriesAndAppliesTargets :
    let d := delivering none
    let e := (atGate 0).dev.onTarget 0 1 fun r => { r with latestGen := 3 }
    ({ rank 0 .pageEnd with block := block .pageEnd (some 0) } : Rank).block.kind = .pageEnd ∧
      (d.site 0).q.current = some (delivery none) ∧ (block .pageEnd (some 0)).delivery = some (delivery none).id ∧
      d.record 0 = some (page .released (some (entry false))) ∧
      ({ block .target none with target := some (1, 3) } : Block).target = some (1, 3) ∧
      3 = ((e.site 0).target 1).latestGen ∧ (e.site 0).tgt.gate = .wait 1 ∧
      (e.site 0).tone.arm = some { stock := 1, gated := true } ∧ (2 : Byte) ≠ ((e.site 0).target 1).latestGen ∧
      (rank 0 .plate).block.kind ≠ .target ∧ (rank 0 .plate).block.kind ≠ .pageEnd := by decide +kernel

/-- Page 1 RELEASED with every record final, retained or not, and with one SENDING. -/
theorem witness_AckEndsDeliveriesAndAppliesTargets_delivered :
    let v := page .released (some (entry false))
    let x := { v with records := modifyAt v.records 7 fun r => { r with state := .sending } }
    (withPage v Device.reset).record 0 = some v ∧ v.state = .released ∧
      (∀ j : SiteId, (v.at j).state ≠ .queued ∧ (v.at j).state ≠ .sending) ∧
      0 ∉ (withPage v Device.reset).retained ∧ 0 ∈ ({ withPage v Device.reset with retained := [0] } : Device).retained ∧
      (withPage x Device.reset).record 0 = some x ∧ (x.at 7).state = .sending ∧
      (page .delivered (some (entry false))).state ≠ .released := by decide +kernel

theorem witness_PauseAndResumeSetTheReadyFlag :
    ReturnPasses (back 0x03 []) 0x03 [] ∧ ReturnPasses (back 0x04 []) 0x04 [] ∧ atRanks.dev.Names 0 0 0 ∧
      (atRanks.dev.site 0).win.closing = false ∧ (atRanks.dev.site 0).win.link = .active ∧
      atProbe.dev.Names 0 0 0 ∧ (atProbe.dev.site 0).win.closing = false ∧ (atProbe.dev.site 0).win.link = .linkLost := by
  decide +kernel

/-- Site 0 in each link state. -/
def atLink (link : LinkState) : State := atWin fun _ => window link []

theorem witness_HelloOpensOrRestartsTheWindow_own :
    ReturnPasses (back 0x05 [1]) 0x05 [1] ∧ ReturnPasses (back 0x05 [0]) 0x05 [0] ∧
      (1 : Byte).getLsbD 0 = true ∧ (0 : Byte).getLsbD 0 = false ∧
      ∀ l ∈ [LinkState.waiting, .active, .linkLost, .halted], (atLink l).dev.Names 0 0 0 ∧
        ((atLink l).dev.site 0).win.closing = false ∧ ((atLink l).dev.site 0).win.link = l := by decide +kernel

theorem witness_HelloOpensOrRestartsTheWindow_otherPort :
    (∀ j : SiteId, (State.reset.dev.site j).cfg.port = 1 → (State.reset.dev.site j).cfg.code ≠ (back 0x05 [1]).code) ∧
      (∀ j : SiteId, (State.reset.dev.site j).cfg.code = (back 0x05 [1]).code → j = 0) ∧
      (State.reset.dev.site 0).cfg.code = (back 0x05 [1]).code := by decide +kernel

/-- A remake of page 1, all its separations, at site 0 in ACTIVE; edition 0 is planned common there. -/
def remakeAt (v : PageVersion) (queue : List QueueEntry) : State :=
  { State.reset with dev := ({ (withPage v Device.reset).onSite 0 fun st => { st with
      win := window .active [], q := { st.q with queue := queue } } with
        base := { Base.reset with plans := Vector.replicate 16 { Plan.reset with entries := Vector.replicate 8 (some 0) } } }) }

/-- Page 1 out and acknowledged at every site. -/
def ackedPage : PageVersion :=
  { page .released (some (entry false)) with
    records := Vector.replicate 8 { state := .acked, late := false, cause := none } }

theorem witness_RemakeIsTakenAbsorbedOrUnavailable_frame :
    ReturnPasses (back 0x06 [0, 0, 1, 15]) 0x06 [0, 0, 1, 15] ∧
      (remakeAt ackedPage []).dev.Names 0 0 0 ∧ ((remakeAt ackedPage []).dev.site 0).win.link = .active ∧
      ((remakeAt ackedPage []).dev.site 0).win.closing = false ∧
      (let d := (remakeAt ackedPage []).dev.onWin 0 fun w => { w with link := .linkLost }
       d.Names 0 0 0 ∧ (d.site 0).win.link = .linkLost ∧ (d.site 0).win.closing = false) := by decide +kernel

theorem witness_RemakeIsTakenAbsorbedOrUnavailable_cases :
    let pos : Position := { edition := 0, sect := 0, page := 1 }
    ((remakeAt ackedPage [queued .first]).dev.site 0).hasPosition pos = true ∧
      ((remakeAt ackedPage []).dev.site 0).hasPosition pos = false ∧
      (remakeAt { page .withdrawn none with key := keyOf key1 } []).dev.effectiveVersion 0 pos = none ∧
      (remakeAt (page .held (some (entry false))) []).dev.effectiveVersion 0 pos = some (page .held (some (entry false))) ∧
      (remakeAt (page .released (some (entry false))) []).dev.effectiveVersion 0 pos =
        some (page .released (some (entry false))) ∧
      ((page .released (some (entry false))).at 0).state ≠ .acked ∧
      (remakeAt ackedPage []).dev.effectiveVersion 0 pos = some ackedPage ∧ (ackedPage.at 0).state = .acked := by decide +kernel

/-- Where a NOTAVAIL is posted: at a DISABLED site, at one with room for one more entry and at one with none. -/
theorem witness_RemakeIsTakenAbsorbedOrUnavailable_postings :
    let notAvail := ControlEntry.notAvail { edition := 0, sect := 0, page := 1 } .noVersion
    let listed (n : Nat) : Device := (atLink .active).dev.onQueue 0 fun q => { q with control := List.replicate n notAvail }
    (Device.reset.site 0).win.link = .disabled ∧ ((listed 15).site 0).win.link ≠ .disabled ∧
      ((listed 15).site 0).win.closing = false ∧ ((listed 15).site 0).q.control.length < 16 ∧
      ((listed 16).site 0).win.link ≠ .disabled ∧ ((listed 16).site 0).win.closing = false ∧
      16 ≤ ((listed 16).site 0).q.control.length := by decide +kernel

/-- Site 0 ACTIVE, every edition planned for zone 3. -/
def planned : Device :=
  { Device.reset.onSite 0 fun st => { st with win := window .active [] } with
    base := { Base.reset with plans := Vector.replicate 16 { Plan.reset with entries := Vector.replicate 8 (some 3) } } }

/-- Page 1's version for zone 3, and its common version. -/
def zoned (state : VersionState) : PageVersion := { page state none with key := { keyOf key1 with zone := 3 } }

/-- The common version of page 1 beside a zone version. -/
def common : PageVersion := { page .released (some (entry false)) with uid := 1 }

/-- Both versions in the table, site 0 planned for zone 3. -/
def zonePlanned (state : VersionState) : Device := { planned with table := [zoned state, common] }

/-- The live zone version is taken before the common one, and the common one where the zone version is superseded. -/
theorem witness_RemakeIsTakenAbsorbedOrUnavailable_effective :
    (0 : Fin 16).val = (keyOf key1).pos.edition ∧
      3 = (entryOf (entryOf (zonePlanned .held).base.plans (0 : Fin 16)).entries 0).getD 0 ∧
      zoned .held ∈ (zonePlanned .held).table ∧
      (∀ x ∈ (zonePlanned .held).table, x.key = (zoned .held).key → x.state ≠ .superseded → x.state ≠ .withdrawn →
        x = zoned .held ∨ x.version < (zoned .held).version) ∧
      (zoned .held).key = { pos := (keyOf key1).pos, zone := 3 } := by decide +kernel

theorem witness_RemakeIsTakenAbsorbedOrUnavailable_common :
    common ∈ (zonePlanned .superseded).table ∧
      (∀ x ∈ (zonePlanned .superseded).table, x.key = common.key → x.state ≠ .superseded → x.state ≠ .withdrawn →
        x = common ∨ x.version < common.version) ∧
      (∀ x ∈ (zonePlanned .superseded).table, x.key = { pos := (keyOf key1).pos, zone := 3 } →
        x.state = .superseded ∨ x.state = .withdrawn) ∧
      common.key = { pos := (keyOf key1).pos, zone := 0 } ∧
      (∀ v ∈ (zonePlanned .held).table, v.key.pos.edition ≤ 15) ∧ Device.reset.table = [] := by decide +kernel

theorem witness_ReturnFramesAreOtherwiseDiscarded :
    (back 0x02 (halfBytes 1)).kind ≠ 0x01 ∧ State.reset.dev.Names 0 (back 0x01 (halfBytes 1)).code 0 ∧
      (State.reset.dev.site 0).win.link = .disabled ∧ (atLink .waiting).dev.Names 0 (back 0x01 (halfBytes 1)).code 0 ∧
      ((atLink .waiting).dev.site 0).win.link = .waiting ∧
      (∀ i : SiteId, (State.reset.dev.site i).cfg.port = 1 → (State.reset.dev.site i).cfg.code ≠ (back 0x01 [0, 1]).code) ∧
      ∀ i : SiteId, (State.reset.dev.site i).cfg.code ≠ ({ back 0x05 [1] with code := 8 } : ReturnFrame).code := by decide +kernel

theorem witness_RefusedCommandChangesNothing :
    (applyCommand (.enableSite 8) Device.reset).2.result ≠ .ok ∧ 8 ≤ (8 : Byte).toNat ∧ 4 ≤ (4 : Byte).toNat ∧
      Device.reset.lookup (keyOf key1) (versionOf key1) = none ∧ keyInRange key1 = true ∧ (7 : Byte).toNat < 8 ∧
      (0x80 : Byte).getLsbD 7 = true ∧ 2 ≤ (2 : Byte).toNat ∧ 1 ≤ (63 : Byte).toNat ∧ (63 : Byte).toNat ≤ 63 := by decide +kernel

theorem witness_QueriesReportAndChangeNothing :
    State.reset.dev.feed.Ready ∧ (7 : Byte).toNat = (7 : Fin 8).val ∧ 8 ≤ (8 : Byte).toNat ∧ keyInRange key0 = true ∧
      versionOf key0 = 0 ∧ keyInRange key1 = true ∧ versionOf key1 ≠ 0 ∧ (atPage (page .filling none)).dev.feed.Ready ∧
      (atPage (page .filling none)).dev.lookup (keyOf key1) (versionOf key1) = some (page .filling none) ∧
      State.reset.dev.lookup (keyOf key1) (versionOf key1) = none ∧
      keyInRange { key1 with zone := 8 } = false := by decide +kernel

/-- R26, R208: the flags of separations 0 and 2 stand behind the count 2, after the 20 bytes of a record without times
and approval, sixteen bytes for each. -/
theorem test_queryPage_countsSeparations :
    let v := { page .filling none with seps := 5, bands := #v[[some (entry false)], [], [none], []] }
    (pageReport (withPage v Device.reset) v)[20]? = some 2 ∧ (pageReport (withPage v Device.reset) v)[21]? = some 1 ∧
      (pageReport (withPage v Device.reset) v)[37]? = some 0 ∧
      (pageReport (withPage v Device.reset) v).length = 20 + 1 + 2 * 16 + 24 + 1 + 1 := by decide +kernel

/-- Versions 2 and 3 of page 1, opened in either order. -/
theorem witness_QueriesReportAndChangeNothing_versions :
    let a := { page .filling none with version := 2 }
    let b := { page .filling none with version := 3, uid := 1 }
    let d : Device := { Device.reset with table := [b, a] }
    (d.table.map PageVersion.uid).Nodup ∧ [a, b].Pairwise (fun v x => v.version < x.version) ∧
      ∀ v : PageVersion, v ∈ [a, b] ↔ v ∈ d.table ∧ v.key = keyOf key1 := by
  refine ⟨by decide, by decide, fun v => ?_⟩
  simp only [List.mem_cons, List.not_mem_nil, or_false]
  constructor
  · rintro (h | h)
    · subst h; exact ⟨.inr rfl, rfl⟩
    · subst h; exact ⟨.inl rfl, rfl⟩
  · rintro ⟨h | h, -⟩
    · exact .inr h
    · exact .inl h

theorem witness_QueriesReportAndChangeNothing_areas :
    (entryOf Device.reset.base.areas 0).enabled = true ∧ Device.reset.CellLaw ∧
      (entryOf Device.reset.base.areas 1).enabled = false ∧ 63 < 64 := by decide +kernel

/-- The fields of OPEN PAGE for page 1. -/
def opening : OpenPageArgs :=
  { key := key1, width := 4, height := 1, seps := 1, flags := 0, releaseAt := 0, latest := 0 }

theorem witness_OpenPageCreatesAFillingVersion :
    State.reset.dev.feed.Ready ∧ openInRange opening = true ∧ opening.seps.toNat ≠ 0 ∧ opening.seps.toNat < 16 ∧
      (∀ v ∈ State.reset.dev.table, v.key = keyOf opening.key → v.version < versionOf opening.key) ∧
      State.reset.dev.resolveArea opening.key.edition = some 0 ∧ State.reset.dev.table.length < 256 ∧
      openInRange { opening with width := 8193 } = false ∧ ({ opening with seps := 0 } : OpenPageArgs).seps.toNat = 0 ∧
      16 ≤ ({ opening with seps := 16 } : OpenPageArgs).seps.toNat := by decide +kernel

theorem witness_OpenPageCreatesAFillingVersion_stale :
    (atPage (page .filling none)).dev.feed.Ready ∧
      (atPage (page .filling none)).dev.highestPresent (keyOf opening.key) = some (page .filling none) ∧
      versionOf opening.key ≤ (page .filling none).version := by decide +kernel

/-- The highest of two versions; areas 2 and 6 that take edition 5, and none; and a retained list whose second version
is the first that is reclaimable. -/
theorem witness_OpenPageCreatesAFillingVersion_choices :
    let a := page .filling none
    let b := { page .filling none with version := 2, uid := 1 }
    let t : Device := { Device.reset with table := [b, a] }
    let area : Area := { enabled := true, base := 0, length := 1, mtch := 5, mask := 15 }
    let r : Device := { Device.reset with
      base := { Base.reset with areas := #v[Area.off, Area.off, area, Area.off, Area.off, Area.off, area, Area.off] } }
    let y := { page .delivered none with uid := 1 }
    let o : Device := { Device.reset with retained := [0, 1], table := [page .released none, y] }
    (b ∈ t.table ∧ b.key = keyOf key1 ∧ ∀ x ∈ t.table, x.key = keyOf key1 → x = b ∨ x.version < b.version) ∧
      ((entryOf r.base.areas 2).enabled = true ∧ 5#4 &&& (entryOf r.base.areas 2).mask =
          (entryOf r.base.areas 2).mtch &&& (entryOf r.base.areas 2).mask ∧
        (∀ m : Fin 8, m < 2 → (entryOf r.base.areas m).enabled = false) ∧
        ∀ n : Fin 8, (entryOf r.base.areas n).enabled = true → 4#4 &&& (entryOf r.base.areas n).mask ≠
          (entryOf r.base.areas n).mtch &&& (entryOf r.base.areas n).mask) ∧
      o.retained = [0] ++ y.uid :: [] ∧ o.record y.uid = some y ∧ o.reclaimable y = true ∧
      o.record 0 = some (page .released none) ∧ o.reclaimable (page .released none) = false := by decide +kernel

/-- Every area disabled; and a table of 256 versions of another page, none of them reclaimable. -/
theorem witness_OpenPageCreatesAFillingVersion_noRoom :
    ({ Device.reset with base := { Base.reset with areas := Vector.replicate 8 Area.off } } : Device).resolveArea 0 = none ∧
      (let d : Device := { Device.reset with table := List.replicate 256 { page .filling none with key := { (keyOf key1) with zone := 1 } } }
      d.feed.Ready ∧ d.resolveArea 0 = some 0 ∧ 256 ≤ d.table.length ∧ d.candidate (fun _ => true) = none ∧
        ∀ v ∈ d.table, v.key = keyOf opening.key → v.version < versionOf opening.key) := by decide +kernel

/-- A table of 256 versions of another page, all of them reclaimable. -/
theorem witness_OpenPageCreatesAFillingVersion_reclaim :
    let d : Device := { Device.reset with
      retained := [0]
      table := List.replicate 256 { page .delivered none with retained := some 0, key := { (keyOf key1) with zone := 1 } } }
    d.feed.Ready ∧ d.resolveArea 0 = some 0 ∧ 256 ≤ d.table.length ∧
      d.candidate (fun _ => true) =
        some { page .delivered none with retained := some 0, key := { (keyOf key1) with zone := 1 } } ∧
      ∀ v ∈ d.table, v.key = keyOf opening.key → v.version < versionOf opening.key := by decide +kernel

/-- The fields of APPROVE for page 1. -/
def approving (digest : Word) : ApproveArgs := { key := key1, station := 63, expected := digest }

theorem witness_ApproveRecordsOrChecks :
    1 ≤ (approving 0).station.toNat ∧ (approving 0).station.toNat ≤ 63 ∧
      ({ approving 0 with station := 0 } : ApproveArgs).station.toNat = 0 ∧
      63 < ({ approving 0 with station := 64 } : ApproveArgs).station.toNat ∧
      (atPage (page .filling none)).dev.feed.Ready ∧
      (atPage (page .filling none)).dev.lookup (keyOf key1) (versionOf key1) = some (page .filling none) ∧
      (atPage (page .held (some (entry false)))).dev.lookup (keyOf key1) (versionOf key1) =
        some (page .held (some (entry false))) ∧
      (approving (crc32 runs)).expected = (page .held (some (entry false))).digest ∧
      (approving 0).expected ≠ (page .held (some (entry false))).digest ∧
      (page .released (some (entry false))).state ≠ .filling ∧ (page .released (some (entry false))).state ≠ .held := by
  decide +kernel

theorem witness_WithdrawRetainsAndPurgeReclaims_withdraw :
    (atPage (page .released (some (entry false)))).dev.feed.Ready ∧
      (atPage (page .released (some (entry false)))).dev.lookup (keyOf key1) (versionOf key1) =
        some (page .released (some (entry false))) ∧
      (atPage (page .released (some (entry false)))).dev.record 0 = some (page .released (some (entry false))) ∧
      (page .released (some (entry false))).state ≠ .superseded ∧ (page .released (some (entry false))).state ≠ .withdrawn ∧
      (page .released (some (entry false))).key.zone = 0 ∧ (0 : Byte).getLsbD 0 = false ∧
      (page .released (some (entry false))).uid ∉ (atPage (page .released (some (entry false)))).dev.retained ∧
      (page .withdrawn none).state = .withdrawn ∧ (1 : Byte).getLsbD 0 = true := by decide +kernel

/-- Page 1 withdrawn and in the retained list. -/
def retainedPage : State :=
  { State.reset with dev := ({ withPage (page .withdrawn (some (entry false))) Device.reset with retained := [0] }) }

theorem witness_WithdrawRetainsAndPurgeReclaims_purge :
    retainedPage.dev.feed.Ready ∧
      retainedPage.dev.lookup (keyOf key1) (versionOf key1) = some (page .withdrawn (some (entry false))) ∧
      (page .withdrawn (some (entry false))).uid ∈ retainedPage.dev.retained ∧
      (page .withdrawn (some (entry false))).state = .withdrawn ∧
      (∀ i : SiteId, (retainedPage.dev.site i).holds 0 = false) ∧ retainedPage.dev.preparesVersion 0 = false ∧
      (page .held (some (entry false))).uid ∉ (atPage (page .held (some (entry false)))).dev.retained := by decide +kernel

/-- Site 0 and site 2 have acknowledged page 1 and are ACTIVE, site 2 with a full control list. -/
theorem witness_WithdrawRetainsAndPurgeReclaims_recall :
    let v := owing .acked false
    let full := List.replicate 16 (ControlEntry.notAvail { edition := 0, sect := 0, page := 1 } .noVersion)
    let d : Device := ((atPage v).dev.onWin 0 fun w => { w with link := .active }).onSite 2 fun st =>
      { st with win := { st.win with link := .active }, q := { st.q with control := full } }
    d.record v.uid = some v ∧
      [0, 2] = allSites.filter (fun i => decide ((v.at i).state = .acked ∧ (d.site i).win.link ≠ .disabled ∧
        (d.site i).win.closing = false)) ∧
      (d.site 1).win.link = .disabled ∧ (d.site 0).win.link ≠ .disabled ∧ (d.site 0).win.closing = false ∧
      (d.site 0).q.control.length < 16 ∧ 16 ≤ (d.site 2).q.control.length := by decide +kernel

/-- Version 1 of page 1's zone 3 withdrawn; its common version out; site 0 ACTIVE and planned for zone 3. -/
def reverting : Device := zonePlanned .withdrawn

theorem witness_WithdrawRetainsAndPurgeReclaims_revert :
    let w : PageVersion := zoned .withdrawn
    let c : PageVersion := common
    (0 : Fin 16).val = w.key.pos.edition ∧ w.key.zone ≠ 0 ∧
      (∀ v ∈ reverting.table, v.key = w.key → v.state = .superseded ∨ v.state = .withdrawn) ∧ c ∈ reverting.table ∧
      c.key = { w.key with zone := 0 } ∧ (c.state = .released ∨ c.state = .delivered) ∧
      (∀ x ∈ reverting.table, x.key = c.key → x.state = .released ∨ x.state = .delivered →
        x = c ∨ x.version < c.version) ∧
      [0] = allSites.filter (fun i => decide ((reverting.site i).win.link ≠ .disabled ∧
        (reverting.site i).win.closing = false ∧
        entryOf (entryOf reverting.base.plans (0 : Fin 16)).entries i = some w.key.zone ∧ (c.at i).state ≠ .acked ∧
        (reverting.site i).hasPosition w.key.pos = false)) ∧
      (page .withdrawn none).key.zone = 0 ∧
      (∀ v ∈ ({ reverting with table := [w] } : Device).table, v.key = { w.key with zone := 0 } →
        v.state ≠ .released ∧ v.state ≠ .delivered) := by decide +kernel

/-- Page 1 out, site 0 in a link state with a queue. -/
def sendAt (link : LinkState) (queue : List QueueEntry) : State :=
  { State.reset with dev := ((withPage (page .released (some (entry false))) Device.reset).onSite 0 fun st => { st with
      win := window link [], q := { st.q with queue := queue } }) }

/-- A queue entry of page 2. -/
def other (cls : DeliveryClass) : QueueEntry :=
  { queued cls with ref := { uid := 9, key := { keyOf key1 with pos := { edition := 0, sect := 0, page := 2 } }, version := 1 } }

theorem witness_SendPageEnqueuesAtTheSite :
    let s := sendAt .active ([other .remake, other .replate] ++ [other .first])
    s.dev.feed.Ready ∧ (0 : Byte).toNat = (0 : SiteId).val ∧ keyInRange key1 = true ∧
      s.dev.lookup (keyOf key1) (versionOf key1) = some (page .released (some (entry false))) ∧
      (s.dev.site 0).win.link ≠ .disabled ∧ (s.dev.site 0).win.closing = false ∧
      (s.dev.site 0).hasPosition (page .released none).key.pos = false ∧
      (s.dev.site 0).q.queue = [other .remake, other .replate] ++ [other .first] ∧
      (∀ e ∈ [other .remake, other .replate], e.cls ≠ .first) ∧ (∀ e ∈ [other .first], e.cls = .first) ∧
      ((sendAt .disabled []).dev.site 0).win.link = .disabled ∧
      ((sendAt .active [queued .first]).dev.site 0).hasPosition (page .released none).key.pos = true ∧
      (page .held none).state ≠ .released ∧ (page .held none).state ≠ .delivered := by decide +kernel

/-- Page 1 APPROVED, planned common at site 0, which is ACTIVE. -/
def releasing : Device := (remakeAt (page .approved (some (entry false))) []).dev

theorem witness_ReleaseSupersedesAndEnqueuesAtTargets :
    page .approved (some (entry false)) ∈ releasing.table ∧ (releasing.table.map PageVersion.uid).Nodup ∧
      (page .approved (some (entry false))).state = .approved ∧
      (page .approved (some (entry false))).records =
        Vector.replicate 8 { state := .none, late := false, cause := none } ∧
      [0] = allSites.filter ((supersede (keyOf key1) 1
        (releasing.onRecord 0 fun x => { x with state := .released })).targets (keyOf key1)) := by decide +kernel

/-- Version 3 of page 1 released over versions 1 and 2, of which site 0 has version 2 current or queued. -/
theorem witness_ReleaseSupersedesAndEnqueuesAtTargets_lower :
    let a := page .released (some (entry false))
    let b := { page .delivered (some (entry false)) with version := 2, uid := 1 }
    let d : Device := { Device.reset with table := [b, a] }
    (d.table.map PageVersion.uid).Nodup ∧ [a, b].Pairwise (fun x y => x.version < y.version) ∧
      (∀ x : PageVersion, x ∈ [a, b] ↔ x ∈ d.table ∧ x.key = keyOf key1 ∧ x.version < 3 ∧ x.state ≠ .superseded ∧
        x.state ≠ .withdrawn) ∧
      ((delivery none).ref.key.pos = (keyOf key1).pos ∧ (delivery none).ref.uid ≠ 2 ∧
        ((delivering none).site 0).q.queue.filter (fun e => decide (e.ref.key.pos = (keyOf key1).pos ∧ e.ref.uid ≠ 2)) = []) ∧
      (((sendAt .active [queued .first]).dev.site 0).q.current = none ∧
        ((sendAt .active [queued .first]).dev.site 0).q.queue.filter
          (fun e => decide (e.ref.key.pos = (keyOf key1).pos ∧ e.ref.uid ≠ 2)) = [queued .first]) := by
  refine ⟨by decide, by decide, fun x => ?_, by decide +kernel, by decide +kernel⟩
  constructor
  · intro h
    simp only [List.mem_cons, List.not_mem_nil, or_false] at h
    rcases h with h | h <;> subst h <;> decide +kernel
  · rintro ⟨h, -⟩
    simpa [or_comm] using h

/-- The places of the three classes in a queue; and the flags of a target set. -/
theorem witness_ReleaseSupersedesAndEnqueuesAtTargets_places :
    (∀ e ∈ [other .remake], e.cls = .remake) ∧ (∀ e ∈ [other .replate, other .first], e.cls ≠ .remake) ∧
      (∀ e ∈ [other .remake, other .replate], e.cls ≠ .first) ∧ (∀ e ∈ [other .first], e.cls = .first) ∧
      ∀ i : SiteId, (0x81 : Byte).getLsbD i.val = decide (i ∈ [(0 : SiteId), 7]) := by decide +kernel

/-- Versions 1 and 2 of page 1 and a version of page 2, all of which may be released. -/
theorem witness_ReleaseSupersedesAndEnqueuesAtTargets_evaluation :
    let a := page .approved (some (entry false))
    let b := { page .approved (some (entry false)) with version := 2, uid := 1 }
    let p2 := { page .approved (some (entry false)) with
      uid := 2, key := { keyOf key1 with pos := { edition := 0, sect := 0, page := 2 } } }
    let d : Device := { Device.reset with table := [p2, a, b] }
    (0 : Fin 16).val = a.key.pos.edition ∧ (d.table.map PageVersion.uid).Nodup ∧
      [b, p2].Pairwise (fun v x => v.key.before x.key = true) ∧
      ∀ v : PageVersion, v ∈ [b, p2] ↔ v ∈ d.table ∧ (fun _ : PageVersion => true) v = true ∧ d.releasable v = true ∧
        ∀ x ∈ d.table, (fun _ : PageVersion => true) x = true → d.releasable x = true → x.key = v.key →
          x.version ≤ v.version := by
  refine ⟨by decide, by decide, by decide, fun v => ?_⟩
  constructor
  · intro h
    simp only [List.mem_cons, List.not_mem_nil, or_false] at h
    rcases h with h | h <;> subst h <;> decide +kernel
  · rintro ⟨h, -, -, hx⟩
    simp only [List.mem_cons, List.not_mem_nil, or_false] at h
    rcases h with h | h | h
    · subst h; decide +kernel
    · subst h; exact absurd (hx _ (.tail _ (.tail _ (.head _))) rfl (by decide +kernel) rfl) (by decide)
    · subst h; decide +kernel

theorem witness_PlansAndTheNightClockAreSet :
    State.reset.dev.feed.Ready ∧ (15 : Byte).toNat = (15 : Fin 16).val ∧ 16 ≤ (16 : Byte).toNat ∧
      (∀ k : Fin 8, (entryOf #v[(0 : Byte), 7, 0xFF, 1, 2, 3, 4, 5] k).toNat ≤ 7 ∨
        entryOf #v[(0 : Byte), 7, 0xFF, 1, 2, 3, 4, 5] k = 0xFF) ∧
      (∃ k : Fin 8, 7 < (entryOf #v[(8 : Byte), 7, 0xFF, 1, 2, 3, 4, 5] k).toNat ∧
        entryOf #v[(8 : Byte), 7, 0xFF, 1, 2, 3, 4, 5] k ≠ 0xFF) ∧
      (863999 : Word).toNat ≤ 863999 ∧ 863999 < (864000 : Word).toNat := by decide +kernel

/-- DEFINE AREA of area 1. -/
def areaAt (base length : Nat) : DefineAreaArgs :=
  { area := 1, flags := 1, base := BitVec.ofNat 16 base, length := BitVec.ofNat 16 length, mtch := 0, mask := 0 }

/-- Its checks at their edges: the band region's end, an area with a version, one that shares cell 32 639 with area 0,
and one that passes when area 0 ends before it. -/
theorem witness_DefineAreaChecksInOrder :
    State.reset.dev.feed.Ready ∧ (areaAt 32639 1).area.toNat = (1 : Fin 8).val ∧
      (32640 < (areaAt 32639 2).base.toNat + (areaAt 32639 2).length.toNat) ∧ ((areaAt 0 0).length.toNat = 0) ∧
      (∃ v ∈ (atPage { page .filling none with area := 1 }).dev.table, v.area = 1) ∧
      ((entryOf State.reset.dev.base.areas 0).enabled = true ∧
        (areaAt 32639 1).base.toNat < (entryOf State.reset.dev.base.areas 0).base + (entryOf State.reset.dev.base.areas 0).length ∧
        (entryOf State.reset.dev.base.areas 0).base < (areaAt 32639 1).base.toNat + (areaAt 32639 1).length.toNat) ∧
      (let d := (after (exec (.defineArea 1 { areaAt 0 32639 with area := 0 }) State.reset) State.reset).dev
       ¬(areaAt 32639 1).base.toNat < (entryOf d.base.areas 0).base + (entryOf d.base.areas 0).length ∧
        (areaAt 32639 1).base.toNat + (areaAt 32639 1).length.toNat ≤ 32640 ∧ d.table = [] ∧
        (entryOf d.base.areas 1).enabled = false) := by decide +kernel

/-- SET SITE of site 0 with a code. -/
def setting (code : Half) : SetSiteArgs :=
  { site := 0, code, port := 3, flow := 2, gapLength := 300, ackTimeout := 0, retryLimit := 16, highMark := 64,
    lowMark := 63, gateTimeout := 256, haltMask := 0x7F, gains := #v[223, 224, 288, 289], minDot := 32, maxDot := 223,
    solidHold := 0 }

theorem witness_SetSiteClampsAndInstalls :
    State.reset.dev.feed.Ready ∧ (setting 99).site.toNat = (0 : SiteId).val ∧ (setting 99).port.toNat = (3 : PortId).val ∧
      (setting 99).flow = 2 ∧ (setting 99).haltMask.getLsbD 7 = false ∧ (setting 99).solidHold = 0 ∧
      (∀ k : SiteId, k ≠ 0 → (State.reset.dev.site k).cfg.code ≠ (setting 99).code) ∧
      (∃ k : SiteId, k ≠ 0 ∧ (State.reset.dev.site k).cfg.code = (setting 7).code) := by decide +kernel

theorem witness_EnableSiteGoesToWaiting :
    State.reset.dev.feed.Ready ∧ (7 : Byte).toNat = (7 : SiteId).val ∧ (State.reset.dev.site 7).win.link = .disabled ∧
      (∀ k : Stock, (entryOf State.reset.dev.base.groups k).set = false) ∧
      (atLink .waiting).dev.feed.Ready ∧ ((atLink .waiting).dev.site 0).win.link ≠ .disabled := by decide +kernel

theorem witness_DisableSiteEmptiesTheSite :
    State.reset.dev.feed.Ready ∧ (0 : Byte).toNat = (0 : SiteId).val ∧ (State.reset.dev.site 0).win.link = .disabled ∧
      (atLink .active).dev.feed.Ready ∧ ((atLink .active).dev.site 0).win.link ≠ .disabled ∧
      ((atLink .active).dev.site 0).win.closing = false ∧ (atLink .active).dev.transmitting 0 = false ∧
      (onWire .plate false).dev.feed.Ready ∧ (onWire .plate false).dev.transmitting 0 = true ∧
      ((onWire .plate false).dev.site 0).win.link ≠ .disabled ∧ ((onWire .plate false).dev.site 0).win.closing = false := by
  decide +kernel

/-- A site that transmits, with page 1 current and page 2 queued, whose records the command cancels. -/
theorem witness_DisableSiteEmptiesTheSite_deliveries :
    let second : PageVersion := { page .released none with uid := 1, key := keyOf { key1 with page := 2 } }
    let e : QueueEntry := { queued .first with ref := { uid := 1, key := second.key, version := 1 } }
    let d := { (onWire .plate false).dev with table := [page .released none, second] }.onQueue 0 fun q =>
      { q with queue := [e], current := some (delivery none) }
    d.feed.Ready ∧ (d.site 0).win.link ≠ .disabled ∧ (d.site 0).win.closing = false ∧ d.transmitting 0 = true ∧
      (d.site 0).q.current = some (delivery none) ∧ d.record (delivery none).ref.uid = some (page .released none) ∧
      (d.site 0).q.queue = [e] ∧ d.record e.ref.uid = some second := by
  decide +kernel

/-- A halt record. -/
def halted : HaltRecord := { details := .linkLost 6 0, clock := none, resume := .active }

/-- Site 0 HALTED with a gap timer that does not count. -/
def atHalt : State :=
  atSite 0 fun st => { st with
    win := window .halted [], halt := some halted, pace := { st.pace with gap := some 1 }, cfg := { st.cfg with gapLength := 9 } }

theorem witness_ResumeSiteLeavesTheHalt :
    State.reset.dev.feed.Ready ∧ (0 : Byte).toNat = (0 : SiteId).val ∧ (State.reset.dev.site 0).win.link ≠ .halted ∧
      atHalt.dev.feed.Ready ∧ (atHalt.dev.site 0).win.link = .halted ∧ (atHalt.dev.site 0).win.closing = false ∧
      (atHalt.dev.site 0).halt = some halted := by decide +kernel

theorem witness_AllotmentsAndPeriodsAreStaged :
    State.reset.dev.feed.Ready ∧ (7 : Byte).toNat = (7 : SiteId).val ∧ 8 ≤ (8 : Byte).toNat ∧
      (3 : Byte).toNat = (3 : PortId).val ∧ 4 ≤ (4 : Byte).toNat := by decide +kernel

/-- Knots that rise by 300 to the clamp of 4080, and knots whose third is below their second. -/
theorem witness_LoadCurveTakesOnlyValidCurves :
    let rising : Vector Half 17 := Vector.ofFn fun j : Fin 17 => BitVec.ofNat 16 (300 * j.val)
    let falling : Vector Half 17 := Vector.ofFn fun j : Fin 17 => if j.val = 1 then 5000#16 else 0#16
    State.reset.dev.feed.Ready ∧ (7 : Byte).toNat = (7 : SiteId).val ∧ (3 : Byte).toNat = (3 : Sep).val ∧
      8 ≤ (8 : Byte).toNat ∧ 4 ≤ (4 : Byte).toNat ∧
      (∀ j : Fin 16, (rising.map fun x => min x.toNat 4080)[j.val] ≤ (rising.map fun x => min x.toNat 4080)[j.val + 1]) ∧
      (falling.map fun x => min x.toNat 4080)[2] < (falling.map fun x => min x.toNat 4080)[1] ∧
      ∀ l : Fin 16, l < 1 →
        (falling.map fun x => min x.toNat 4080)[l.val] ≤ (falling.map fun x => min x.toNat 4080)[l.val + 1] := by
  decide +kernel

/-- The part with the group target of stock 1 set. -/
def withGroup (d : Device) : Device :=
  { d with base := { d.base with groups := modifyAt d.base.groups 1 fun g => { g with set := true } } }

theorem witness_ArmCurvesArmsOrCancels :
    State.reset.dev.feed.Ready ∧ (7 : Byte).toNat = (7 : SiteId).val ∧ (1 : Byte).toNat = (1 : Stock).val ∧
      (2 : Byte).getLsbD 1 = true ∧ (1 : Byte).getLsbD 1 = false ∧ (1 : Byte).getLsbD 0 = true ∧
      (entryOf State.reset.dev.base.groups 1).set = false ∧ (0 : Byte).getLsbD 0 = false ∧
      (withGroup Device.reset).feed.Ready ∧ (entryOf (withGroup Device.reset).base.groups 1).set = true := by decide +kernel

/-- The aims a production of stock 1 makes from a group target of 0 and offsets of 0. -/
theorem witness_ProductionMakesAndPostsTheSiteTarget :
    let d := withGroup (atLink .active).dev
    let o := entryOf (d.site 0).tgt.offsets 1
    let g := (entryOf d.base.groups 1).aims
    (∀ s : Sep, entryOf Aims.zero.density s =
        (min (max (((entryOf g.density s : Nat) : Int) + entryOf o.density s) (o.low : Int)) (o.high : Int)).toNat) ∧
      (∀ j : Fin 8, entryOf Aims.zero.tvi j = (min (max (((entryOf g.tvi j : Nat) : Int) + entryOf o.tvi j) 0) 50).toNat) ∧
      (1 : Byte) = ((d.site 0).target 1).latestGen + 1 ∧ (State.reset.dev.site 0).win.link = .disabled ∧
      (d.site 0).win.link ≠ .disabled ∧ (d.site 0).win.closing = false ∧ (entryOf d.base.groups 1).set = true ∧
      (∀ e ∈ (d.site 0).q.control, e.isTarget 1 = false) ∧ (d.site 0).q.control.length < 16 := by decide +kernel

/-- A control list of sixteen NOTAVAIL entries, and one with a TARGET of stock 1 among others. -/
theorem witness_ProductionMakesAndPostsTheSiteTarget_lists :
    let full := List.replicate 16 (ControlEntry.notAvail { edition := 0, sect := 0, page := 1 } .noVersion)
    (∀ e ∈ full, e.isTarget 1 = false) ∧ 16 ≤ full.length ∧
      ∀ e ∈ full.take 1 ++ [ControlEntry.target 2 1 Aims.zero], e.isTarget 1 = false := by decide +kernel

theorem witness_TargetCommandsHoldClampedValues :
    State.reset.dev.feed.Ready ∧
      ({ stock := 3, density := #v[250, 251, 0, 0], tvi := Vector.replicate 8 51 } : SetGroupTargetArgs).stock.toNat =
        (3 : Stock).val ∧
      (∀ j : SiteId, (State.reset.dev.site j).usesStock 3 = false) ∧
      (let a : SetSiteTargetArgs :=
        { site := 7, stock := 3, density := #v[30, 31, 0xFFE2, 0xFFE1], tvi := Vector.replicate 8 11, low := 251, high := 250 }
      a.site.toNat = (7 : SiteId).val ∧ a.stock.toNat = (3 : Stock).val) := by decide +kernel

/-- The sites that print or are armed with stock 1: site 2 prints it and site 5 is armed with it. -/
theorem witness_TargetCommandsHoldClampedValues_sites :
    let d := (Device.reset.onSite 2 fun st => { st with tone := { st.tone with active := { st.tone.active with stock := 1 } } }).onSite 5
      fun st => { st with tone := { st.tone with arm := some { stock := 1, gated := false } } }
    ([2, 5] : List SiteId).Pairwise (fun i j => i < j) ∧ (d.site 2).tone.active.stock = 1 ∧
      (d.site 5).tone.arm = some { stock := 1, gated := false } ∧
      ∀ i : SiteId, i ∉ ([2, 5] : List SiteId) → (d.site i).tone.active.stock ≠ 1 ∧ (d.site i).tone.arm = none := by
  decide +kernel

/-- The part quiesced. -/
def quiesced : State := { State.reset with dev := ({ Device.reset with base := { Base.reset with quiesced := true } }) }

theorem witness_QuiesceStopsAndResumeRestarts :
    State.reset.dev.feed.Ready ∧ State.reset.dev.base.quiesced = false ∧ quiesced.dev.feed.Ready ∧
      quiesced.dev.base.quiesced = true := by decide +kernel

/-- Site 0 as QUIESCE finds or leaves it: its ack timer stopped or held, its probe timer stopped. -/
theorem witness_QuiesceStopsAndResumeRestarts_timers :
    (quiesced.dev.site 0).win.ackTimer = .stopped ∧ (quiesced.dev.site 0).win.probeTimer = none ∧
      ((atWin fun _ => { window .active [rank 0 .plate] with ackTimer := .held }).dev.site 0).win.ackTimer = .held := by
  decide +kernel

/-- Site 0 in GATE_WAIT in a quiesced part: ready to start page 1, its armed stock acknowledged or not. -/
theorem witness_QuiesceStopsAndResumeRestarts_gate :
    ∀ g ∈ [0#8, 1#8],
      let s : State := { quiesced with dev := ((quiesced.dev.onSite 0 fun st => { st with
        win := window .active [], q := { st.q with queue := [queued .first] }
        tone := { st.tone with arm := some { stock := 1, gated := true } }
        tgt := { st.tgt with gate := .wait 1 } }).onTarget 0 1 fun r => { r with latestGen := g }) }
      s.dev.feed.Ready ∧ s.dev.base.quiesced = true ∧ (s.dev.site 0).tgt.gate = .wait 1 ∧
        (s.dev.site 0).tone.arm = some { stock := 1, gated := true } ∧ (s.dev.site 0).startReady = true ∧
        (((s.dev.site 0).target 1).ackedGen = ((s.dev.site 0).target 1).latestGen ↔ g = 0) := by decide +kernel

theorem witness_DayResetDiscardsTheNight :
    (writing (write false) (delivering none)).dev.feed.Ready ∧
      entryOf (writing (write false) (delivering none)).dev.feed.buffers 0 = .writing (write false) ∧
      ((writing (write false) (delivering none)).dev.site 0).win.closing = false ∧
      ((writing (write false) (delivering none)).dev.site 0).win.link ≠ .disabled ∧
      ((writing (write false) (delivering none)).dev.site 1).win.link = .disabled ∧
      ((writing (write false) (delivering none)).dev.site 1).win.closing = false ∧
      (onWire .plate true).dev.feed.Ready ∧ ((onWire .plate true).dev.site 0).win.closing = true := by decide +kernel

theorem witness_TimesAreReachedUnderTheHorizon :
    let c : Clock := { count := 431999, unset := false }
    c.count < 864000 ∧ (0 : Nat) < 864000 ∧ c.unset = false ∧ (431999 : Nat) < 432000 ∧ (0 + 431999) % 864000 = c.count ∧
      (c.count + 432000) % 864000 = 863999 ∧ (c.count + 1) % 864000 = 432000 ∧ (c.count + 432001) % 864000 = 0 ∧
      (c.count + 863999) % 864000 = 431998 := by decide +kernel

theorem witness_CompensationFollowsItsStages :
    workedCurve.Valid ∧ 224 ≤ 240 ∧ 240 ≤ 288 ∧ 4 ≤ 31 ∧ 224 ≤ 245 ∧ 245 ≤ 255 ∧ 255 ≤ 255 ∧ 15 = min (255 / 16) 15 ∧
      workedCurve[15]? = some 2400 ∧ workedCurve[15 + 1]? = some 4080 ∧
      4080 = 2400 + (2 * (4080 - 2400) * (255 - 16 * 15) + 15) / (2 * 15) ∧ 3825 = min ((4080 * 240 + 128) / 256) 4080 ∧
      239 = (3825 + 8) / 16 := by decide +kernel

theorem witness_CompensationNeverDecreases : identityCurve.Valid ∧ 224 ≤ 224 ∧ 288 ≤ 288 ∧ 0 ≤ 31 ∧ 254 ≤ 255 := by
  decide +kernel

/-! The laws of Safety.lean hold of the part right after reset (`Obligations.EveryLawHoldsAtReset` states that), and a
step from it goes on: their witnesses are the reset state with one tick waiting, and the next state. -/

/-- The part right after reset with a 1 ms tick waiting. -/
def ticking : State := { State.reset with pending := [.tick1ms] }

theorem witness_EveryStepKeepsTheStoreCanonical :
    Memory.wf ticking.dev.store ∧ (after (step ticking) ticking).dev.base.ms = 1 := by decide +kernel

theorem witness_EveryStepKeepsTheCapacities :
    ticking.dev.feed.Law ∧ ticking.dev.TableLaw ∧ ticking.dev.ControlLaw := by
  refine ⟨⟨by decide, by decide, by decide, by decide, .inl rfl, fun t h => ?_⟩, by decide, by decide⟩
  cases h

theorem witness_EveryStepKeepsTheRanges : ticking.dev.RangeLaw := by
  refine ⟨⟨?_, ?_⟩, ?_, by decide, by decide +kernel, ?_, ?_, ?_⟩
  · decide +kernel
  · decide +kernel
  · decide +kernel
  · decide +kernel
  · intro p
    have h : (ticking.dev.port p).staged = none := by revert p; decide
    refine ⟨by revert p; decide, fun n hn => ?_, by revert p; decide, by revert p; decide⟩
    rw [h] at hn
    cases hn
  · intro i
    refine ⟨?_, ?_, ?_, ?_, ?_, fun k => ⟨?_, ?_, ?_, ?_⟩⟩
    · revert i; decide +kernel
    · revert i; decide +kernel
    · revert i; decide +kernel
    · revert i; decide +kernel
    · revert i; decide +kernel
    · revert k i; decide +kernel
    · revert k i; decide +kernel
    · revert k i; decide +kernel
    · revert k i; decide +kernel

theorem witness_EveryStepKeepsTheCreditLaw : ticking.dev.CreditLaw := by
  refine ⟨⟨by decide, fun p h => ?_⟩, by decide⟩
  cases h

theorem witness_EveryStepKeepsTheWindowLaw : ticking.dev.WindowLaw ∧ ticking.dev.LinkLaw := by
  refine ⟨⟨fun i => ⟨?_, ?_⟩, fun p h => ?_⟩, fun i => ⟨?_, ?_, ?_, ?_⟩⟩
  · revert i; decide
  · have h : ∀ j : SiteId, (ticking.dev.site j).win.ranks = [] := by decide
    rw [h i]; trivial
  · cases h
  · revert i; decide
  · revert i; decide
  · revert i; decide
  · revert i; decide

theorem witness_EveryStepKeepsTheCellLaw : ticking.dev.CellLaw := by decide +kernel

theorem witness_EveryStepKeepsThePositionLaw : ticking.dev.PositionLaw := by decide +kernel

theorem witness_EveryStepKeepsTheApprovalLaw : ticking.dev.ApprovalLaw := by
  refine ⟨by decide, by decide, fun v h => ?_⟩
  cases h

end Sys2Proof.Tests
end

section
/-!
SUPPORT. The tone engine stage by stage (R85 to R88): the segment and the interpolation of a valid curve, the gain, the
conversion to tone steps and the holds, each with its bounds and its monotonicity, and the compensation they make up
(R89).
-/

namespace Sys2Proof.Machine

/-! ## The segment (R85) -/

theorem segment_le (v : Nat) : segment v ≤ 15 := by unfold segment; omega

theorem segment_mono {u v : Nat} (h : u ≤ v) : segment u ≤ segment v := by unfold segment; omega

theorem segment_start_le (v : Nat) : 16 * segment v ≤ v := by unfold segment; omega

theorem segment_eq_last_iff (v : Nat) : segment v = 15 ↔ 240 ≤ v := by unfold segment; omega

theorem segmentOffset_le {v : Nat} (h : v ≤ 255) : v - 16 * segment v ≤ 15 := by unfold segment; omega

theorem segmentWidth_bounds (j : Nat) : 15 ≤ segmentWidth j ∧ segmentWidth j ≤ 16 := by
  unfold segmentWidth; split <;> omega

/-- The offset of a tone value never passes the width of its segment. -/
theorem segmentOffset_le_width {v : Nat} (h : v ≤ 255) : v - 16 * segment v ≤ segmentWidth (segment v) :=
  Nat.le_trans (segmentOffset_le h) (segmentWidth_bounds _).1

/-! ## The knots of a valid curve (R76) -/

theorem knot_eq_of_getElem? {k : Curve} {j x : Nat} (h : k[j]? = some x) : knot k j = x := by
  simp [knot, h]

theorem knot_eq_getElem (k : Curve) {j : Nat} (h : j < 17) : knot k j = k[j] := by
  simp [knot, h]

theorem knot_le_next {k : Curve} (hk : k.Valid) {j : Nat} (h : j ≤ 15) : knot k j ≤ knot k (j + 1) := by
  rw [knot_eq_getElem k (by omega), knot_eq_getElem k (by omega)]
  exact hk.1 ⟨j, by omega⟩

theorem knot_mono {k : Curve} (hk : k.Valid) {a b : Nat} (hab : a ≤ b) (hb : b ≤ 16) : knot k a ≤ knot k b := by
  induction hab with
  | refl => exact Nat.le_refl _
  | step _ ih => exact Nat.le_trans (ih (by omega)) (knot_le_next hk (by omega))

theorem knot_le {k : Curve} (hk : k.Valid) {j : Nat} (h : j ≤ 16) : knot k j ≤ 4080 := by
  rw [knot_eq_getElem k (by omega)]
  exact hk.2 ⟨j, by omega⟩

/-! ## The interpolation (R86) -/

/-- The share that `off` of `w` steps take of a rise by `d`, rounded to the nearest (R86). -/
def roundedShare (d w off : Nat) : Nat := (2 * d * off + w) / (2 * w)

theorem interpolate_eq (k : Curve) (v : Nat) :
    interpolate k v = knot k (segment v) +
      roundedShare (knot k (segment v + 1) - knot k (segment v)) (segmentWidth (segment v)) (v - 16 * segment v) := rfl

theorem roundedShare_zero {d w : Nat} (hw : 0 < w) : roundedShare d w 0 = 0 := by
  unfold roundedShare
  exact Nat.div_eq_of_lt (by omega)

theorem roundedShare_full {d w : Nat} (hw : 0 < w) : roundedShare d w w = d := by
  have h : 2 * d * w + w = w + 2 * w * d := by rw [Nat.mul_right_comm, Nat.add_comm]
  unfold roundedShare
  rw [h, Nat.add_mul_div_left _ _ (by omega), Nat.div_eq_of_lt (by omega), Nat.zero_add]

theorem roundedShare_mono {d w a b : Nat} (h : a ≤ b) : roundedShare d w a ≤ roundedShare d w b := by
  unfold roundedShare
  exact Nat.div_le_div_right (Nat.add_le_add_right (Nat.mul_le_mul_left _ h) _)

theorem roundedShare_le {d w off : Nat} (hw : 0 < w) (h : off ≤ w) : roundedShare d w off ≤ d :=
  Nat.le_trans (roundedShare_mono h) (Nat.le_of_eq (roundedShare_full hw))

theorem knot_le_interpolate (k : Curve) (v : Nat) : knot k (segment v) ≤ interpolate k v := by
  rw [interpolate_eq]
  exact Nat.le_add_right _ _

theorem interpolate_le_knot {k : Curve} (hk : k.Valid) {v : Nat} (hv : v ≤ 255) :
    interpolate k v ≤ knot k (segment v + 1) := by
  have hrise := knot_le_next hk (segment_le v)
  have hw := (segmentWidth_bounds (segment v)).1
  have hshare := roundedShare_le (d := knot k (segment v + 1) - knot k (segment v)) (by omega)
    (segmentOffset_le_width hv)
  rw [interpolate_eq]
  omega

theorem interpolate_at_knot (k : Curve) {v : Nat} (h : v = 16 * segment v) : interpolate k v = knot k (segment v) := by
  have hw := (segmentWidth_bounds (segment v)).1
  rw [interpolate_eq, show v - 16 * segment v = 0 by omega, roundedShare_zero (by omega), Nat.add_zero]

theorem interpolate_at_end {k : Curve} (hk : k.Valid) : interpolate k 255 = knot k 16 := by
  have hrise : knot k 15 ≤ knot k 16 := knot_le_next hk (Nat.le_refl 15)
  calc interpolate k 255 = knot k 15 + roundedShare (knot k 16 - knot k 15) 15 15 := rfl
    _ = knot k 15 + (knot k 16 - knot k 15) := by rw [roundedShare_full (by decide)]
    _ = knot k 16 := by omega

theorem interpolate_le {k : Curve} (hk : k.Valid) {v : Nat} (hv : v ≤ 255) : interpolate k v ≤ 4080 :=
  Nat.le_trans (interpolate_le_knot hk hv) (knot_le hk (Nat.succ_le_succ (segment_le v)))

/-- Within a segment the share rises with the offset; two different segments are parted by the knot between them. -/
theorem interpolate_mono {k : Curve} (hk : k.Valid) {u v : Nat} (huv : u ≤ v) (hv : v ≤ 255) :
    interpolate k u ≤ interpolate k v := by
  obtain hseg | hseg := Nat.eq_or_lt_of_le (segment_mono huv)
  · rw [interpolate_eq, interpolate_eq, hseg]
    exact Nat.add_le_add_left (roundedShare_mono (by omega)) _
  · have hlast := segment_le v
    calc interpolate k u ≤ knot k (segment u + 1) := interpolate_le_knot hk (Nat.le_trans huv hv)
      _ ≤ knot k (segment v) := knot_mono hk hseg (by omega)
      _ ≤ interpolate k v := knot_le_interpolate k v

/-! ## The gain and the conversion to tone steps (R87) -/

theorem applyGain_mono {x y : Nat} (g : Nat) (h : x ≤ y) : applyGain x g ≤ applyGain y g := by
  have hproduct : x * g ≤ y * g := Nat.mul_le_mul_right g h
  unfold applyGain
  omega

theorem applyGain_le (y g : Nat) : applyGain y g ≤ 4080 := Nat.min_le_right _ _

theorem applyGain_gain_mono (y : Nat) {g h : Nat} (hgh : g ≤ h) : applyGain y g ≤ applyGain y h := by
  have hproduct : y * g ≤ y * h := Nat.mul_le_mul_left y hgh
  unfold applyGain
  omega

/-- A gain of 256 is the neutral one. -/
theorem applyGain_neutral {y : Nat} (h : y ≤ 4080) : applyGain y 256 = y := by
  unfold applyGain; omega

theorem toTone_mono {x y : Nat} (h : x ≤ y) : toTone x ≤ toTone y := by unfold toTone; omega

theorem toTone_le {z : Nat} (h : z ≤ 4080) : toTone z ≤ 255 := by unfold toTone; omega

/-! ## The holds (R88) -/

section
variable {u v s t minDot maxDot : Nat} {hold : Bool}

theorem applyHolds_fst : (applyHolds v t minDot maxDot hold).1 =
    if v = 0 then 0 else if v = 255 ∧ hold = true then 255 else if t < minDot then minDot
      else if v ≤ 254 ∧ maxDot < t then maxDot else t := by
  simp only [applyHolds, apply_ite Prod.fst]

theorem applyHolds_snd : (applyHolds v t minDot maxDot hold).2 = true ↔
    v ≠ 0 ∧ ¬(v = 255 ∧ hold = true) ∧ (t < minDot ∨ v ≤ 254 ∧ maxDot < t) := by
  unfold applyHolds
  by_cases hzero : v = 0
  · simp [hzero]
  by_cases hsolid : v = 255 ∧ hold = true
  · simp [hsolid]
  by_cases hlow : t < minDot
  · rw [if_neg hzero, if_neg hsolid, if_pos hlow]
    exact iff_of_true rfl ⟨hzero, hsolid, .inl hlow⟩
  by_cases hhigh : v ≤ 254 ∧ maxDot < t
  · rw [if_neg hzero, if_neg hsolid, if_neg hlow, if_pos hhigh]
    exact iff_of_true rfl ⟨hzero, hsolid, .inr hhigh⟩
  · rw [if_neg hzero, if_neg hsolid, if_neg hlow, if_neg hhigh]
    exact iff_of_false Bool.false_ne_true fun ⟨_, _, hheld⟩ => hheld.elim hlow hhigh

/-- A tone value that is neither 0 nor 255 is held between the two dots. -/
theorem applyHolds_inner (h1 : 1 ≤ v) (h254 : v ≤ 254) (hdots : minDot ≤ maxDot) :
    (applyHolds v t minDot maxDot hold).1 = min (max t minDot) maxDot := by
  rw [applyHolds_fst, if_neg (by omega), if_neg fun h => by omega]
  split
  · omega
  · split <;> omega

theorem applyHolds_zero : (applyHolds 0 t minDot maxDot hold).1 = 0 := rfl

/-- The tone value 255 is solid or held from below only. -/
theorem applyHolds_solid :
    (applyHolds 255 t minDot maxDot hold).1 = if hold = true then 255 else max t minDot := by
  cases hold with
  | true => rfl
  | false =>
    have hfloor : (applyHolds 255 t minDot maxDot false).1 = if t < minDot then minDot else t := by
      simp [applyHolds_fst]
    rw [hfloor, if_neg Bool.false_ne_true]
    split <;> omega

theorem applyHolds_le (ht : t ≤ 255) (hmin : minDot ≤ 255) (hmax : maxDot ≤ 255) :
    (applyHolds v t minDot maxDot hold).1 ≤ 255 := by
  rw [applyHolds_fst]
  repeat' split
  all_goals omega

/-- A greater tone value with a greater result before the holds has a greater result after them. -/
theorem applyHolds_mono (huv : u ≤ v) (hv : v ≤ 255) (hst : s ≤ t) (hdots : minDot ≤ maxDot)
    (hmax : maxDot ≤ 255) :
    (applyHolds u s minDot maxDot hold).1 ≤ (applyHolds v t minDot maxDot hold).1 := by
  obtain rfl | hzero := Nat.eq_zero_or_pos u
  · rw [applyHolds_zero]
    exact Nat.zero_le _
  obtain rfl | hinner := Nat.eq_or_lt_of_le hv
  · obtain rfl | hlt := Nat.eq_or_lt_of_le huv
    · rw [applyHolds_solid, applyHolds_solid]
      split <;> omega
    · rw [applyHolds_inner hzero (by omega) hdots, applyHolds_solid]
      split <;> omega
  · rw [applyHolds_inner hzero (by omega) hdots, applyHolds_inner (by omega) (by omega) hdots]
    omega
end

/-! ## The compensation as a whole (R88, R89) -/

/-- The result of the stages before the holds is a tone value. -/
theorem toTone_applyGain_le (y g : Nat) : toTone (applyGain y g) ≤ 255 := toTone_le (applyGain_le y g)

theorem compensate_le (k : Curve) (gain : Nat) {minDot maxDot : Nat} (hold : Bool) (v : Nat) (hmin : minDot ≤ 255)
    (hmax : maxDot ≤ 255) : (compensate k gain minDot maxDot hold v).1 ≤ 255 :=
  applyHolds_le (toTone_applyGain_le _ gain) hmin hmax

theorem compensate_between (k : Curve) (gain : Nat) {minDot maxDot v : Nat} (hold : Bool) (hdots : minDot ≤ maxDot)
    (h1 : 1 ≤ v) (h254 : v ≤ 254) :
    minDot ≤ (compensate k gain minDot maxDot hold v).1 ∧ (compensate k gain minDot maxDot hold v).1 ≤ maxDot := by
  rw [compensate, applyHolds_inner h1 h254 hdots]
  omega

/-- Each stage is monotone, and so is their composition. -/
theorem compensate_mono {k : Curve} (hk : k.Valid) (gain : Nat) {minDot maxDot u v : Nat} (hold : Bool)
    (hdots : minDot ≤ maxDot) (hmax : maxDot ≤ 255) (huv : u ≤ v) (hv : v ≤ 255) :
    (compensate k gain minDot maxDot hold u).1 ≤ (compensate k gain minDot maxDot hold v).1 :=
  applyHolds_mono huv hv (toTone_mono (applyGain_mono gain (interpolate_mono hk huv hv))) hdots hmax

/-- Settles O51, stage by stage: interpolation, gain, conversion and holds are each monotone. -/
theorem compensationNeverDecreases : Obligations.CompensationNeverDecreases := by
  intro k gain minDot maxDot hold u v hk _ _ hmin hlow hmax huv hv
  exact compensate_mono hk gain hold (by omega) hmax huv hv

/-- Settles O50: the values the statement names are those of the model's stages, whose bounds then apply. -/
theorem compensationFollowsItsStages : Obligations.CompensationFollowsItsStages := by
  intro k gain minDot maxDot v j w lo hi y z t hold hk _ _ hmin hlow hmax hv hj hw hlo hhi hy hz ht
  obtain rfl : j = segment v := hj
  obtain rfl : knot k (segment v) = lo := knot_eq_of_getElem? hlo
  obtain rfl : knot k (segment v + 1) = hi := knot_eq_of_getElem? hhi
  obtain rfl : w = segmentWidth (segment v) := hw
  obtain rfl : y = interpolate k v := hy
  obtain rfl : z = applyGain (interpolate k v) gain := hz
  obtain rfl : t = toTone (applyGain (interpolate k v) gain) := ht
  have hy4080 := interpolate_le hk hv
  have hneutral := applyGain_neutral hy4080
  refine ⟨⟨segment_start_le v, segmentOffset_le hv, segment_eq_last_iff v⟩,
    ⟨knot_le_interpolate k v, interpolate_le_knot hk hv, hy4080, interpolate_at_knot k, ?atEnd⟩,
    ⟨toTone_applyGain_le _ gain, ?neutral, ?lowGain, ?highGain⟩, applyHolds_fst, applyHolds_snd,
    compensate_le k gain hold v (by omega) hmax, compensate_between k gain hold (by omega)⟩
  case atEnd => rintro rfl; exact interpolate_at_end hk
  case neutral => rintro rfl; exact hneutral
  case lowGain => intro h; exact Nat.le_trans (applyGain_gain_mono _ (Nat.le_of_lt h)) (Nat.le_of_eq hneutral)
  case highGain => intro h; exact Nat.le_trans (Nat.le_of_eq hneutral.symm) (applyGain_gain_mono _ (Nat.le_of_lt h))

end Sys2Proof.Machine
end

section
/-!
SUPPORT. LOAD CURVE (R77): what the search for a falling knot finds, when clamping changes the knots, and what the
command and its row answer in each case.
-/

namespace Sys2Proof.Machine
open Sys2Proof.Laws

/-! ## The check of the knots -/

/-- A list in which no value is less than the one before it passes. -/
theorem firstDrop_eq_none {l : List Nat} (n : Nat) (h : ∀ (j : Nat) (hj : j + 1 < l.length), l[j] ≤ l[j + 1]) :
    firstDrop n l = none := by
  induction l generalizing n with
  | nil => rfl
  | cons a r ih =>
    cases r with
    | nil => rfl
    | cons b r =>
      have hab : a ≤ b := h 0 (by simp)
      rw [firstDrop, if_neg (by omega)]
      exact ih (n + 1) fun j hj => h (j + 1) (Nat.succ_lt_succ hj)

/-- A drop before which there is none is the one found. -/
theorem firstDrop_eq_some {l : List Nat} (n : Nat) {j : Nat} (hj : j + 1 < l.length) (hdrop : l[j + 1] < l[j])
    (hbefore : ∀ (i : Nat) (hi : i < j), l[i] ≤ l[i + 1]) : firstDrop n l = some (n + j + 1) := by
  induction l generalizing n j with
  | nil => simp at hj
  | cons a r ih =>
    cases r with
    | nil => simp at hj
    | cons b r =>
      cases j with
      | zero =>
        have hba : b < a := hdrop
        rw [firstDrop, if_pos hba, Nat.add_zero]
      | succ j =>
        have hab : a ≤ b := hbefore 0 (by omega)
        rw [firstDrop, if_neg (by omega), ih (n + 1) (Nat.lt_of_succ_lt_succ hj) hdrop
          fun i hi => hbefore (i + 1) (Nat.succ_lt_succ hi)]
        congr 1
        omega

theorem clampKnots_ne_iff (knots : Vector Half 17) :
    clampKnots knots ≠ knots.map BitVec.toNat ↔ ∃ j : Fin 17, 4080 < (knots[j.val]).toNat := by
  constructor
  · intro hne
    refine Classical.byContradiction fun hnone => hne (Vector.ext fun j hj => ?_)
    have hle : (knots[j]).toNat ≤ 4080 := Nat.le_of_not_lt fun hlt => hnone ⟨⟨j, hj⟩, hlt⟩
    simp only [clampKnots, Vector.getElem_map]
    omega
  · rintro ⟨j, hj⟩ heq
    have hentry : (clampKnots knots)[j.val] = (knots.map BitVec.toNat)[j.val] := by rw [heq]
    simp only [clampKnots, Vector.getElem_map] at hentry
    omega

/-! ## The command and its row -/

section
variable {site sep : Byte} {i : SiteId} {k : Sep} {knots : Vector Half 17}

theorem applyLoadCurve_valid (hi : site.toNat = i.val) (hk : sep.toNat = k.val)
    (h : ∀ j : Fin 16, (clampKnots knots)[j.val] ≤ (clampKnots knots)[j.val + 1]) (d : Device) :
    applyLoadCurve site sep knots d = (loadCurve i k (clampKnots knots) d,
      { result := .ok, flags := { clamped := decide (∃ j : Fin 17, 4080 < (knots[j.val]).toNat) } }) := by
  have hnone : firstDrop 0 (clampKnots knots).toList = none :=
    firstDrop_eq_none 0 fun j hj => by simpa using h ⟨j, Nat.lt_of_succ_lt_succ (by simpa using hj)⟩
  simp only [applyLoadCurve, eightOf_of hi, fourOf_of hk, hnone, clampKnots_ne_iff]

theorem applyLoadCurve_drop (hi : site.toNat = i.val) (hk : sep.toNat = k.val) {j : Fin 16}
    (hdrop : (clampKnots knots)[j.val + 1] < (clampKnots knots)[j.val])
    (hbefore : ∀ l : Fin 16, l < j → (clampKnots knots)[l.val] ≤ (clampKnots knots)[l.val + 1]) (d : Device) :
    applyLoadCurve site sep knots d = (d, { result := .curveOrder, data := halfN (j.val + 1) }) := by
  have hsome : firstDrop 0 (clampKnots knots).toList = some (0 + j.val + 1) :=
    firstDrop_eq_some 0 (by rw [Vector.length_toList]; omega) (by simpa using hdrop) fun l hl => by
      simpa using hbefore ⟨l, by omega⟩ hl
  simp only [applyLoadCurve, eightOf_of hi, fourOf_of hk, hsome, Nat.zero_add]

theorem applyLoadCurve_range (h : 8 ≤ site.toNat ∨ 4 ≤ sep.toNat) (d : Device) :
    applyLoadCurve site sep knots d = refuse .range d := by
  obtain h | h := h
  · simp only [applyLoadCurve, eightOf_none h]
  · cases hsite : eightOf site <;> simp only [applyLoadCurve, hsite, fourOf_none h]
end

/-- The row LOAD CURVE with the command unit ready: the command's effect and its reply. -/
theorem exec_loadCurve_ready {s : State} (h : s.dev.feed.Ready) (tag site sep : Byte) (knots : Vector Half 17) :
    exec (.loadCurve tag site sep knots) s = .next { s with dev :=
      ((applyLoadCurve site sep knots s.dev).1.reply
        { tag := tag, code := 0x30, answer := (applyLoadCurve site sep knots s.dev).2 }) } :=
  onCommand_ready h tag (.loadCurve site sep knots)

/-- Settles O43: the three outcomes of the check of LOAD CURVE, each through the row's reply. -/
theorem loadCurveTakesOnlyValidCurves : Obligations.LoadCurveTakesOnlyValidCurves := by
  intro s tag b c i k knots curve hready hb hc hcurve
  obtain rfl : curve = clampKnots knots := hcurve
  refine ⟨fun hvalid => ?valid, fun j hdrop hbefore => ?drop, fun x y hrange => ?range⟩
  case valid => rw [exec_loadCurve_ready hready, applyLoadCurve_valid hb hc hvalid, loadCurve]
  case drop => rw [exec_loadCurve_ready hready, applyLoadCurve_drop hb hc hdrop hbefore]
  case range => rw [exec_loadCurve_ready hready, applyLoadCurve_range hrange, refuse]

end Sys2Proof.Machine
end

section
/-!
SUPPORT. Facts about lists that the proofs share. The package's modules import core Lean alone, which has none of
them.
-/

namespace Sys2Proof.Machine

/-! ## Lists within lists -/

/-- A list is, in some order, part of another: each member stands in it as often at most. -/
def Within {α : Type} (l m : List α) : Prop := ∃ r, (l ++ r).Perm m

section
variable {α β : Type} {l m k : List α}

theorem within_refl (l : List α) : Within l l := ⟨[], by rw [List.append_nil]⟩

theorem within_nil (l : List α) : Within [] l := ⟨l, List.Perm.refl l⟩

theorem within_of_perm (h : l.Perm m) : Within l m := ⟨[], by rw [List.append_nil]; exact h⟩

theorem within_of_sublist (h : l.Sublist m) : Within l m := by
  obtain ⟨r, hr⟩ := h.exists_perm_append
  exact ⟨r, hr.symm⟩

theorem within_trans (h : Within l m) (g : Within m k) : Within l k := by
  obtain ⟨r, hr⟩ := h
  obtain ⟨s, hs⟩ := g
  exact ⟨r ++ s, by rw [← List.append_assoc]; exact (hr.append_right s).trans hs⟩

theorem within_cons (a : α) (h : Within l m) : Within (a :: l) (a :: m) := by
  obtain ⟨r, hr⟩ := h
  exact ⟨r, hr.cons a⟩

theorem within_append_left (k : List α) (h : Within l m) : Within (k ++ l) (k ++ m) := by
  obtain ⟨r, hr⟩ := h
  exact ⟨r, by rw [List.append_assoc]; exact hr.append_left k⟩

theorem within_append_right (k : List α) (h : Within l m) : Within (l ++ k) (m ++ k) :=
  within_trans (within_of_perm List.perm_append_comm)
    (within_trans (within_append_left k h) (within_of_perm List.perm_append_comm))

theorem within_middle {a : α} : Within (l ++ a :: m) (a :: (l ++ m)) := within_of_perm List.perm_middle

theorem within_map (f : α → β) (h : Within l m) : Within (l.map f) (m.map f) := by
  obtain ⟨r, hr⟩ := h
  exact ⟨r.map f, by rw [← List.map_append]; exact hr.map f⟩

theorem nodup_of_within (h : Within l m) (hm : m.Nodup) : l.Nodup := by
  obtain ⟨r, hr⟩ := h
  exact (List.nodup_append.1 (hr.nodup_iff.2 hm)).1

theorem mem_of_within (h : Within l m) {a : α} (ha : a ∈ l) : a ∈ m := by
  obtain ⟨r, hr⟩ := h
  exact hr.subset (List.mem_append_left r ha)

end

/-! ## Members, images and joins -/

section
variable {α β : Type}

theorem length_append_one {l : List α} {n : Nat} (h : l.length < n) (a : α) : (l ++ [a]).length ≤ n := by
  rw [List.length_append, List.length_singleton]
  exact h

theorem nodup_one (a : α) : [a].Nodup := List.nodup_cons.2 ⟨List.not_mem_nil, List.nodup_nil⟩

theorem nodup_filter {l : List α} (h : l.Nodup) (p : α → Bool) : (l.filter p).Nodup := List.filter_sublist.nodup h

theorem nodup_of_map (f : α → β) {l : List α} (h : (l.map f).Nodup) : l.Nodup := by
  induction l with
  | nil => exact List.nodup_nil
  | cons a l ih =>
    rw [List.map_cons, List.nodup_cons] at h
    exact List.nodup_cons.2 ⟨fun ha => h.1 (List.mem_map.2 ⟨a, ha, rfl⟩), ih h.2⟩

theorem nodup_map {f : α → β} (hf : ∀ a b, f a = f b → a = b) {l : List α} (h : l.Nodup) : (l.map f).Nodup := by
  induction l with
  | nil => exact List.nodup_nil
  | cons a l ih =>
    obtain ⟨ha, hl⟩ := List.nodup_cons.1 h
    rw [List.map_cons, List.nodup_cons]
    refine ⟨fun hm => ?_, ih hl⟩
    obtain ⟨b, hb, he⟩ := List.mem_map.1 hm
    exact ha (hf b a he ▸ hb)

theorem exists_cons_iff {p : α → Prop} {a : α} {l : List α} : (∃ x ∈ a :: l, p x) ↔ p a ∨ ∃ x ∈ l, p x := by
  constructor
  · rintro ⟨x, hx, hp⟩
    rcases List.mem_cons.1 hx with rfl | hx
    · exact .inl hp
    · exact .inr ⟨x, hx, hp⟩
  · rintro (hp | ⟨x, hx, hp⟩)
    · exact ⟨a, List.mem_cons_self, hp⟩
    · exact ⟨x, List.mem_cons_of_mem a hx, hp⟩

theorem flatMap_congr_mem {l : List α} {f g : α → List β} (h : ∀ a ∈ l, f a = g a) : l.flatMap f = l.flatMap g := by
  rw [List.flatMap_def, List.flatMap_def, List.map_congr_left h]

theorem sublist_flatMap {l m : List α} (h : l.Sublist m) (f : α → List β) :
    (l.flatMap f).Sublist (m.flatMap f) := by
  induction h with
  | slnil => exact List.Sublist.refl _
  | cons a _ ih =>
    rw [List.flatMap_cons]
    exact ih.trans (List.sublist_append_right _ _)
  | cons_cons a _ ih =>
    rw [List.flatMap_cons, List.flatMap_cons]
    exact (List.Sublist.refl _).append ih

theorem foldl_same {g : β → α → β} {b : β} {l : List α} (h : ∀ a, g b a = b) : l.foldl g b = b := by
  induction l with
  | nil => rfl
  | cons a l ih => rw [List.foldl_cons, h a, ih]

theorem length_filter_split (p : α → Bool) (l : List α) :
    l.length = (l.filter p).length + (l.filter fun a => !p a).length := by
  rw [← List.length_append, (List.filter_append_perm p l).length_eq]

end

/-! ## Strictly ascending lists -/

section
variable {α : Type} {r : α → α → Prop}

theorem pairwise_related {l : List α} (h : l.Pairwise r) {a b : α} (ha : a ∈ l) (hb : b ∈ l) (hne : a ≠ b) :
    r a b ∨ r b a := by
  induction l with
  | nil => cases ha
  | cons x l ih =>
    obtain ⟨hx, hl⟩ := List.pairwise_cons.1 h
    rcases List.mem_cons.1 ha with hax | hal
    · subst hax
      exact .inl (hx b ((List.mem_cons.1 hb).resolve_left hne.symm))
    · rcases List.mem_cons.1 hb with hbx | hbl
      · subst hbx
        exact .inr (hx a hal)
      · exact ih hl hal hbl

/-- Two strictly ascending lists with the same members are one list. -/
theorem eq_of_ascending (hasymm : ∀ a b, r a b → ¬r b a) {l m : List α} (hl : l.Pairwise r) (hm : m.Pairwise r)
    (h : ∀ a, a ∈ l ↔ a ∈ m) : l = m := by
  have hirrefl : ∀ a, ¬r a a := fun a ha => hasymm a a ha ha
  induction l generalizing m with
  | nil =>
    cases m with
    | nil => rfl
    | cons b m => exact absurd ((h b).2 List.mem_cons_self) List.not_mem_nil
  | cons a l ih =>
    cases m with
    | nil => exact absurd ((h a).1 List.mem_cons_self) List.not_mem_nil
    | cons b m =>
      obtain ⟨ha, hlt⟩ := List.pairwise_cons.1 hl
      obtain ⟨hb, hmt⟩ := List.pairwise_cons.1 hm
      have hab : a = b := by
        rcases List.mem_cons.1 ((h a).1 List.mem_cons_self) with hab | ham
        · exact hab
        · rcases List.mem_cons.1 ((h b).2 List.mem_cons_self) with hba | hbl
          · exact hba.symm
          · exact absurd (hb a ham) (hasymm a b (ha b hbl))
      subst hab
      refine congrArg (a :: ·) (ih hlt hmt fun x => ⟨fun hx => ?_, fun hx => ?_⟩)
      · exact (List.mem_cons.1 ((h x).1 (List.mem_cons_of_mem a hx))).resolve_left fun e => hirrefl a (e ▸ ha x hx)
      · exact (List.mem_cons.1 ((h x).2 (List.mem_cons_of_mem a hx))).resolve_left fun e => hirrefl a (e ▸ hb x hx)

end

/-! ## Insertion into an ascending list -/

section
variable {α : Type} (r : α → α → Prop) [DecidableRel r]

/-- `a` before the first member it is related to. -/
def insertBy (a : α) : List α → List α
  | [] => [a]
  | b :: l => if r a b then a :: b :: l else b :: insertBy a l

/-- The members of a list inserted one by one. -/
def sortBy (l : List α) : List α := l.foldr (insertBy r) []

theorem mem_insertBy {a x : α} {l : List α} : x ∈ insertBy r a l ↔ x = a ∨ x ∈ l := by
  induction l with
  | nil => rw [insertBy, List.mem_singleton, or_iff_left List.not_mem_nil]
  | cons b l ih =>
    rw [insertBy]
    split
    · exact List.mem_cons
    · rw [List.mem_cons, ih, List.mem_cons, or_left_comm]

theorem mem_sortBy {x : α} {l : List α} : x ∈ sortBy r l ↔ x ∈ l := by
  induction l with
  | nil => exact Iff.rfl
  | cons a l ih => exact (mem_insertBy r).trans ((or_congr_right ih).trans List.mem_cons.symm)

variable {r}

theorem insertBy_pairwise (htrans : ∀ a b c, r a b → r b c → r a c) {a : α} {l : List α} (hl : l.Pairwise r)
    (hc : ∀ b ∈ l, r a b ∨ r b a) : (insertBy r a l).Pairwise r := by
  induction l with
  | nil => exact List.pairwise_singleton r a
  | cons b l ih =>
    obtain ⟨hb, hl⟩ := List.pairwise_cons.1 hl
    rw [insertBy]
    split
    case isTrue hab =>
      refine List.pairwise_cons.2 ⟨fun c h => ?_, List.pairwise_cons.2 ⟨hb, hl⟩⟩
      rcases List.mem_cons.1 h with rfl | h
      · exact hab
      · exact htrans a b c hab (hb c h)
    case isFalse hab =>
      refine List.pairwise_cons.2 ⟨fun c h => ?_, ih hl fun c h => hc c (List.mem_cons_of_mem b h)⟩
      rcases (mem_insertBy r).1 h with rfl | h
      · exact (hc b List.mem_cons_self).resolve_left hab
      · exact hb c h

/-- A strictly ascending list with the members of a list is what sorting that list gives. -/
theorem sortBy_eq (htrans : ∀ a b c, r a b → r b c → r a c) (hirrefl : ∀ a, ¬r a a) {l m : List α}
    (hl : l.Nodup) (hm : m.Pairwise r) (hmem : ∀ x, x ∈ m ↔ x ∈ l) : sortBy r l = m := by
  have hsub : ∀ k : List α, k.Nodup → (∀ x ∈ k, x ∈ l) → (sortBy r k).Pairwise r := fun k => by
    induction k with
    | nil => exact fun _ _ => List.Pairwise.nil
    | cons a k ih =>
      intro hk hin
      obtain ⟨ha, hk⟩ := List.nodup_cons.1 hk
      refine insertBy_pairwise htrans (ih hk fun x hx => hin x (List.mem_cons_of_mem a hx)) fun b hb => ?_
      have hbk : b ∈ k := (mem_sortBy r).1 hb
      exact pairwise_related hm ((hmem a).2 (hin a List.mem_cons_self))
        ((hmem b).2 (hin b (List.mem_cons_of_mem a hbk))) fun h => ha (h ▸ hbk)
  exact eq_of_ascending (fun a b h k => hirrefl a (htrans a b a h k)) (hsub l hl fun _ h => h) hm
    fun x => (mem_sortBy r).trans (hmem x).symm

end

end Sys2Proof.Machine
end

section
/-!
SUPPORT. The laws of Safety.lean, taken together: `Device.KeepsLaws d e` says that the part keeps each of them on its
way from `d` to `e`. This part says what a change of one site, of one record of the page table or of the part's other
fields has to keep for that, so that a law is proved once for each kind of change and not once for each command.
-/

namespace Sys2Proof.Machine
open Sys2Proof.Laws

/-! ## The laws of one site -/

/-- What `Device.RangeLaw` asks of one site, but for its site code. -/
def Site.InRange (st : Site) : Prop :=
  st.cfg.InRange ∧
    (∀ s : Sep, (entryOf st.tone.active.curves s).Valid ∧ (entryOf st.tone.pending.curves s).Valid) ∧ st.RangeLaw

/-- What `Device.ControlLaw` asks of one site. -/
def Site.ControlLaw (st : Site) : Prop :=
  st.q.control.length ≤ 16 ∧
    ∀ k : Stock, (st.q.control.filter (·.isTarget k)).length ≤ 1 ∧
      ((st.target k).owed = true → st.q.control.any (·.isTarget k) = false)

/-- What `Device.SizeLaw` asks of one window. -/
def Window.Sized (w : Window) : Prop := (∀ r ∈ w.ranks, r.block.size ≤ 32800) ∧ ∀ b ∈ w.prepared, b.size ≤ 32800

/-- What `Device.WindowLaw` asks of the window a preparation is made for. -/
def Window.HasRoom (w : Window) : Prop := w.prepared = none ∧ w.ranks.length < 16

/-- A version in this state may be queued or current at a site (R62, R67). -/
def VersionState.Settled (s : VersionState) : Prop := s ≠ .filling ∧ s ≠ .held ∧ s ≠ .approved

/-- What `Device.ApprovalLaw` asks of one record. -/
def PageVersion.Approved (v : PageVersion) : Prop :=
  v.state = .approved ∨ v.state = .released ∨ v.state = .delivered →
    ∃ a : Approval, v.approval = some a ∧ a.checked = true ∧ a.expected = v.digest

/-- What `Device.RangeLaw` asks of the part but for its sites and ports. -/
def Base.Laws (b : Base) : Prop := b.InRange ∧ b.AreaLaw ∧ b.GroupLaw

/-- What `Feed.Law` asks of the feed port but for the two queues the command unit works on. -/
def Feed.OutLaw (f : Feed) : Prop :=
  f.events.length ≤ 32 ∧ f.overrun ≤ 65535 ∧
    ∀ t ∈ f.tx, (t.source = .reply → f.replies ≠ []) ∧ (t.source = .event → f.events ≠ [])

/-- The laws of a site that name nothing else of the part. -/
structure Site.KeepsOwnLaws (a b : Site) : Prop where
  range : a.InRange → b.InRange
  control : a.ControlLaw → b.ControlLaw
  credit : a.win.Sized → a.CreditLaw → b.win.Sized ∧ b.CreditLaw
  window : a.win.Law → b.win.Law
  link : a.LinkLaw → b.LinkLaw

/-- What a change of one site has to keep. The page versions delivered there may only become fewer. -/
structure Site.KeepsLaws (a b : Site) : Prop extends a.KeepsOwnLaws b where
  code : b.cfg.code = a.cfg.code
  room : a.win.HasRoom → b.win.HasRoom
  refs : Within b.q.refs a.q.refs

/-- What a change of one record has to keep. -/
structure PageVersion.KeepsLaws (v w : PageVersion) : Prop where
  cells : w.entries.map BandEntry.cell = v.entries.map BandEntry.cell
  settled : v.state.Settled → w.state.Settled
  approved : v.Approved → w.Approved

/-- The record of an identity, if there is one, is in a state that a delivery may have. -/
def Device.SettledAt (d : Device) (u : Nat) : Prop := ∀ v, d.record u = some v → v.state.Settled

/-- What the laws of cells, positions and approvals rest on: identities are used once and drawn in rising order. -/
def Device.Identified (d : Device) : Prop := (d.table.map PageVersion.uid).Nodup ∧ ∀ v ∈ d.table, v.uid < d.serial

/-- Every law but those of cells and positions is kept on the way from `d` to `e`, the command unit's two queues are as
they were, and a version that may be enqueued stays one. -/
structure Device.KeepsOtherLaws (d e : Device) : Prop where
  store : Memory.wf d.store → Memory.wf e.store
  range : d.RangeLaw → e.RangeLaw
  cmds : e.feed.cmds = d.feed.cmds
  replies : e.feed.replies = d.feed.replies
  out : d.feed.OutLaw → e.feed.OutLaw
  table : d.TableLaw → e.TableLaw
  control : d.ControlLaw → e.ControlLaw
  credit : d.CreditLaw → e.CreditLaw
  window : d.WindowLaw ∧ d.LinkLaw → e.WindowLaw ∧ e.LinkLaw
  approval : d.ApprovalLaw → e.ApprovalLaw
  serial : d.serial ≤ e.serial
  ids : d.Identified → e.Identified
  settled : d.Identified → ∀ u < d.serial, d.SettledAt u → e.SettledAt u

/-- Every law is kept on the way from `d` to `e`. -/
structure Device.KeepsLaws (d e : Device) : Prop extends d.KeepsOtherLaws e where
  cell : d.CellLaw → e.CellLaw
  position : d.PositionLaw → e.PositionLaw

/-! ## The laws of the part, site by site -/

/-- No two sites have the same code (R138). -/
def Device.CodesDiffer (d : Device) : Prop :=
  ∀ i j : SiteId, i ≠ j → (d.site i).cfg.code ≠ (d.site j).cfg.code

/-- The site of a preparation in flight has no prepared block and room for one (R91). -/
def Device.RoomLaw (d : Device) : Prop := ∀ p ∈ d.builder.inFlight, (d.site p.site).win.HasRoom

theorem rangeLaw_iff (d : Device) : d.RangeLaw ↔
    (∀ i : SiteId, (d.site i).InRange) ∧ d.CodesDiffer ∧ d.base.Laws ∧ ∀ p : PortId, (d.port p).PeriodLaw :=
  ⟨fun ⟨⟨hc, hcode⟩, hv, hb, ha, hg, hp, hr⟩ => ⟨fun i => ⟨hc i, hv i, hr i⟩, hcode, ⟨hb, ha, hg⟩, hp⟩,
    fun ⟨hs, hcode, ⟨hb, ha, hg⟩, hp⟩ =>
      ⟨⟨fun i => (hs i).1, hcode⟩, fun i => (hs i).2.1, hb, ha, hg, hp, fun i => (hs i).2.2⟩⟩

/-- The payload bound of `Device.SizeLaw` for a builder. -/
def Builder.Sized (b : Builder) : Prop :=
  ∀ p ∈ b.inFlight, ∀ (id : Nat) (ref : PageRef) (ident : Ident) (payload : List Byte),
    p.job = .pageEnd id ref ident payload → payload.length ≤ 32768

theorem creditLaw_iff (d : Device) : d.CreditLaw ↔
    (∀ i : SiteId, (d.site i).win.Sized ∧ (d.site i).CreditLaw) ∧ d.builder.Sized :=
  ⟨fun ⟨⟨hs, hb⟩, hc⟩ => ⟨fun i => ⟨hs i, hc i⟩, hb⟩, fun ⟨hs, hb⟩ => ⟨⟨fun i => (hs i).1, hb⟩, fun i => (hs i).2⟩⟩

theorem windowLaw_iff (d : Device) : d.WindowLaw ∧ d.LinkLaw ↔
    (∀ i : SiteId, (d.site i).win.Law ∧ (d.site i).LinkLaw) ∧ d.RoomLaw :=
  ⟨fun ⟨⟨hw, hb⟩, hl⟩ => ⟨fun i => ⟨hw i, hl i⟩, hb⟩, fun ⟨hw, hb⟩ => ⟨⟨fun i => (hw i).1, hb⟩, fun i => (hw i).2⟩⟩

/-- The law of R67 in the terms of `VersionState.Settled`. -/
theorem positionLaw_iff (d : Device) : d.PositionLaw ↔
    (∀ i : SiteId, ((d.site i).q.refs.map fun r => r.key.pos).Nodup ∧
      ∀ r ∈ (d.site i).q.refs, r.uid < d.serial ∧ ∀ v ∈ d.table, v.uid = r.uid → v.state.Settled) ∧
    (d.table.map PageVersion.uid).Nodup ∧ ∀ v ∈ d.table, v.uid < d.serial := Iff.rfl

theorem approvalLaw_iff (d : Device) : d.ApprovalLaw ↔
    (d.table.map PageVersion.uid).Nodup ∧ (∀ v ∈ d.table, v.uid < d.serial) ∧ ∀ v ∈ d.table, v.Approved := Iff.rfl

/-! ## Closure -/

theorem laws_refl (d : Device) : d.KeepsLaws d :=
  ⟨⟨id, id, rfl, rfl, id, id, id, id, id, id, Nat.le_refl _, id, fun _ _ _ h => h⟩, id, id⟩

theorem otherLaws_trans {d e f : Device} (h : d.KeepsOtherLaws e) (k : e.KeepsOtherLaws f) : d.KeepsOtherLaws f :=
  ⟨k.store ∘ h.store, k.range ∘ h.range, k.cmds.trans h.cmds, k.replies.trans h.replies, k.out ∘ h.out,
    k.table ∘ h.table, k.control ∘ h.control, k.credit ∘ h.credit, k.window ∘ h.window,
    k.approval ∘ h.approval, Nat.le_trans h.serial k.serial, k.ids ∘ h.ids,
    fun hi u hu hs => k.settled (h.ids hi) u (Nat.lt_of_lt_of_le hu h.serial) (h.settled hi u hu hs)⟩

theorem laws_trans {d e f : Device} (h : d.KeepsLaws e) (k : e.KeepsLaws f) : d.KeepsLaws f :=
  ⟨otherLaws_trans h.toKeepsOtherLaws k.toKeepsOtherLaws, k.cell ∘ h.cell, k.position ∘ h.position⟩

/-- One change before another. -/
theorem laws_after {d e f : Device} (k : e.KeepsLaws f) (h : d.KeepsLaws e) : d.KeepsLaws f := laws_trans h k

theorem laws_foldl {α : Type} (l : List α) (f : Device → α → Device) (h : ∀ (d : Device) (a : α), d.KeepsLaws (f d a))
    (d : Device) : d.KeepsLaws (l.foldl f d) := by
  induction l generalizing d with
  | nil => exact laws_refl d
  | cons a l ih => exact laws_trans (h d a) (ih _)

theorem laws_forSites {f : SiteId → Device → Device} (h : ∀ (i : SiteId) (d : Device), d.KeepsLaws (f i d))
    (d : Device) : d.KeepsLaws (forSites f d) := laws_foldl _ _ (fun d i => h i d) d

theorem laws_forPorts {f : PortId → Device → Device} (h : ∀ (p : PortId) (d : Device), d.KeepsLaws (f p d))
    (d : Device) : d.KeepsLaws (forPorts f d) := laws_foldl _ _ (fun d p => h p d) d

theorem siteLaws_refl (a : Site) : a.KeepsLaws a :=
  ⟨⟨id, id, fun h k => ⟨h, k⟩, id, id⟩, rfl, id, within_refl _⟩

/-! ## Changes of one site -/

section
variable {d : Device} {i : SiteId} {f : Site → Site}

/-- What holds of every site after a change of one holds where it is shown of that one. -/
theorem site_onSite_rel {R : Site → Site → Prop} (hrefl : ∀ a, R a a) (h : R (d.site i) (f (d.site i))) (j : SiteId) :
    R (d.site j) ((d.onSite i f).site j) := by
  rw [site_onSite]
  split
  case isTrue hj => exact hj ▸ h
  case isFalse => exact hrefl _

/-- A change of one site keeps the laws when the site after it keeps its own, and the part those that name more. -/
theorem otherLaws_onSite (h : (d.site i).KeepsOwnLaws (f (d.site i)))
    (hcode : d.CodesDiffer → (d.onSite i f).CodesDiffer) (hroom : d.RoomLaw → (d.onSite i f).RoomLaw) :
    d.KeepsOtherLaws (d.onSite i f) := by
  have hall := site_onSite_rel (R := Site.KeepsOwnLaws) (fun a => (siteLaws_refl a).toKeepsOwnLaws) h
  refine ⟨id, fun hd => ?range, rfl, rfl, id, id, fun hd j => (hall j).control (hd j), fun hd => ?credit,
    fun hd => ?window, id, Nat.le_refl _, id, fun _ _ _ h => h⟩
  case range =>
    obtain ⟨hs, hc, hb, hp⟩ := (rangeLaw_iff d).1 hd
    exact (rangeLaw_iff _).2 ⟨fun j => (hall j).range (hs j), hcode hc, hb, hp⟩
  case credit =>
    obtain ⟨hs, hb⟩ := (creditLaw_iff d).1 hd
    exact (creditLaw_iff _).2 ⟨fun j => (hall j).credit (hs j).1 (hs j).2, hb⟩
  case window =>
    obtain ⟨hs, hb⟩ := (windowLaw_iff d).1 hd
    exact (windowLaw_iff _).2 ⟨fun j => ⟨(hall j).window (hs j).1, (hall j).link (hs j).2⟩, hroom hb⟩

theorem codesDiffer_onSite (h : (f (d.site i)).cfg.code = (d.site i).cfg.code) (hd : d.CodesDiffer) :
    (d.onSite i f).CodesDiffer := by
  have hall := site_onSite_rel (R := fun a b => b.cfg.code = a.cfg.code) (fun _ => rfl) h
  exact fun j k hjk => by rw [hall j, hall k]; exact hd j k hjk

theorem roomLaw_onSite (h : (d.site i).win.HasRoom → (f (d.site i)).win.HasRoom) (hd : d.RoomLaw) :
    (d.onSite i f).RoomLaw := fun p hp =>
  site_onSite_rel (R := fun a b => a.win.HasRoom → b.win.HasRoom) (fun _ => id) h p.site (hd p hp)

theorem positionLaw_onSite (h : Within (f (d.site i)).q.refs (d.site i).q.refs) (hd : d.PositionLaw) :
    (d.onSite i f).PositionLaw := by
  have hall := site_onSite_rel (R := fun a b => Within b.q.refs a.q.refs) (fun a => within_refl _) h
  obtain ⟨hs, hu, hl⟩ := (positionLaw_iff d).1 hd
  exact (positionLaw_iff _).2 ⟨fun j => ⟨nodup_of_within (within_map _ (hall j)) (hs j).1,
    fun r hr => (hs j).2 r (mem_of_within (hall j) hr)⟩, hu, hl⟩

/-- A change of one site keeps the laws when the site after it keeps its own. -/
theorem laws_onSite (h : (d.site i).KeepsLaws (f (d.site i))) : d.KeepsLaws (d.onSite i f) :=
  ⟨otherLaws_onSite h.toKeepsOwnLaws (codesDiffer_onSite h.code) (roomLaw_onSite h.room), id, positionLaw_onSite h.refs⟩
end

/-! ## Changes of one record -/

/-- With identities used once, a record of the table is the one found by its identity. -/
theorem record_of_mem {d : Device} (hu : (d.table.map PageVersion.uid).Nodup) {v : PageVersion} (hv : v ∈ d.table) :
    d.record v.uid = some v := by
  unfold Device.record
  generalize d.table = l at hu hv
  induction l with
  | nil => cases hv
  | cons x l ih =>
    rw [List.map_cons, List.nodup_cons] at hu
    rcases List.mem_cons.1 hv with rfl | hv
    · simp
    · have hne : x.uid ≠ v.uid := fun he => hu.1 (he ▸ List.mem_map_of_mem hv)
      simpa [hne] using ih hu.2 hv

section
variable {d : Device} {u : Nat} {f : PageVersion → PageVersion}

theorem onRecord_table (d : Device) (u : Nat) (f : PageVersion → PageVersion) :
    (d.onRecord u f).table = d.table.map fun v => if v.uid = u then f v else v := rfl

theorem onRecord_uids (hf : ∀ v, (f v).uid = v.uid) :
    (d.onRecord u f).table.map PageVersion.uid = d.table.map PageVersion.uid := by
  rw [onRecord_table, List.map_map]
  refine List.map_congr_left fun v _ => ?_
  simp only [Function.comp]
  split
  · exact hf v
  · rfl

/-- What a record of the table after a change of one record comes from. -/
theorem mem_onRecord (hu : (d.table.map PageVersion.uid).Nodup) {w : PageVersion} (hw : w ∈ (d.onRecord u f).table) :
    ∃ v ∈ d.table, (d.record u = some v ∧ v.uid = u ∧ w = f v) ∨ w = v := by
  rw [onRecord_table, List.mem_map] at hw
  obtain ⟨v, hv, rfl⟩ := hw
  refine ⟨v, hv, ?_⟩
  split
  case isTrue he => exact .inl ⟨he ▸ record_of_mem hu hv, he, rfl⟩
  case isFalse => exact .inr rfl

theorem onRecord_recordedCells (hu : (d.table.map PageVersion.uid).Nodup)
    (hf : ∀ v, d.record u = some v → (f v).entries.map BandEntry.cell = v.entries.map BandEntry.cell) :
    (d.onRecord u f).recordedCells = d.recordedCells := by
  unfold Device.recordedCells
  rw [onRecord_table, List.flatMap_map]
  refine flatMap_congr_mem fun v hv => ?_
  split
  case isTrue he => exact hf v (he ▸ record_of_mem hu hv)
  case isFalse => rfl

theorem onRecord_below (hf : ∀ v, (f v).uid = v.uid) (h : ∀ v ∈ d.table, v.uid < d.serial) :
    ∀ v ∈ (d.onRecord u f).table, v.uid < d.serial := by
  intro w hw
  rw [onRecord_table, List.mem_map] at hw
  obtain ⟨v, hv, rfl⟩ := hw
  split
  · exact hf v ▸ h v hv
  · exact h v hv

/-- What an identity finds after a change of one record. -/
theorem record_onRecord (hf : ∀ v, (f v).uid = v.uid) (x : Nat) :
    (d.onRecord u f).record x = (d.record x).map fun v => if v.uid = u then f v else v := by
  unfold Device.record
  rw [onRecord_table, List.find?_map]
  refine congrArg (Option.map _) (congrArg (List.find? · _) (funext fun v => ?_))
  simp only [Function.comp]
  split
  · rw [hf]
  · rfl

theorem record_onRecord_same {v : PageVersion} (hf : ∀ v, (f v).uid = v.uid) (hv : d.record u = some v) :
    (d.onRecord u f).record u = some (f v) := by
  rw [record_onRecord hf, hv, Option.map_some, if_pos (record_some hv).1]

/-- A change of one record keeps the laws but for the cells when the record after it keeps its own. -/
theorem otherLaws_onRecord (hf : ∀ v, (f v).uid = v.uid)
    (h : d.Identified → ∀ v, d.record u = some v →
      (v.state.Settled → (f v).state.Settled) ∧ (v.Approved → (f v).Approved)) :
    d.KeepsOtherLaws (d.onRecord u f) := by
  refine ⟨id, id, rfl, rfl, id, fun ⟨hl, hr⟩ => ⟨?length, hr⟩, id, id, id, fun ⟨hu, hb, ha⟩ => ?approval, Nat.le_refl _,
    fun ⟨hu, hb⟩ => ⟨by rwa [onRecord_uids hf], onRecord_below hf hb⟩, fun hi x _ hs w hw => ?settled⟩
  case length => simpa [onRecord_table] using hl
  case approval =>
    refine (approvalLaw_iff _).2 ⟨by rwa [onRecord_uids hf], onRecord_below hf hb, fun w hw => ?_⟩
    obtain ⟨v, hv, ⟨hrec, -, rfl⟩ | rfl⟩ := mem_onRecord hu hw
    · exact (h ⟨hu, hb⟩ v hrec).2 (ha v hv)
    · exact ha w hv
  case settled =>
    rw [record_onRecord hf, Option.map_eq_some_iff] at hw
    obtain ⟨v, hv, rfl⟩ := hw
    split
    case isTrue he =>
      obtain rfl : x = u := (record_some hv).1.symm.trans he
      exact (h hi v hv).1 (hs v hv)
    case isFalse => exact hs v hv

theorem positionLaw_onRecord (hf : ∀ v, (f v).uid = v.uid)
    (h : ∀ v, d.record u = some v → v.state.Settled → (f v).state.Settled) (hd : d.PositionLaw) :
    (d.onRecord u f).PositionLaw := by
  obtain ⟨hs, hu, hb⟩ := (positionLaw_iff d).1 hd
  refine (positionLaw_iff _).2 ⟨fun i => ⟨(hs i).1, fun r hr => ⟨((hs i).2 r hr).1, fun w hw he => ?_⟩⟩,
    by rwa [onRecord_uids hf], onRecord_below hf hb⟩
  obtain ⟨v, hv, ⟨hrec, -, rfl⟩ | rfl⟩ := mem_onRecord hu hw
  · exact h v hrec (((hs i).2 r hr).2 v hv (hf v ▸ he))
  · exact ((hs i).2 r hr).2 w hv he

/-- A change of one record keeps the laws when the record after it keeps its own. -/
theorem laws_onRecord (hf : ∀ v, (f v).uid = v.uid)
    (h : d.Identified → ∀ v, d.record u = some v → v.KeepsLaws (f v)) :
    d.KeepsLaws (d.onRecord u f) := by
  refine ⟨otherLaws_onRecord hf fun hi v hv => ⟨(h hi v hv).settled, (h hi v hv).approved⟩, fun ⟨hc, hu, hb⟩ =>
    ⟨?_, by rwa [onRecord_uids hf], onRecord_below hf hb⟩, fun hd =>
    positionLaw_onRecord hf (fun v hv => (h hd.2 v hv).settled) hd⟩
  rw [onRecord_recordedCells hu fun v hv => (h ⟨hu, hb⟩ v hv).cells]
  exact hc
end

theorem recordLaws_refl (v : PageVersion) : v.KeepsLaws v := ⟨rfl, id, id⟩

/-- A change of a record that leaves its band map, state, approval and digest. -/
theorem laws_onRecord_quiet {d : Device} {u : Nat} {f : PageVersion → PageVersion}
    (h : ∀ v, (f v).uid = v.uid ∧ (f v).bands = v.bands ∧ (f v).state = v.state ∧ (f v).approval = v.approval ∧
      (f v).digest = v.digest) : d.KeepsLaws (d.onRecord u f) := by
  refine laws_onRecord (fun v => (h v).1) fun _ v _ => ?_
  obtain ⟨-, hb, hs, ha, hd⟩ := h v
  refine ⟨by simp only [PageVersion.entries, hb], by rw [hs]; exact id, ?_⟩
  unfold PageVersion.Approved
  rw [hs, ha, hd]
  exact id

theorem laws_onDelivery (d : Device) (u : Nat) (i : SiteId) (f : DeliveryRecord → DeliveryRecord) :
    d.KeepsLaws (d.onDelivery u i f) := laws_onRecord_quiet fun _ => ⟨rfl, rfl, rfl, rfl, rfl⟩

/-! ## Changes of the part's other fields -/

/-- The order counter, the retained count and the count of free values are in no law. -/
theorem laws_counters (d : Device) (o r : Word) (n : Nat) :
    d.KeepsLaws { d with orderCounter := o, retainedCount := r, free := n } :=
  ⟨⟨id, id, rfl, rfl, id, id, id, id, id, id, Nat.le_refl _, id, fun _ _ _ h => h⟩, id, id⟩

/-- Identities are drawn in rising order. -/
theorem laws_serial (d : Device) {n : Nat} (h : d.serial ≤ n) : d.KeepsLaws { d with serial := n } := by
  have hb : (∀ v ∈ d.table, v.uid < d.serial) → ∀ v ∈ d.table, v.uid < n :=
    fun hb v hv => Nat.lt_of_lt_of_le (hb v hv) h
  exact ⟨⟨id, id, rfl, rfl, id, id, id, id, id, fun ⟨hu, hd, ha⟩ => ⟨hu, hb hd, ha⟩, h,
      fun ⟨hu, hd⟩ => ⟨hu, hb hd⟩, fun _ _ _ h => h⟩,
    fun ⟨hc, hu, hd⟩ => ⟨hc, hu, hb hd⟩,
    fun ⟨hs, hu, hd⟩ => ⟨fun i => ⟨(hs i).1, fun r hr => ⟨Nat.lt_of_lt_of_le ((hs i).2 r hr).1 h, ((hs i).2 r hr).2⟩⟩,
      hu,
      hb hd⟩⟩

theorem laws_base (d : Device) {b : Base} (h : d.base.Laws → b.Laws) : d.KeepsLaws { d with base := b } :=
  ⟨⟨id, fun hd => by
    obtain ⟨hs, hc, hb, hp⟩ := (rangeLaw_iff d).1 hd
    exact (rangeLaw_iff _).2 ⟨hs, hc, h hb, hp⟩, rfl, rfl, id, id, id, id, id, id, Nat.le_refl _, id, fun _ _ _ h =>
      h⟩, id, id⟩

theorem laws_onPort (d : Device) (p : PortId) {f : Port → Port} (h : (d.port p).PeriodLaw → (f (d.port p)).PeriodLaw) :
    d.KeepsLaws (d.onPort p f) :=
  ⟨⟨id, fun hd => by
    obtain ⟨hs, hc, hb, hp⟩ := (rangeLaw_iff d).1 hd
    refine (rangeLaw_iff _).2 ⟨hs, hc, hb, fun q => ?_⟩
    rw [port_onPort]
    split
    · exact h (hp p)
    · exact hp q, rfl, rfl, id, id, id, id, id, id, Nat.le_refl _, id, fun _ _ _ h => h⟩, id, id⟩

/-- A preparation in flight is for a site and job it was for before. -/
theorem laws_builder (d : Device) {b : Builder}
    (h : ∀ p ∈ b.inFlight, ∃ q ∈ d.builder.inFlight, q.site = p.site ∧ q.job = p.job) :
    d.KeepsLaws { d with builder := b } := by
  refine ⟨⟨id, id, rfl, rfl, id, id, id, fun hd => ?credit, fun hd => ?window, id, Nat.le_refl _, id, fun _ _ _ h =>
    h⟩, id, id⟩
  case credit =>
    obtain ⟨hs, hb⟩ := (creditLaw_iff d).1 hd
    refine (creditLaw_iff _).2 ⟨hs, fun p hp id ref ident payload hj => ?_⟩
    obtain ⟨q, hq, -, hqj⟩ := h p hp
    exact hb q hq id ref ident payload (hqj.trans hj)
  case window =>
    obtain ⟨hs, hb⟩ := (windowLaw_iff d).1 hd
    refine (windowLaw_iff _).2 ⟨hs, fun p hp => ?_⟩
    obtain ⟨q, hq, hqs, -⟩ := h p hp
    exact hqs ▸ hb q hq

theorem laws_markIf (d : Device) (test : Preparation → Bool) : d.KeepsLaws (d.markIf test) := by
  refine laws_builder d fun p hp => ?_
  obtain ⟨q, hq, rfl⟩ := Option.map_eq_some_iff.1 hp
  refine ⟨q, hq, ?_⟩
  split <;> exact ⟨rfl, rfl⟩

theorem laws_markSite (d : Device) (i : SiteId) : d.KeepsLaws (d.markSite i) := laws_markIf d _

theorem laws_builderIdle (d : Device) : d.KeepsLaws d.builderIdle := laws_builder d fun _ hp => by cases hp

theorem laws_storePayload (cell : Nat) (payload : List Byte) (d : Device) : d.KeepsLaws (storePayload cell payload d) :=
  ⟨⟨storePayload_wf cell payload, id, rfl, rfl, id, id, id, id, id, id, Nat.le_refl _, id, fun _ _ _ h => h⟩, id, id⟩

/-- A change of the feed port but for the command unit's queues; the cells held may only become fewer. -/
theorem laws_feed (d : Device) {f : Feed} (hc : f.cmds = d.feed.cmds) (hr : f.replies = d.feed.replies)
    (ho : d.feed.OutLaw → f.OutLaw)
    (hb : Within (f.buffers.toList.filterMap Buffer.cell) (d.feed.buffers.toList.filterMap Buffer.cell)) :
    d.KeepsLaws { d with feed := f } :=
  ⟨⟨id, id, hc, hr, ho, id, id, id, id, id, Nat.le_refl _, id, fun _ _ _ h => h⟩,
    fun ⟨hd, hu, hs⟩ => ⟨nodup_of_within (within_append_left _ hb) hd, hu, hs⟩, id⟩

end Sys2Proof.Machine
end

section
/-!
SUPPORT. What the changes of one site keep: its windows and timers (chapter 7), its pacer (chapter 8), its queue and
control list (chapters 5 and 6).
-/

namespace Sys2Proof.Machine
open Sys2Proof.Laws

/-! ## Sequence numbers -/

theorem seqsFrom_append {n : Half} {l m : List Rank} :
    seqsFrom n (l ++ m) ↔ seqsFrom n l ∧ seqsFrom (n + BitVec.ofNat 16 l.length) m := by
  induction l generalizing n with
  | nil => simp [seqsFrom]
  | cons r l ih =>
    have hn : n + 1 + BitVec.ofNat 16 l.length = n + BitVec.ofNat 16 (l.length + 1) := by
      rw [BitVec.ofNat_add, BitVec.add_assoc, BitVec.add_comm 1]; rfl
    simp only [List.cons_append, seqsFrom, ih, List.length_cons, hn, and_assoc]

theorem seqsFrom_map {n : Half} {l : List Rank} {f : Rank → Rank} (h : ∀ r, (f r).seq = r.seq) :
    seqsFrom n (l.map f) ↔ seqsFrom n l := by
  induction l generalizing n with
  | nil => rfl
  | cons r l ih => simp only [List.map_cons, seqsFrom, ih, h]

theorem seqsFrom_modify {n : Half} {l : List Rank} {f : Rank → Rank} (h : ∀ r, (f r).seq = r.seq) (k : Nat) :
    seqsFrom n (l.modify k f) ↔ seqsFrom n l := by
  induction l generalizing n k with
  | nil => rw [List.modify_nil]
  | cons r l ih =>
    cases k with
    | zero => simp [seqsFrom, h]
    | succ k => simp [seqsFrom, ih]

/-! ## Windows -/

/-- What a change of a window has to keep, its timers and link apart. -/
structure Window.KeepsRanks (v w : Window) : Prop where
  law : v.Law → w.Law
  room : v.HasRoom → w.HasRoom
  sized : v.Sized → w.Sized
  retry : v.retry ≤ 15 → w.retry ≤ 15

theorem ranks_trans {u v w : Window} (h : u.KeepsRanks v) (k : v.KeepsRanks w) : u.KeepsRanks w :=
  ⟨k.law ∘ h.law, k.room ∘ h.room, k.sized ∘ h.sized, k.retry ∘ h.retry⟩

/-- Ranks, prepared block and next seq as they were. -/
theorem ranks_same {v w : Window} (hr : w.ranks = v.ranks) (hp : w.prepared = v.prepared) (hn : w.nextSeq = v.nextSeq)
    (ht : v.retry ≤ 15 → w.retry ≤ 15) : v.KeepsRanks w := by
  refine ⟨?_, ?_, ?_, ht⟩
  · unfold Window.Law Window.count; rw [hr, hp, hn]; exact id
  · unfold Window.HasRoom; rw [hr, hp]; exact id
  · unfold Window.Sized; rw [hr, hp]; exact id

/-- An emptied window keeps every law. -/
theorem ranks_empty (v : Window) {w : Window} (hr : w.ranks = []) (hp : w.prepared = none) (ht : w.retry = 0) :
    v.KeepsRanks w := by
  refine ⟨fun _ => ?_, fun _ => ⟨hp, by rw [hr]; decide⟩, fun _ => ?_, fun _ => by omega⟩
  · unfold Window.Law Window.count; rw [hr, hp]; exact ⟨by decide, trivial⟩
  · unfold Window.Sized; rw [hr, hp]; exact ⟨fun _ h => (by cases h), fun _ h => (by cases h)⟩

/-- Ranks changed in place, numbers kept and no block larger than it was or a header alone. -/
theorem ranks_map (w : Window) {f : Rank → Rank} (h : ∀ r, (f r).seq = r.seq)
    (hs : ∀ r, r.block.size ≤ 32800 → (f r).block.size ≤ 32800) : w.KeepsRanks { w with ranks := w.ranks.map f } := by
  refine ⟨fun ⟨hc, hl⟩ => ⟨by simpa [Window.count] using hc, ?_⟩, fun ⟨hp, hl⟩ => ⟨hp, by simpa using hl⟩,
    fun ⟨hr, hp⟩ => ⟨fun r hm => ?_, hp⟩, id⟩
  · simpa [seqsFrom_map h] using hl
  · obtain ⟨x, hx, rfl⟩ := List.mem_map.1 hm
    exact hs x (hr x hx)

theorem ranks_modify (w : Window) (k : Nat) (b : Bool) :
    w.KeepsRanks { w with ranks := w.ranks.modify k fun r => { r with pending := b } } := by
  refine ⟨fun ⟨hc, hl⟩ => ⟨by simpa [Window.count] using hc, ?_⟩, fun ⟨hp, hl⟩ => ⟨hp, by simpa using hl⟩,
    fun ⟨hr, hp⟩ => ⟨fun r hm => ?_, hp⟩, id⟩
  · simpa [seqsFrom_modify] using hl
  · obtain ⟨n, hn, rfl⟩ := List.mem_iff_getElem.1 hm
    have hn' : n < w.ranks.length := by simpa using hn
    rw [List.getElem_modify]
    split <;> exact hr w.ranks[n] (List.getElem_mem hn')

theorem ranks_markFirst (w : Window) : w.KeepsRanks w.markFirst := ranks_modify w 0 true

/-- The oldest ranks leave. -/
theorem ranks_drop (w : Window) (n : Nat) : w.KeepsRanks { w with ranks := w.ranks.drop n } := by
  refine ⟨fun ⟨hc, hl⟩ => ⟨?count, ?seqs⟩, fun ⟨hp, hl⟩ => ⟨hp, by rw [List.length_drop]; omega⟩,
    fun ⟨hr, hp⟩ => ⟨fun r hm => hr r (List.mem_of_mem_drop hm), hp⟩, id⟩
  case count =>
    simp only [Window.count, List.length_drop] at hc ⊢
    omega
  case seqs =>
    rcases Nat.lt_or_ge w.ranks.length n with hn | hn
    · rw [List.drop_eq_nil_of_le (Nat.le_of_lt hn)]; trivial
    · rw [← List.take_append_drop n w.ranks, seqsFrom_append] at hl
      have hstart : w.nextSeq - BitVec.ofNat 16 (w.ranks.take n ++ w.ranks.drop n).length +
          BitVec.ofNat 16 (w.ranks.take n).length = w.nextSeq - BitVec.ofNat 16 (w.ranks.drop n).length := by
        rw [List.length_append, BitVec.ofNat_add]
        generalize BitVec.ofNat 16 (w.ranks.take n).length = a
        generalize BitVec.ofNat 16 (w.ranks.drop n).length = b
        bv_omega
      rw [hstart] at hl
      exact hl.2

/-- Less may be prepared. -/
theorem ranks_unprepare (w : Window) (test : Block → Bool) :
    w.KeepsRanks { w with prepared := w.prepared.filter test } := by
  obtain ⟨ranks, next, prep, ack, probe, retry, link, closing⟩ := w
  cases prep with
  | none => exact ranks_same rfl rfl rfl id
  | some b =>
    simp only [Option.filter_some]
    split
    · exact ranks_same rfl rfl rfl id
    · exact ⟨fun ⟨hc, hl⟩ => ⟨by simp [Window.count] at hc ⊢; omega, hl⟩, fun ⟨hp, _⟩ => (by cases hp),
        fun ⟨hr, _⟩ => ⟨hr, fun _ h => (by cases h)⟩, id⟩

/-- A cancelled delivery leaves VOID ranks and no prepared block (R144). -/
theorem ranks_cancelled (w : Window) (id : Nat) : w.KeepsRanks (w.cancelled id) := by
  refine ranks_trans (ranks_map w (f := voidIf id) (fun r => ?_) (fun r hr => ?_)) (ranks_unprepare _ _)
  · unfold voidIf; split <;> rfl
  · unfold voidIf; split
    · exact (by decide : Config.headerBytes ≤ 32800)
    · exact hr

/-- A taken offer: the prepared block joins at the tail with next seq, or a resend loses its mark. -/
theorem ranks_taken {w : Window} {o : Offer} (h : w.offer = some o) : w.KeepsRanks (w.taken o) := by
  cases o with
  | resend k => exact ranks_modify w k false
  | fresh b =>
    have hb : w.prepared = some b := by
      unfold Window.offer at h
      repeat' split at h
      all_goals simp_all
    refine ⟨fun ⟨hc, hl⟩ => ⟨?count, ?seqs⟩, fun ⟨hp, _⟩ => (by simp [hb] at hp),
      fun ⟨hr, hp⟩ => ⟨fun r hm => ?size, fun _ h => (by cases h)⟩, id⟩
    case count => simpa [Window.count, Window.taken, hb] using hc
    case seqs =>
      have hstart : w.nextSeq + 1 - BitVec.ofNat 16 (w.ranks.length + 1)
          = w.nextSeq - BitVec.ofNat 16 w.ranks.length := by
        rw [BitVec.ofNat_add]; bv_omega
      simp only [Window.taken, List.length_append, List.length_singleton, hstart]
      exact seqsFrom_append.2 ⟨hl, by simp only [seqsFrom, and_true]; bv_omega⟩
    case size =>
      rcases List.mem_append.1 hm with hm | hm
      · exact hr r hm
      · rw [List.mem_singleton.1 hm]; exact hp b hb

/-! ## The sites' windows -/

/-- A change of a site's window with its halt record. -/
theorem siteLaws_win (a : Site) {w : Window} {h : Option HaltRecord} (hw : a.win.KeepsRanks w)
    (hl : a.LinkLaw → ({ a with win := w, halt := h } : Site).LinkLaw) : a.KeepsLaws { a with win := w, halt := h } :=
  ⟨⟨fun ⟨hc, hv, hr⟩ => ⟨hc, hv, hr.1, hw.retry hr.2.1, hr.2.2⟩, id, fun hs hc => ⟨hw.sized hs, hc⟩, hw.law, hl⟩, rfl,
    hw.room, within_refl _⟩

theorem laws_onWin {d : Device} {i : SiteId} {f : Window → Window} (hw : ∀ w : Window, w.KeepsRanks (f w))
    (hl : ∀ w : Window, (f w).link = w.link ∧ (f w).ackTimer = w.ackTimer ∧ (f w).probeTimer = w.probeTimer) :
    d.KeepsLaws (d.onWin i f) := by
  refine laws_onSite (siteLaws_win (d.site i) (hw _) ?_)
  obtain ⟨h1, h2, h3⟩ := hl (d.site i).win
  unfold Site.LinkLaw
  simp only [h1, h2, h3]
  exact id

theorem syncAck_active {q : Bool} {st : Site} (h : syncAck q st ≠ .stopped) : st.win.link = .active := by
  unfold syncAck ackMayRun at h
  repeat' split at h
  all_goals simp_all

theorem restartAck_active {q : Bool} {st : Site} (h : restartAck q st ≠ .stopped) : st.win.link = .active := by
  unfold restartAck ackMayRun at h
  split at h
  all_goals simp_all

theorem syncProbe_linkLost {q : Bool} {st : Site} (h : syncProbe q st ≠ none) : st.win.link = .linkLost := by
  unfold syncProbe at h
  split at h
  all_goals simp_all

theorem laws_syncTimers (i : SiteId) (d : Device) : d.KeepsLaws (syncTimers i d) :=
  laws_onSite (siteLaws_win (d.site i) (ranks_same rfl rfl rfl id)
    fun ⟨hh, hr, _, _⟩ => ⟨hh, hr, syncAck_active, syncProbe_linkLost⟩)

theorem laws_startAck (i : SiteId) (d : Device) : d.KeepsLaws (startAck i d) :=
  laws_onSite (siteLaws_win (d.site i) (ranks_same rfl rfl rfl id)
    fun ⟨hh, hr, _, hp⟩ => ⟨hh, hr, restartAck_active, hp⟩)

/-- Two changes of one site are one. -/
theorem onSite_onSite (d : Device) (i : SiteId) (f g : Site → Site) :
    (d.onSite i f).onSite i g = d.onSite i fun st => g (f st) := by
  unfold Device.onSite modifyAt
  simp

/-- What a halt leaves of the site (R182): both timers stopped. -/
def Site.halted (st : Site) (h : HaltRecord) : Site :=
  { st with win := { st.win with link := .halted, ackTimer := .stopped, probeTimer := none }, halt := some h }

theorem haltSite_eq (i : SiteId) (det : CondDetails) (d : Device) :
    haltSite i det d = d.onSite i fun st =>
      st.halted { details := det, clock := d.time, resume := resumeStateOf st.win.link } := by
  unfold haltSite syncTimers
  rw [onSite_onSite]
  congr 1
  funext st
  simp only [Site.halted, syncAck, syncProbe, ackMayRun]
  cases st.win.ackTimer <;> simp

theorem resumeStateOf_cases (l : LinkState) : resumeStateOf l = .waiting ∨ resumeStateOf l = .active := by
  unfold resumeStateOf; split <;> simp

theorem laws_haltSite (i : SiteId) (det : CondDetails) (d : Device) : d.KeepsLaws (haltSite i det d) := by
  rw [haltSite_eq]
  refine laws_onSite (siteLaws_win (d.site i) (ranks_same rfl rfl rfl id) fun _ => ?_)
  exact ⟨by simp, by simpa using resumeStateOf_cases _, by simp, by simp⟩

/-! ## Pacers -/

/-- A change of a site's pacer that leaves allotments and credit. -/
theorem laws_onPace {d : Device} {i : SiteId} {f : Pacer → Pacer}
    (h : ∀ p, (f p).active = p.active ∧ (f p).staged = p.staged ∧ (f p).eCur = p.eCur ∧ (f p).credit = p.credit ∧
      (f p).level = p.level ∧ (f p).refCount = p.refCount ∧ (f p).resendCount = p.resendCount) :
    d.KeepsLaws (d.onPace i f) := by
  obtain ⟨h1, h2, h3, h4, h5, h6, h7⟩ := h (d.site i).pace
  refine laws_onSite ⟨⟨?range, id, fun hs hc => ⟨hs, ?credit⟩, id, id⟩, rfl, id, within_refl _⟩
  case range => unfold Site.InRange Site.RangeLaw; simp only [h5, h6, h7]; exact id
  case credit => unfold Site.CreditLaw at hc ⊢; simp only [h1, h2, h3, h4]; exact hc

/-! ## Queues, control lists, targets and curves -/

/-- A change of the queue and current delivery of a site that adds no page version. -/
theorem laws_onQueue {d : Device} {i : SiteId} {f : SiteQueue → SiteQueue}
    (hc : (f (d.site i).q).control = (d.site i).q.control)
    (hr : Within (f (d.site i).q).refs (d.site i).q.refs) : d.KeepsLaws (d.onQueue i f) :=
  laws_onSite ⟨⟨id, by unfold Site.ControlLaw; simp only [hc]; exact id, fun hs hk => ⟨hs, hk⟩, id, id⟩, rfl, id, hr⟩

/-- A change of the current delivery that leaves the version it is of. -/
theorem laws_mapCurrent (d : Device) (i : SiteId) {f : Delivery → Delivery} (h : ∀ c, (f c).ref = c.ref) :
    d.KeepsLaws (d.onQueue i fun q => { q with current := q.current.map f }) := by
  refine laws_onQueue rfl ?_
  unfold SiteQueue.refs
  cases hc : (d.site i).q.current with
  | none => exact within_refl _
  | some c => simpa [h] using within_refl _

theorem laws_noCurrent (d : Device) (i : SiteId) : d.KeepsLaws (d.onQueue i fun q => { q with current := none }) := by
  refine laws_onQueue rfl (within_of_sublist ?_)
  simp [SiteQueue.refs]

theorem laws_filterQueue (d : Device) (i : SiteId) (test : QueueEntry → Bool) :
    d.KeepsLaws (d.onQueue i fun q => { q with queue := q.queue.filter test }) := by
  refine laws_onQueue rfl (within_of_sublist ?_)
  exact (List.filter_sublist.map _).append (List.Sublist.refl _)

theorem laws_onTgt {d : Device} {i : SiteId} {f : Targets → Targets}
    (h : ∀ t, (f t).offsets = t.offsets ∧ ∀ k, (entryOf (f t).records k).owed = (entryOf t.records k).owed) :
    d.KeepsLaws (d.onTgt i f) := by
  obtain ⟨ho, hw⟩ := h (d.site i).tgt
  refine laws_onSite ⟨⟨?range, ?control, fun hs hc => ⟨hs, hc⟩, id, id⟩, rfl, id, within_refl _⟩
  case range => unfold Site.InRange Site.RangeLaw; simp only [ho]; exact id
  case control => unfold Site.ControlLaw Site.target; simp only [hw]; exact id

theorem laws_setGate (i : SiteId) (g : Gate) (d : Device) : d.KeepsLaws (setGate i g d) :=
  laws_onTgt fun _ => ⟨rfl, fun _ => rfl⟩

/-- A target record's aims and generations are in no law. -/
theorem laws_onTarget {d : Device} {i : SiteId} {k : Stock} {f : TargetRecord → TargetRecord}
    (h : ∀ r, (f r).owed = r.owed) : d.KeepsLaws (d.onTarget i k f) := by
  refine laws_onTgt fun t => ⟨rfl, fun j => ?_⟩
  rw [entryOf_modifyAt]
  split
  case isTrue hj => rw [h, hj]
  case isFalse => rfl

/-- A change of a site's curves that leaves valid ones and the clamp count in range. -/
theorem laws_onTone {d : Device} {i : SiteId} {f : Tone → Tone}
    (h : (d.site i).InRange → (f (d.site i).tone).clampCount ≤ 65535 ∧
      ∀ s : Sep, (entryOf (f (d.site i).tone).active.curves s).Valid ∧
        (entryOf (f (d.site i).tone).pending.curves s).Valid) : d.KeepsLaws (d.onTone i f) :=
  laws_onSite ⟨⟨fun hr => ⟨hr.1, (h hr).2, (h hr).1, hr.2.2.2⟩, id, fun hs hc => ⟨hs, hc⟩, id, id⟩, rfl, id,
    within_refl _⟩

end Sys2Proof.Machine
end

section
/-!
SUPPORT. The shared operations keep the laws: events, conditions, postings, cancellations, page starts, enqueues and
the ends of deliveries (chapters 5, 6 and 9).
-/

namespace Sys2Proof.Machine
open Sys2Proof.Laws

/-! ## The outbound feed (R198, R199) -/

theorem feedAsk_outLaw {f : Feed} (h : f.OutLaw) : (feedAsk f).OutLaw := by
  obtain ⟨he, ho, ht⟩ := h
  unfold feedAsk
  split
  case isFalse => exact ⟨he, ho, ht⟩
  case isTrue =>
    split
    case h_1 r rs hr => exact ⟨he, ho, by simp [hr]⟩
    case h_2 hr =>
      split
      case h_1 e es hes => exact ⟨by simpa [hes] using he, ho, by simp⟩
      case h_2 => exact ⟨he, ho, ht⟩

theorem joinEvent_outLaw {f : Feed} (e : Event) (h : f.OutLaw) : (joinEvent e f).OutLaw := by
  obtain ⟨he, ho, ht⟩ := h
  unfold joinEvent Config.eventCapacity
  split
  case isTrue hl =>
    refine feedAsk_outLaw ⟨length_append_one hl _, ho, fun t h => ⟨(ht t h).1, fun _ =>
      List.append_ne_nil_of_right_ne_nil _ (List.cons_ne_nil _ _)⟩⟩
  case isFalse => exact ⟨he, ho, ht⟩

theorem laws_event (d : Device) (e : Event) : d.KeepsLaws (d.event e) := by
  obtain ⟨hb, -, hc, hr, -, -⟩ := joinEvent_keeps e d.feed
  exact laws_feed d hc hr (joinEvent_outLaw e) (by rw [hb]; exact within_refl _)

theorem laws_eventIf (d : Device) (b : Bool) (e : Event) : d.KeepsLaws (d.eventIf b e) := by
  cases b
  · exact laws_refl d
  · exact laws_event d e

/-! ## Conditions (R179 to R182) -/

theorem laws_raise (i : SiteId) (det : CondDetails) (d : Device) : d.KeepsLaws (raise i det d) := by
  unfold raise
  simp only
  split
  case h_1 => exact laws_refl d
  case h_2 => exact laws_trans (laws_event d _) (laws_haltSite i det _)
  case h_3 => exact laws_event d _
  case h_4 => exact laws_event d _

/-! ## Control lists and targets (R106, R108, R120, R121) -/

/-- A site with its control list and target records replaced. -/
def Site.withControl (st : Site) (c : List ControlEntry) (r : Vector TargetRecord 4) : Site :=
  { st with q := { st.q with control := c }, tgt := { st.tgt with records := r } }

theorem laws_withControl {d : Device} {i : SiteId} {f : Site → Site} (c : List ControlEntry)
    (r : Vector TargetRecord 4) (hf : f (d.site i) = (d.site i).withControl c r)
    (h : (d.site i).ControlLaw → ((d.site i).withControl c r).ControlLaw) : d.KeepsLaws (d.onSite i f) := by
  refine laws_onSite ?_
  rw [hf]
  exact ⟨⟨id, h, fun hs hc => ⟨hs, hc⟩, id, id⟩, rfl, id, within_refl _⟩

theorem controlRoom_iff (st : Site) : st.controlRoom = true ↔ st.q.control.length < 16 :=
  decide_eq_true_iff

@[simp] theorem isTarget_target (s k : Stock) (gen : Byte) (aims : Aims) :
    (ControlEntry.target s gen aims).isTarget k = decide (s = k) := rfl

theorem owed_modifyAt (r : Vector TargetRecord 4) (k j : Stock) (b : Bool) :
    (entryOf (modifyAt r k fun x => { x with owed := b }) j).owed = if j = k then b else (entryOf r j).owed := by
  rw [entryOf_modifyAt]; split <;> rfl

/-- An entry that is no TARGET joins a list with room. -/
theorem laws_appendControl {i : SiteId} {e : ControlEntry} {d : Device} (hroom : (d.site i).controlRoom = true)
    (he : ∀ k : Stock, e.isTarget k = false) : d.KeepsLaws (appendControl i e d) := by
  rw [controlRoom_iff] at hroom
  refine laws_withControl ((d.site i).q.control ++ [e]) (d.site i).tgt.records rfl fun ⟨_, hk⟩ => ⟨?_, fun k => ?_⟩
  · exact length_append_one hroom e
  · simpa [he, Site.target, Site.withControl] using hk k

/-- A TARGET of a stock that has none joins a list with room, and the stock is owed no more. -/
theorem laws_appendTarget {i : SiteId} {k : Stock} {gen : Byte} {aims : Aims} {d : Device}
    (hroom : (d.site i).controlRoom = true)
    (hnone : (d.site i).ControlLaw → (d.site i).q.control.any (·.isTarget k) = false) :
    d.KeepsLaws (appendControl i (.target k gen aims) (d.onTarget i k fun r => { r with owed := false })) := by
  unfold appendControl Device.onTarget Device.onTgt Device.onQueue
  rw [onSite_onSite]
  rw [controlRoom_iff] at hroom
  refine laws_withControl ((d.site i).q.control ++ [.target k gen aims])
    (modifyAt (d.site i).tgt.records k fun r => { r with owed := false }) rfl fun hl => ?_
  have hn := hnone hl
  obtain ⟨_, hk⟩ := hl
  refine ⟨length_append_one hroom _, fun j => ?_⟩
  · obtain ⟨hone, howed⟩ := hk j
    simp only [Site.target, Site.withControl, owed_modifyAt]
    by_cases hj : k = j
    · subst hj
      have hempty : (d.site i).q.control.filter (·.isTarget k) = [] := by
        rw [List.any_eq_false] at hn
        exact List.filter_eq_nil_iff.2 hn
      simp [List.filter_append, hempty]
    · have hjk : j ≠ k := fun e => hj e.symm
      simpa [List.filter_append, hj, hjk, Site.target] using And.intro hone howed

/-- A stock with no TARGET in the list becomes owed. -/
theorem laws_owe {i : SiteId} {k : Stock} {d : Device} (hnone : (d.site i).q.control.any (·.isTarget k) = false) :
    d.KeepsLaws (d.onTarget i k fun r => { r with owed := true }) := by
  refine laws_withControl (d.site i).q.control (modifyAt (d.site i).tgt.records k fun r => { r with owed := true }) rfl
    fun ⟨hl, hk⟩ => ⟨hl, fun j => ?_⟩
  obtain ⟨hone, howed⟩ := hk j
  simp only [Site.target, Site.withControl, owed_modifyAt]
  refine ⟨hone, fun h => ?_⟩
  split at h
  case isTrue hj => rw [hj]; exact hnone
  case isFalse => exact howed h

/-- An entry replaced by `e` if it is the TARGET of stock `k`. -/
def ControlEntry.replacedBy (x : ControlEntry) (k : Stock) (e : ControlEntry) : ControlEntry :=
  if x.isTarget k then e else x

theorem isTarget_replacedBy (x : ControlEntry) (k j : Stock) (gen : Byte) (aims : Aims) :
    (x.replacedBy k (.target k gen aims)).isTarget j = x.isTarget j := by
  unfold ControlEntry.replacedBy
  split
  case isFalse => rfl
  case isTrue h =>
    cases x with
    | target s g a => rw [show s = k from of_decide_eq_true h]; rfl
    | cancel => cases h
    | notAvail => cases h

/-- The TARGET of a stock is replaced in place. -/
theorem laws_replaceTarget (i : SiteId) (k : Stock) (gen : Byte) (aims : Aims) (d : Device) :
    d.KeepsLaws (d.onQueue i fun q =>
      { q with control := q.control.map fun x => x.replacedBy k (.target k gen aims) }) := by
  refine laws_withControl ((d.site i).q.control.map fun x => x.replacedBy k (.target k gen aims))
    (d.site i).tgt.records rfl
    fun ⟨hl, hk⟩ => ⟨by simpa [Site.withControl] using hl, fun j => ?_⟩
  have hsame : (fun x => ControlEntry.isTarget j x) ∘ (fun x => x.replacedBy k (.target k gen aims)) =
      fun x => ControlEntry.isTarget j x := funext fun x => isTarget_replacedBy x k j gen aims
  simp only [Site.withControl, Site.target, List.filter_map, hsame, List.any_map, List.length_map]
  exact hk j

theorem laws_postCancel (i : SiteId) (key : PageKey) (n : Nat) (r : CancelReason) (d : Device) :
    d.KeepsLaws (postCancel i key n r d) := by
  unfold postCancel
  split
  case isTrue => exact laws_refl d
  case isFalse =>
    split
    case isTrue h => exact laws_appendControl h fun _ => rfl
    case isFalse => exact laws_raise i _ d

theorem laws_postNotAvail (i : SiteId) (pos : Position) (r : NotAvailReason) (d : Device) :
    d.KeepsLaws (postNotAvail i pos r d) := by
  unfold postNotAvail
  split
  case isTrue => exact laws_refl d
  case isFalse =>
    split
    case isTrue h => exact laws_appendControl h fun _ => rfl
    case isFalse => exact laws_raise i _ d

theorem laws_postProduced (i : SiteId) (k : Stock) (gen : Byte) (a : Aims) (d : Device) :
    d.KeepsLaws (postProduced i k gen a d) := by
  unfold postProduced
  simp only
  split
  case isTrue => exact laws_after (laws_markIf _ _) (laws_replaceTarget i k gen a d)
  case isFalse hnone =>
    simp only [Bool.not_eq_true] at hnone
    split
    case isTrue hroom => exact laws_appendTarget hroom fun _ => hnone
    case isFalse => exact laws_owe hnone

theorem laws_produce (i : SiteId) (k : Stock) (d : Device) : d.KeepsLaws (produce i k d) := by
  unfold produce
  simp only
  split
  case isTrue => exact laws_refl d
  case isFalse => exact laws_after (laws_postProduced i k _ _ _) (laws_onTarget fun _ => rfl)

theorem laws_postOwedStock (i : SiteId) (k : Stock) (d : Device) : d.KeepsLaws (postOwedStock i k d) := by
  unfold postOwedStock
  simp only
  split
  case isTrue h =>
    rw [Bool.and_eq_true] at h
    exact laws_appendTarget h.2 fun hl => (hl.2 k).2 h.1
  case isFalse => exact laws_refl d

theorem laws_postOwed (i : SiteId) (d : Device) : d.KeepsLaws (postOwed i d) :=
  laws_foldl _ _ (fun d k => laws_postOwedStock i k d) d

theorem laws_oweUnacknowledged (i : SiteId) (d : Device) : d.KeepsLaws (oweUnacknowledged i d) := by
  refine laws_trans (laws_foldl _ _ (fun d k => ?_) d) (laws_postOwed i _)
  split
  case isTrue => exact laws_refl d
  case isFalse =>
    split
    case isTrue => exact laws_refl d
    case isFalse h => exact laws_owe (by simpa using h)

theorem laws_applyTarget (i : SiteId) (k : Stock) (gen : Byte) (d : Device) : d.KeepsLaws (applyTarget i k gen d) := by
  unfold applyTarget
  simp only
  have h : d.KeepsLaws ((d.onTarget i k fun r => { r with ackedGen := gen }).event
      (.targetApplied i k gen (decide (gen = ((d.site i).target k).latestGen)))) :=
    laws_after (laws_event _ _) (laws_onTarget fun _ => rfl)
  split
  case isTrue => exact laws_trans h (laws_setGate i .idle _)
  case isFalse => exact h

/-! ## The retained list and the delivered check (R18, R22) -/

theorem laws_retain (u : Nat) (d : Device) : d.KeepsLaws (retain u d) := by
  unfold retain
  split
  case isTrue => exact laws_refl d
  case isFalse h =>
    have hrec : d.KeepsLaws (d.onRecord u fun v => { v with retained := some d.retainedCount }) :=
      laws_onRecord_quiet fun _ => ⟨rfl, rfl, rfl, rfl, rfl⟩
    refine laws_trans hrec ⟨⟨id, id, rfl, rfl, id, fun ⟨hl, hn⟩ => ⟨hl, ?_⟩, id, id, id, id, Nat.le_refl _,
      id, fun _ _ _ h => h⟩, id, id⟩
    exact List.nodup_append.2 ⟨hn, nodup_one u, fun a ha b hb =>
      (by rw [List.mem_singleton.1 hb]; exact fun e => h (e ▸ ha))⟩

/-- A record's state goes on to one that a delivery may have; where R14 asks for an approval it has one already. -/
theorem laws_setState {d : Device} {u : Nat} {s : VersionState} (hs : s.Settled)
    (h : ∀ v, d.record u = some v → s = .released ∨ s = .delivered →
      v.state = .approved ∨ v.state = .released ∨ v.state = .delivered) :
    d.KeepsLaws (d.onRecord u fun v => { v with state := s }) := by
  refine laws_onRecord (fun _ => rfl) fun _ v hv => ⟨rfl, fun _ => hs, fun ha hw => ha ?_⟩
  rcases hw with hw | hw | hw
  · exact absurd hw hs.2.2
  · exact h v hv (.inl hw)
  · exact h v hv (.inr hw)

theorem laws_deliveredCheck (u : Nat) (d : Device) : d.KeepsLaws (deliveredCheck u d) := by
  unfold deliveredCheck
  split
  case h_2 => exact laws_refl d
  case h_1 v hv =>
    split
    case isFalse => exact laws_refl d
    case isTrue h =>
      refine laws_trans (laws_trans (laws_setState (by simp [VersionState.Settled]) fun x hx _ => ?_) (laws_retain u _))
        (laws_event _ _)
      rw [hv] at hx
      exact Option.some.inj hx ▸ .inr (.inl h.1)

theorem laws_finalRecord (u : Nat) (i : SiteId) (s : DeliveryState) (c : Option Condition) (d : Device) :
    d.KeepsLaws (finalRecord u i s c d) := laws_trans (laws_onDelivery d u i _) (laws_deliveredCheck u _)

/-! ## Cancellation (R126, R127) -/

theorem laws_cancelCurrent (i : SiteId) (c : Delivery) (cause : CancelCause) (d : Device) :
    d.KeepsLaws (cancelCurrent i c cause d) := by
  unfold cancelCurrent
  have h := laws_trans (laws_onWin (d := d) (i := i) (f := fun w => w.cancelled c.id) (fun w => ranks_cancelled w c.id)
    fun w => ⟨rfl, rfl, rfl⟩) (laws_markIf _ fun p => decide (p.site = i) && decide (p.job.delivery = some c.id))
  have hend : ∀ e : Device, e.KeepsLaws (finalRecord c.ref.uid i cause.state cause.condition
      (e.onQueue i fun q => { q with current := none })) := fun e =>
    laws_trans (laws_noCurrent e i) (laws_finalRecord _ _ _ _ _)
  simp only
  split
  case h_1 => exact laws_trans (laws_trans h (laws_postCancel i _ _ _ _)) (hend _)
  case h_2 => exact laws_trans h (hend _)

theorem laws_cancelQueued (i : SiteId) (u : Nat) (d : Device) : d.KeepsLaws (cancelQueued i u d) :=
  laws_trans (laws_filterQueue d i _) (laws_finalRecord _ _ _ _ _)

theorem laws_cancelDelivery (i : SiteId) (u : Nat) (cause : CancelCause) (d : Device) :
    d.KeepsLaws (cancelDelivery i u cause d) := by
  unfold cancelDelivery
  repeat' split
  case h_1.isTrue => exact laws_cancelCurrent i _ _ d
  case h_1.isFalse.isTrue => exact laws_cancelQueued i u d
  case h_1.isFalse.isFalse => exact laws_refl d
  case h_2.isTrue => exact laws_cancelQueued i u d
  case h_2.isFalse => exact laws_refl d

theorem laws_cancelAll (u : Nat) (cause : CancelCause) (d : Device) : d.KeepsLaws (cancelAll u cause d) := by
  refine laws_forSites (fun i d => ?_) d
  split
  case h_2 => exact laws_refl d
  case h_1 =>
    split
    case isTrue => exact laws_refl d
    case isFalse => exact laws_cancelDelivery i u cause d

/-! ## Page start (R81, R123) -/

theorem laws_switchCurves (i : SiteId) (a : Arm) (b : Bool) (d : Device) : d.KeepsLaws (switchCurves i a b d) := by
  have h : d.KeepsLaws (d.onTone i fun t => { t with active := t.pending, arm := none }) :=
    laws_onTone fun hr => ⟨hr.2.2.1, fun s => ⟨(hr.2.1 s).2, (hr.2.1 s).2⟩⟩
  unfold switchCurves
  simp only
  split
  case h_1 => exact laws_after (laws_event _ _) h
  case h_2 => exact h

theorem laws_takeHead (i : SiteId) (d : Device) : d.KeepsLaws (takeHead i d) := by
  unfold takeHead
  split
  case h_2 => exact laws_refl d
  case h_1 e rest hq =>
    refine laws_after (laws_onDelivery _ _ i _) (laws_after (laws_onQueue rfl ?_) (laws_serial d (Nat.le_succ _)))
    change Within (rest.map QueueEntry.ref ++ [e.ref]) (d.site i).q.refs
    rw [SiteQueue.refs, hq]
    exact within_trans (within_of_perm (List.perm_append_singleton e.ref _))
      (within_of_sublist (List.sublist_append_left _ _))

theorem laws_lookPageStart (i : SiteId) (d : Device) : d.KeepsLaws (lookPageStart i d) := by
  unfold lookPageStart
  simp only
  repeat' split
  · exact laws_takeHead i d
  · exact laws_trans (laws_trans (laws_setGate i _ d) (laws_switchCurves i _ _ _)) (laws_takeHead i _)
  · exact laws_setGate i _ d
  · exact laws_refl d
  · exact laws_trans (laws_trans (laws_setGate i _ d) (laws_switchCurves i _ _ _)) (laws_takeHead i _)
  · exact laws_trans (laws_switchCurves i _ _ d) (laws_takeHead i _)
  · exact laws_refl d

/-! ## Enqueue (R63, R67, R116) -/

/-- A version may be enqueued at a site: it has been released, and the site has no delivery of its position. -/
structure Device.MayEnqueue (d : Device) (i : SiteId) (ref : PageRef) : Prop where
  below : ref.uid < d.serial
  settled : d.SettledAt ref.uid
  absent : (d.site i).hasPosition ref.key.pos = false

theorem insertEntry_perm (e : QueueEntry) (l : List QueueEntry) : (insertEntry e l).Perm (e :: l) := by
  induction l with
  | nil => exact List.Perm.refl _
  | cons x l ih =>
    rw [insertEntry]
    split
    · exact List.Perm.refl _
    · exact (ih.cons x).trans (List.Perm.swap e x l)

theorem hasPosition_iff (st : Site) (pos : Position) :
    st.hasPosition pos = true ↔ pos ∈ st.q.refs.map fun r => r.key.pos := by
  unfold Site.hasPosition SiteQueue.refs
  cases st.q.current <;> simp
  grind

theorem positionLaw_insert {d : Device} {i : SiteId} {e : QueueEntry} (h : d.MayEnqueue i e.ref) (hd : d.PositionLaw) :
    (d.onQueue i fun q => { q with queue := insertEntry e q.queue }).PositionLaw := by
  obtain ⟨hs, hu, hl⟩ := (positionLaw_iff d).1 hd
  refine (positionLaw_iff _).2 ⟨fun j => ?_, hu, hl⟩
  by_cases hj : j = i
  case neg =>
    have he : ((d.onQueue i fun q => { q with queue := insertEntry e q.queue }).site j) = d.site j :=
      site_onSite_ne d hj _
    rw [he]
    exact hs j
  case pos =>
    subst hj
    rw [site_onQueue_same]
    have hperm : (SiteQueue.refs { (d.site j).q with queue := insertEntry e (d.site j).q.queue }).Perm
        (e.ref :: (d.site j).q.refs) := ((insertEntry_perm e _).map QueueEntry.ref).append_right _
    refine ⟨?_, fun r hr => ?_⟩
    · refine (hperm.map _).nodup_iff.2 (List.nodup_cons.2 ⟨fun hm => ?_, (hs j).1⟩)
      exact absurd ((hasPosition_iff _ _).2 hm) (by simp [h.absent])
    · rcases List.mem_cons.1 (hperm.mem_iff.1 hr) with rfl | hr
      · exact ⟨h.below, fun v hv he => h.settled v (he ▸ record_of_mem hu hv)⟩
      · exact (hs j).2 r hr

theorem laws_enqueue {d e : Device} {i : SiteId} {ref : PageRef} {c : DeliveryClass} {seps : SepSet}
    (h : d.KeepsLaws e) (hm : d.PositionLaw → e.MayEnqueue i ref) : d.KeepsLaws (enqueue i ref c seps e) := by
  have hcount := laws_counters e (e.orderCounter + 1) e.retainedCount e.free
  have hqueue : d.KeepsLaws ({ e with orderCounter := e.orderCounter + 1 }.onQueue i fun q =>
      { q with queue := insertEntry { ref := ref, cls := c, seps := seps, order := e.orderCounter } q.queue }) :=
    ⟨otherLaws_trans (laws_trans h hcount).toKeepsOtherLaws (otherLaws_onSite ⟨id, id, fun hs hc => ⟨hs, hc⟩, id, id⟩
      (codesDiffer_onSite rfl) (roomLaw_onSite id)), h.cell, fun hd =>
        positionLaw_insert ⟨(hm hd).below, (hm hd).settled, (hm hd).absent⟩ (h.position hd)⟩
  exact laws_trans hqueue (laws_after (laws_lookPageStart i _) (laws_onDelivery _ _ i _))

/-! ## The end of a delivery (R125) -/

theorem laws_endDelivery (i : SiteId) (id : Nat) (d : Device) : d.KeepsLaws (endDelivery i id d) := by
  unfold endDelivery
  split
  case h_2 => exact laws_refl d
  case h_1 c _ =>
    split
    case isFalse => exact laws_refl d
    case isTrue =>
      exact laws_trans (laws_trans (laws_trans (laws_onDelivery d _ i _) (laws_noCurrent _ i)) (laws_event _ _))
        (laws_deliveredCheck _ _)

end Sys2Proof.Machine
end

section
/-!
SUPPORT. Reclaim, repairs and band writes, the block builder and the ports keep the laws (chapters 2, 4 and 8).
-/

namespace Sys2Proof.Machine
open Sys2Proof.Laws

/-! ## Cells of band maps (R31) -/

theorem filterMap_set_within {α : Type} (l : List (Option α)) (k : Nat) (a : α) :
    Within ((l.set k (some a)).filterMap id) (a :: l.filterMap id) := by
  induction l generalizing k with
  | nil => exact within_nil _
  | cons x l ih =>
    cases k with
    | zero =>
      refine within_of_sublist ?_
      cases x <;> simp
    | succ k =>
      cases x with
      | none => simpa using ih k
      | some x => simpa using within_trans (within_cons x (ih k)) (within_of_perm (List.Perm.swap a x _))

theorem flatMap_set_within {α β : Type} (g : α → List β) (l : List α) {i : Nat} (hi : i < l.length) {a : α} {x : β}
    (h : Within (g a) (x :: g l[i])) : Within ((l.set i a).flatMap g) (x :: l.flatMap g) := by
  induction l generalizing i with
  | nil => exact absurd hi (Nat.not_lt_zero _)
  | cons y l ih =>
    cases i with
    | zero => simpa using within_append_right (l.flatMap g) h
    | succ i =>
      have hl := ih (Nat.lt_of_succ_lt_succ hi) h
      simpa using within_trans (within_append_left (g y) hl) within_middle

theorem flatMap_set_eq {α β : Type} (g : α → List β) (l : List α) {i : Nat} (hi : i < l.length) {a : α}
    (h : g a = g l[i]) : (l.set i a).flatMap g = l.flatMap g := by
  induction l generalizing i with
  | nil => exact absurd hi (Nat.not_lt_zero _)
  | cons y l ih =>
    cases i with
    | zero => simp [show g a = g y from h]
    | succ i => simp [ih (Nat.lt_of_succ_lt_succ hi) h]

theorem modifyAt_toList {α : Type} {n : Nat} (t : Vector α n) (i : Fin n) (f : α → α) :
    (modifyAt t i f).toList = t.toList.set i.val (f (entryOf t i)) := by
  simp [modifyAt, entryOf, Vector.toList_set]

/-- A recorded entry adds its cell at most (R42, R48). -/
theorem withEntry_cells (v : PageVersion) (s : Sep) (band : Nat) (e : BandEntry) :
    Within ((v.withEntry s band e).entries.map BandEntry.cell) (e.cell :: v.entries.map BandEntry.cell) := by
  have h : Within (v.withEntry s band e).entries (e :: v.entries) := by
    unfold PageVersion.entries PageVersion.withEntry
    rw [modifyAt_toList]
    refine flatMap_set_within _ _ (by simp) ?_
    simpa [entryOf] using filterMap_set_within (entryOf v.bands s) band e
  exact within_map _ h

theorem filterMap_set_cells {l : List (Option BandEntry)} {k : Nat} {e x : BandEntry} (h : l[k]? = some (some e))
    (hx : x.cell = e.cell) :
    ((l.set k (some x)).filterMap id).map BandEntry.cell = (l.filterMap id).map BandEntry.cell := by
  induction l generalizing k with
  | nil => rfl
  | cons y l ih =>
    cases k with
    | zero =>
      obtain rfl : y = some e := by simpa using h
      simp [hx]
    | succ k => cases y <;> simpa using ih (by simpa using h)

/-- An entry replaced by one of the same cell leaves the cells (R49). -/
theorem withEntry_same_cells {v : PageVersion} {s : Sep} {band : Nat} {e x : BandEntry} (h : v.entry s band = some e)
    (hx : x.cell = e.cell) :
    (v.withEntry s band x).entries.map BandEntry.cell = v.entries.map BandEntry.cell := by
  have hget : (entryOf v.bands s)[band]? = some (some e) := by
    unfold PageVersion.entry at h
    exact Option.join_eq_some_iff.1 h
  unfold PageVersion.entries PageVersion.withEntry
  rw [modifyAt_toList, List.map_flatMap, List.map_flatMap]
  exact flatMap_set_eq _ _ (by simp) (by simpa [entryOf] using filterMap_set_cells hget hx)

theorem mem_recordedCells (d : Device) (cell : Nat) : cell ∈ d.recordedCells ↔ d.cellRecorded cell = true := by
  simp [Device.recordedCells, Device.cellRecorded]

theorem mem_heldCells (d : Device) (cell : Nat) : cell ∈ d.heldCells ↔ d.cellHeld cell = true := by
  unfold Device.heldCells Device.cellHeld
  rw [List.mem_filterMap, List.any_eq_true]
  refine exists_congr fun b => and_congr_right fun _ => ?_
  cases b <;> simp [Buffer.cell]

/-- The cells held once a buffer is freed, with the one it held. -/
theorem heldCells_free {d : Device} {n : Fin 4} {w : BandWrite} (h : entryOf d.feed.buffers n = .writing w) :
    d.heldCells.Perm (w.cell :: (d.onBuffer n .free).heldCells) := by
  have hn : n.val < d.feed.buffers.toList.length := by simp
  have hw : d.feed.buffers.toList[n.val] = .writing w := by simpa [entryOf] using h
  have hd : d.feed.buffers.toList
      = d.feed.buffers.toList.take n ++ .writing w :: d.feed.buffers.toList.drop (n + 1) := by
    rw [← hw, List.getElem_cons_drop, List.take_append_drop]
  unfold Device.heldCells Device.onBuffer
  rw [modifyAt_toList, List.set_eq_take_append_cons_drop, if_pos hn]
  conv => lhs; rw [hd]
  simp only [List.filterMap_append, List.filterMap_cons, Buffer.cell]
  exact List.perm_middle

/-- The cells held once a buffer holds a write: those before, and the write's. -/
theorem heldCells_write (d : Device) (n : Fin 4) (w : BandWrite) :
    Within (d.onBuffer n (.writing w)).heldCells (w.cell :: d.heldCells) := by
  have hn : n.val < d.feed.buffers.toList.length := by simp
  unfold Device.heldCells Device.onBuffer
  rw [modifyAt_toList, List.set_eq_take_append_cons_drop, if_pos hn]
  have hd : d.feed.buffers.toList =
      d.feed.buffers.toList.take n ++ d.feed.buffers.toList[n.val] :: d.feed.buffers.toList.drop (n + 1) := by
    rw [List.getElem_cons_drop, List.take_append_drop]
  conv => rhs; rw [hd]
  simp only [List.filterMap_append, Buffer.cell, List.filterMap_cons]
  refine within_trans within_middle (within_cons _ (within_of_sublist ?_))
  refine (List.Sublist.refl _).append ?_
  split
  · exact List.Sublist.refl _
  · exact List.sublist_cons_self _ _

theorem laws_onBuffer {d : Device} {n : Fin 4} {x : Buffer}
    (h : Within (d.onBuffer n x).heldCells d.heldCells) : d.KeepsLaws (d.onBuffer n x) :=
  laws_feed d rfl rfl id h

/-- A buffer that holds no other cell than before. -/
theorem laws_keepBuffer (d : Device) (n : Fin 4) {x : Buffer}
    (h : x.cell = none ∨ x.cell = (entryOf d.feed.buffers n).cell) : d.KeepsLaws (d.onBuffer n x) := by
  refine laws_onBuffer (within_of_sublist ?_)
  have hn : n.val < d.feed.buffers.toList.length := by simp
  have hget : d.feed.buffers.toList[n.val] = entryOf d.feed.buffers n := by simp [entryOf]
  have hd : d.feed.buffers.toList =
      d.feed.buffers.toList.take n ++ d.feed.buffers.toList[n.val] :: d.feed.buffers.toList.drop (n + 1) := by
    rw [List.getElem_cons_drop, List.take_append_drop]
  unfold Device.heldCells Device.onBuffer
  rw [modifyAt_toList, List.set_eq_take_append_cons_drop, if_pos hn]
  conv => rhs; rw [hd, hget]
  simp only [List.filterMap_append, List.filterMap_cons]
  refine (List.Sublist.refl _).append ?_
  rcases h with h | h
  · rw [h]
    cases (entryOf d.feed.buffers n).cell with
    | none => exact List.Sublist.refl _
    | some c => exact List.sublist_cons_self _ _
  · generalize x.cell = c at h
    subst h
    exact List.Sublist.refl _

theorem laws_freeBuffer (d : Device) (n : Fin 4) : d.KeepsLaws (d.onBuffer n .free) := laws_keepBuffer d n (.inl rfl)

/-- A band write begins in a free cell (R39, R41). -/
theorem laws_beginWrite {d : Device} {n : Fin 4} {w : BandWrite} (hr : d.cellRecorded w.cell = false)
    (hh : d.cellHeld w.cell = false) : d.KeepsLaws (d.onBuffer n (.writing w)) := by
  refine ⟨⟨id, id, rfl, rfl, id, id, id, id, id, id, Nat.le_refl _, id, fun _ _ _ h => h⟩,
    fun ⟨hc, hu, hb⟩ => ⟨?_, hu, hb⟩, id⟩
  have hnew : w.cell ∉ d.recordedCells ++ d.heldCells := by
    rw [List.mem_append, mem_recordedCells, mem_heldCells, hr, hh]
    simp
  have hsub : Within (d.recordedCells ++ (d.onBuffer n (.writing w)).heldCells)
      (w.cell :: (d.recordedCells ++ d.heldCells)) :=
    within_trans (within_append_left _ (heldCells_write d n w)) within_middle
  exact nodup_of_within hsub (List.nodup_cons.2 ⟨hnew, hc⟩)

/-- One record of a list with identities used once is changed, and gains one thing at most. -/
theorem flatMap_onRecord_within {β : Type} {l : List PageVersion} {u : Nat} {f : PageVersion → PageVersion}
    (g : PageVersion → List β) {x : β} (hu : (l.map PageVersion.uid).Nodup)
    (h : ∀ v ∈ l, v.uid = u → Within (g (f v)) (x :: g v)) :
    Within (l.flatMap fun v => g (if v.uid = u then f v else v)) (x :: l.flatMap g) := by
  induction l with
  | nil => exact within_nil _
  | cons v l ih =>
    rw [List.map_cons, List.nodup_cons] at hu
    rw [List.flatMap_cons, List.flatMap_cons]
    split
    case isTrue he =>
      have hrest : (l.flatMap fun w => g (if w.uid = u then f w else w)) = l.flatMap g :=
        flatMap_congr_mem fun w hw => by
          rw [if_neg fun hwu => hu.1 (by rw [he, ← hwu]; exact List.mem_map_of_mem hw)]
      rw [hrest]
      exact within_append_right _ (h v List.mem_cons_self he)
    case isFalse =>
      exact within_trans (within_append_left _ (ih hu.2 fun w hw => h w (List.mem_cons_of_mem _ hw)))
        within_middle

theorem onRecord_recordedCells_within {d : Device} {u cell : Nat} {f : PageVersion → PageVersion}
    (hu : (d.table.map PageVersion.uid).Nodup)
    (h : ∀ v, d.record u = some v → Within ((f v).entries.map BandEntry.cell) (cell :: v.entries.map BandEntry.cell)) :
    Within (d.onRecord u f).recordedCells (cell :: d.recordedCells) := by
  unfold Device.recordedCells
  rw [onRecord_table, List.flatMap_map]
  exact flatMap_onRecord_within (fun v => v.entries.map BandEntry.cell) hu fun v hv he =>
    h v (he ▸ record_of_mem hu hv)

/-- An ended band write frees its buffer, and its cell may be recorded in a record of its version (R42, R48). -/
theorem laws_recordWrite {d : Device} {n : Fin 4} {w : BandWrite} {u : Nat} {f : PageVersion → PageVersion}
    (hw : entryOf d.feed.buffers n = .writing w) (hf : ∀ v, (f v).uid = v.uid)
    (h : ∀ v, d.record u = some v →
      Within ((f v).entries.map BandEntry.cell) (w.cell :: v.entries.map BandEntry.cell) ∧
        (v.state.Settled → (f v).state.Settled) ∧ (v.Approved → (f v).Approved)) :
    d.KeepsLaws ((d.onBuffer n .free).onRecord u f) := by
  refine ⟨otherLaws_trans (laws_freeBuffer d n).toKeepsOtherLaws (otherLaws_onRecord hf fun _ v hv => (h v hv).2),
    fun ⟨hc, hu, hb⟩ => ⟨?_, by rwa [onRecord_uids hf], onRecord_below hf hb⟩,
    positionLaw_onRecord (d := d.onBuffer n .free) hf fun v hv => (h v hv).2.1⟩
  have hrecorded := onRecord_recordedCells_within (d := d.onBuffer n .free) hu fun v hv => (h v hv).1
  have hcells : Within (((d.onBuffer n .free).onRecord u f).recordedCells ++ (d.onBuffer n .free).heldCells)
      (d.recordedCells ++ d.heldCells) :=
    within_trans (within_append_right _ hrecorded)
      (within_of_perm (List.perm_middle.symm.trans ((heldCells_free hw).symm.append_left _)))
  exact nodup_of_within hcells hc

end Sys2Proof.Machine
end

section
/-!
SUPPORT. What the shared operations leave of the sites' queues: one made at a site leaves every other site as it
was, and a cancellation adds no delivery anywhere.
-/

namespace Sys2Proof.Machine
open Sys2Proof.Laws

/-! ## The sites an operation leaves -/

theorem site_onWin_ne (d : Device) {i j : SiteId} (h : j ≠ i) (f : Window → Window) :
    (d.onWin i f).site j = d.site j := site_onSite_ne d h _

theorem site_onQueue_ne (d : Device) {i j : SiteId} (h : j ≠ i) (f : SiteQueue → SiteQueue) :
    (d.onQueue i f).site j = d.site j := site_onSite_ne d h _

theorem site_onTone_ne (d : Device) {i j : SiteId} (h : j ≠ i) (f : Tone → Tone) :
    (d.onTone i f).site j = d.site j := site_onSite_ne d h _

theorem site_onTgt_ne (d : Device) {i j : SiteId} (h : j ≠ i) (f : Targets → Targets) :
    (d.onTgt i f).site j = d.site j := site_onSite_ne d h _

theorem site_onPace_ne (d : Device) {i j : SiteId} (h : j ≠ i) (f : Pacer → Pacer) :
    (d.onPace i f).site j = d.site j := site_onSite_ne d h _

theorem site_setGate_ne {i j : SiteId} (h : j ≠ i) (g : Gate) (d : Device) : (setGate i g d).site j = d.site j :=
  site_onTgt_ne d h _

@[simp] theorem retain_site (u : Nat) (d : Device) (j : SiteId) : (retain u d).site j = d.site j := by
  unfold retain; split <;> rfl

@[simp] theorem deliveredCheck_site (u : Nat) (d : Device) (j : SiteId) : (deliveredCheck u d).site j = d.site j := by
  unfold deliveredCheck
  repeat' split
  case h_1.isTrue => rw [event_site, retain_site, onRecord_site]
  case h_1.isFalse => rfl
  case h_2 => rfl

@[simp] theorem finalRecord_site (u : Nat) (i : SiteId) (s : DeliveryState) (c : Option Condition) (d : Device)
    (j : SiteId) : (finalRecord u i s c d).site j = d.site j := by
  rw [finalRecord, deliveredCheck_site, onDelivery_site]

theorem site_raise_ne {i j : SiteId} (h : j ≠ i) (det : CondDetails) (d : Device) :
    (raise i det d).site j = d.site j := by
  unfold raise
  simp only
  split
  case h_2 => rw [haltSite_eq, site_onSite_ne _ h, event_site]
  all_goals rfl

theorem site_switchCurves_ne {i j : SiteId} (h : j ≠ i) (a : Arm) (b : Bool) (d : Device) :
    (switchCurves i a b d).site j = d.site j := by
  unfold switchCurves
  simp only
  split
  case h_1 => rw [event_site, site_onTone_ne d h]
  case h_2 => exact site_onTone_ne d h _

theorem site_takeHead_ne {i j : SiteId} (h : j ≠ i) (d : Device) : (takeHead i d).site j = d.site j := by
  unfold takeHead
  split
  case h_1 =>
    rw [onDelivery_site, site_onQueue_ne _ h]
    rfl
  case h_2 => rfl

theorem site_lookPageStart_ne {i j : SiteId} (h : j ≠ i) (d : Device) : (lookPageStart i d).site j = d.site j := by
  unfold lookPageStart
  simp only
  repeat' split
  · exact site_takeHead_ne h d
  · rw [site_takeHead_ne h, site_switchCurves_ne h, site_setGate_ne h]
  · exact site_setGate_ne h _ d
  · rfl
  · rw [site_takeHead_ne h, site_switchCurves_ne h, site_setGate_ne h]
  · rw [site_takeHead_ne h, site_switchCurves_ne h]
  · rfl

theorem site_enqueue_ne {i j : SiteId} (h : j ≠ i) (ref : PageRef) (c : DeliveryClass) (seps : SepSet) (d : Device) :
    (enqueue i ref c seps d).site j = d.site j := by
  unfold enqueue
  rw [site_lookPageStart_ne h, onDelivery_site, site_onQueue_ne _ h]
  rfl

/-! ## Cancellations add no delivery -/

/-- Nothing is delivered at site `j` after that was not before. -/
structure Device.NoNewRefs (d e : Device) : Prop where
  subset : ∀ j : SiteId, (e.site j).q.refs ⊆ (d.site j).q.refs

theorem noNewRefs_refl (d : Device) : d.NoNewRefs d := ⟨fun _ => List.Subset.refl _⟩

theorem noNewRefs_trans {d e f : Device} (h : d.NoNewRefs e) (k : e.NoNewRefs f) : d.NoNewRefs f :=
  ⟨fun j => List.Subset.trans (k.subset j) (h.subset j)⟩

/-- The sites as they were. -/
theorem noNewRefs_of_site {d e : Device} (h : ∀ j, (e.site j).q = (d.site j).q) : d.NoNewRefs e :=
  ⟨fun j => by rw [h j]; exact List.Subset.refl _⟩

theorem noNewRefs_foldl {α : Type} (l : List α) (f : Device → α → Device)
    (h : ∀ (d : Device) (a : α), d.NoNewRefs (f d a)) (d : Device) : d.NoNewRefs (l.foldl f d) := by
  induction l generalizing d with
  | nil => exact noNewRefs_refl d
  | cons a l ih => exact noNewRefs_trans (h d a) (ih _)

theorem noNewRefs_onQueue {d : Device} {i : SiteId} {f : SiteQueue → SiteQueue} (h : ∀ q, (f q).refs ⊆ q.refs) :
    d.NoNewRefs (d.onQueue i f) := by
  refine ⟨fun j => ?_⟩
  by_cases hj : j = i
  · subst hj; rw [site_onQueue_same]; exact h _
  · rw [site_onQueue_ne d hj]; exact List.Subset.refl _

@[simp] theorem raise_q (i : SiteId) (det : CondDetails) (d : Device) (j : SiteId) :
    ((raise i det d).site j).q = (d.site j).q := by
  by_cases hj : j = i
  case neg => rw [site_raise_ne hj]
  case pos =>
    subst hj
    unfold raise
    simp only
    split
    case h_2 => rw [haltSite_eq, site_onSite_same]; rfl
    all_goals rfl

theorem noNewRefs_postCancel (i : SiteId) (key : PageKey) (n : Nat) (r : CancelReason) (d : Device) :
    d.NoNewRefs (postCancel i key n r d) := by
  unfold postCancel
  repeat' split
  · exact noNewRefs_refl d
  · exact noNewRefs_onQueue fun q => List.Subset.refl _
  · exact noNewRefs_of_site fun j => raise_q i _ d j

theorem noNewRefs_noCurrent (d : Device) (i : SiteId) :
    d.NoNewRefs (d.onQueue i fun q => { q with current := none }) :=
  noNewRefs_onQueue fun q => by simp [SiteQueue.refs]

theorem noNewRefs_filterQueue (d : Device) (i : SiteId) (test : QueueEntry → Bool) :
    d.NoNewRefs (d.onQueue i fun q => { q with queue := q.queue.filter test }) :=
  noNewRefs_onQueue fun _ => ((List.filter_sublist.map _).append (List.Sublist.refl _)).subset

theorem noNewRefs_finalRecord (u : Nat) (i : SiteId) (s : DeliveryState) (c : Option Condition) (d : Device) :
    d.NoNewRefs (finalRecord u i s c d) := noNewRefs_of_site fun j => by rw [finalRecord_site]

theorem noNewRefs_cancelCurrent (i : SiteId) (c : Delivery) (cause : CancelCause) (d : Device) :
    d.NoNewRefs (cancelCurrent i c cause d) := by
  have hwin : d.NoNewRefs ((d.onWin i fun w => w.cancelled c.id).markIf fun p =>
      decide (p.site = i) && decide (p.job.delivery = some c.id)) := noNewRefs_of_site fun j => by
    rw [markIf_site, onWin_q]
  have hend : ∀ e : Device, e.NoNewRefs (finalRecord c.ref.uid i cause.state cause.condition
      (e.onQueue i fun q => { q with current := none })) := fun e =>
    noNewRefs_trans (noNewRefs_noCurrent e i) (noNewRefs_finalRecord _ _ _ _ _)
  unfold cancelCurrent
  simp only
  split
  case h_1 => exact noNewRefs_trans hwin (noNewRefs_trans (noNewRefs_postCancel i _ _ _ _) (hend _))
  case h_2 => exact noNewRefs_trans hwin (hend _)

theorem noNewRefs_cancelQueued (i : SiteId) (u : Nat) (d : Device) : d.NoNewRefs (cancelQueued i u d) :=
  noNewRefs_trans (noNewRefs_filterQueue d i _) (noNewRefs_finalRecord _ _ _ _ _)

theorem noNewRefs_cancelDelivery (i : SiteId) (u : Nat) (cause : CancelCause) (d : Device) :
    d.NoNewRefs (cancelDelivery i u cause d) := by
  unfold cancelDelivery
  repeat' split
  case h_1.isTrue => exact noNewRefs_cancelCurrent i _ _ d
  case h_1.isFalse.isTrue => exact noNewRefs_cancelQueued i u d
  case h_1.isFalse.isFalse => exact noNewRefs_refl d
  case h_2.isTrue => exact noNewRefs_cancelQueued i u d
  case h_2.isFalse => exact noNewRefs_refl d

theorem noNewRefs_cancelAll (u : Nat) (cause : CancelCause) (d : Device) : d.NoNewRefs (cancelAll u cause d) := by
  refine noNewRefs_foldl _ _ (fun d i => ?_) d
  simp only
  split
  case h_2 => exact noNewRefs_refl d
  case h_1 =>
    split
    case isTrue => exact noNewRefs_refl d
    case isFalse => exact noNewRefs_cancelDelivery i u cause d

theorem noNewRefs_event (d : Device) (e : Event) : d.NoNewRefs (d.event e) := noNewRefs_of_site fun _ => rfl

theorem noNewRefs_setState (d : Device) (u : Nat) (s : VersionState) :
    d.NoNewRefs (d.onRecord u fun x => { x with state := s }) := noNewRefs_of_site fun _ => rfl

theorem noNewRefs_retain (u : Nat) (d : Device) : d.NoNewRefs (retain u d) :=
  noNewRefs_of_site fun j => by rw [retain_site]

theorem noNewRefs_supersedeOne (n : Nat) (v : PageVersion) (d : Device) : d.NoNewRefs (supersedeOne n v d) := by
  unfold supersedeOne
  exact noNewRefs_trans (noNewRefs_trans (noNewRefs_trans (noNewRefs_setState d _ _) (noNewRefs_retain _ _))
    (noNewRefs_cancelAll _ _ _)) (noNewRefs_event _ _)

theorem noNewRefs_supersede (key : PageKey) (n : Nat) (d : Device) : d.NoNewRefs (supersede key n d) :=
  noNewRefs_foldl _ _ (fun d v => noNewRefs_supersedeOne n v d) d

/-- A delivery of another version of the position than `u` (R67). -/
def PageRef.rivals (r : PageRef) (pos : Position) (u : Nat) : Bool := decide (r.key.pos = pos) && decide (r.uid ≠ u)

/-- The first half of a displacement: the current delivery. -/
def displaceCurrent (i : SiteId) (pos : Position) (u : Nat) (d : Device) : Device :=
  match (d.site i).q.current with
  | some c => if c.ref.rivals pos u then cancelCurrent i c .displaced d else d
  | none => d

theorem displace_eq (i : SiteId) (pos : Position) (u : Nat) (d : Device) :
    displace i pos u d = (((displaceCurrent i pos u d).site i).q.queue.filter fun e => e.ref.rivals pos u).foldl
      (fun d e => cancelQueued i e.ref.uid d) (displaceCurrent i pos u d) := rfl

theorem noNewRefs_displace (i : SiteId) (pos : Position) (u : Nat) (d : Device) : d.NoNewRefs (displace i pos u d) := by
  rw [displace_eq]
  refine noNewRefs_trans ?_ (noNewRefs_foldl _ _ (fun d (e : QueueEntry) => noNewRefs_cancelQueued i e.ref.uid d) _)
  unfold displaceCurrent
  split
  case h_2 => exact noNewRefs_refl d
  case h_1 =>
    split
    case isTrue => exact noNewRefs_cancelCurrent i _ _ d
    case isFalse => exact noNewRefs_refl d

/-! ## A displaced position is absent (R67) -/

theorem site_postCancel_ne {i j : SiteId} (h : j ≠ i) (key : PageKey) (n : Nat) (r : CancelReason) (d : Device) :
    (postCancel i key n r d).site j = d.site j := by
  unfold postCancel
  repeat' split
  · rfl
  · exact site_onQueue_ne d h _
  · exact site_raise_ne h _ d

theorem site_cancelCurrent_ne {i j : SiteId} (h : j ≠ i) (c : Delivery) (cause : CancelCause) (d : Device) :
    (cancelCurrent i c cause d).site j = d.site j := by
  unfold cancelCurrent
  simp only
  rw [finalRecord_site, site_onQueue_ne _ h]
  split
  case h_1 => rw [site_postCancel_ne h, markIf_site, site_onWin_ne d h]
  case h_2 => rw [markIf_site, site_onWin_ne d h]

theorem site_cancelQueued_ne {i j : SiteId} (h : j ≠ i) (u : Nat) (d : Device) :
    (cancelQueued i u d).site j = d.site j := by
  rw [cancelQueued, finalRecord_site, site_onQueue_ne d h]

/-- A cancelled current delivery is one no more. -/
theorem cancelCurrent_current (i : SiteId) (c : Delivery) (cause : CancelCause) (d : Device) :
    ((cancelCurrent i c cause d).site i).q.current = none := by
  unfold cancelCurrent
  simp only
  rw [finalRecord_site, site_onQueue_same]

theorem cancelQueued_queue (i : SiteId) (u : Nat) (d : Device) :
    ((cancelQueued i u d).site i).q.queue = (d.site i).q.queue.filter fun e => decide (e.ref.uid ≠ u) := by
  rw [cancelQueued, finalRecord_site, site_onQueue_same]

theorem cancelQueued_current (i : SiteId) (u : Nat) (d : Device) :
    ((cancelQueued i u d).site i).q.current = (d.site i).q.current := by
  rw [cancelQueued, finalRecord_site, site_onQueue_same]

/-- The queued deliveries of a list are cancelled. -/
theorem foldl_cancelQueued_queue (i : SiteId) (l : List QueueEntry) (d : Device) :
    (((l.foldl (fun d e => cancelQueued i e.ref.uid d) d).site i).q.queue =
      (d.site i).q.queue.filter fun x => decide (∀ e ∈ l, x.ref.uid ≠ e.ref.uid)) ∧
    ((l.foldl (fun d e => cancelQueued i e.ref.uid d) d).site i).q.current = (d.site i).q.current := by
  induction l generalizing d with
  | nil => exact ⟨(List.filter_eq_self.2 fun _ _ => decide_eq_true fun _ h => absurd h List.not_mem_nil).symm, rfl⟩
  | cons e l ih =>
    obtain ⟨hq, hc⟩ := ih (cancelQueued i e.ref.uid d)
    rw [List.foldl_cons, hq, hc, cancelQueued_queue, cancelQueued_current, List.filter_filter]
    refine ⟨List.filter_congr fun x _ => ?_, rfl⟩
    simp only [List.mem_cons, forall_eq_or_imp, ← Bool.decide_and]
    exact decide_eq_decide.2 and_comm

/-- The current delivery that a displacement leaves is no rival. -/
theorem displaceCurrent_current {i : SiteId} {pos : Position} {u : Nat} {d : Device} {c : Delivery}
    (h : ((displaceCurrent i pos u d).site i).q.current = some c) : c.ref.rivals pos u = false := by
  unfold displaceCurrent at h
  split at h
  case h_2 hn => rw [hn] at h; cases h
  case h_1 x hx =>
    split at h
    case isTrue => rw [cancelCurrent_current] at h; cases h
    case isFalse hne =>
      rw [hx] at h
      obtain rfl := Option.some.inj h
      simpa using hne

/-- After a displacement the site delivers no other version of the position. -/
theorem displace_refs {i : SiteId} {pos : Position} {u : Nat} {d : Device} {r : PageRef}
    (h : r ∈ ((displace i pos u d).site i).q.refs) : r.rivals pos u = false := by
  rw [displace_eq] at h
  obtain ⟨hq, hc⟩ := foldl_cancelQueued_queue i
    (((displaceCurrent i pos u d).site i).q.queue.filter fun e => e.ref.rivals pos u) (displaceCurrent i pos u d)
  rw [SiteQueue.refs, hq, hc, List.mem_append] at h
  rcases h with h | h
  case inl =>
    obtain ⟨x, hx, rfl⟩ := List.mem_map.1 h
    obtain ⟨hx, hall⟩ := List.mem_filter.1 hx
    refine eq_false_of_ne_true fun hr => ?_
    exact of_decide_eq_true hall x (List.mem_filter.2 ⟨hx, hr⟩) rfl
  case inr =>
    split at h
    case h_1 c hcur => rw [List.mem_singleton.1 h]; exact displaceCurrent_current hcur
    case h_2 => cases h

end Sys2Proof.Machine
end

section
/-!
SUPPORT. Reclaim, repairs, the block builder and the ports keep the laws (chapters 2, 4 and 8).
-/

namespace Sys2Proof.Machine
open Sys2Proof.Laws

/-! ## Which versions may be enqueued -/

theorem settled_of_out {v : PageVersion} (h : v.out = true) : v.state.Settled := by
  unfold PageVersion.out at h
  unfold VersionState.Settled
  cases hs : v.state <;> simp [hs] at h ⊢

theorem settledAt_of_record {d : Device} {u : Nat} {v : PageVersion} (h : d.record u = some v) (hv : v.state.Settled) :
    d.SettledAt u := fun w hw => by
  rw [h] at hw
  exact Option.some.inj hw ▸ hv

/-- A version that is out can be enqueued where its position is absent. -/
theorem mayEnqueue_of_out {d : Device} {i : SiteId} {v : PageVersion} (hd : d.PositionLaw) (hm : v ∈ d.table)
    (hv : v.out = true) (hp : (d.site i).hasPosition v.key.pos = false) : d.MayEnqueue i v.ref :=
  ⟨hd.2.2 v hm, settledAt_of_record (record_of_mem hd.2.1 hm) (settled_of_out hv), hp⟩

/-! ## Reclaim (R24) -/

/-- Fewer records and retained versions. -/
theorem laws_filterTable (d : Device) (keep : Nat → Bool) :
    d.KeepsLaws { d with table := d.table.filter fun v => keep v.uid, retained := d.retained.filter keep } := by
  have hu : (d.table.map PageVersion.uid).Nodup → ((d.table.filter fun v => keep v.uid).map PageVersion.uid).Nodup :=
    fun h => (List.filter_sublist.map _).nodup h
  have hb : (∀ v ∈ d.table, v.uid < d.serial) → ∀ v ∈ d.table.filter fun v => keep v.uid, v.uid < d.serial :=
    fun h v hv => h v ((List.mem_filter.1 hv).1)
  have hrec : ∀ u v, (d.table.filter fun v => keep v.uid).find? (fun v => decide (v.uid = u)) = some v →
      d.record u = some v := fun u v h => by
    have hk : keep u = true := by
      obtain rfl : v.uid = u := by simpa using List.find?_some h
      exact (List.mem_filter.1 (List.mem_of_find?_eq_some h)).2
    rw [List.find?_filter] at h
    refine Eq.trans (congrArg (List.find? · _) (funext fun w => ?_)) h
    by_cases hw : w.uid = u
    · simp [hw, hk]
    · simp [hw]
  refine ⟨⟨id, id, rfl, rfl, id, fun ⟨hl, hn⟩ => ⟨Nat.le_trans (List.length_filter_le _ _) hl, hn.filter _⟩, id, id, id,
    fun ⟨hn, hd, ha⟩ => ⟨hu hn, hb hd, fun v hv => ha v ((List.mem_filter.1 hv).1)⟩, Nat.le_refl _,
    fun ⟨hn, hd⟩ => ⟨hu hn, hb hd⟩, fun _ u _ h v hv => h v (hrec u v hv)⟩, fun ⟨hc, hn, hd⟩ => ⟨?_, hu hn, hb hd⟩,
    fun ⟨hs, hn, hd⟩ => ⟨fun i => ⟨(hs i).1, fun r hr => ⟨((hs i).2 r hr).1, fun v hv =>
      ((hs i).2 r hr).2 v ((List.mem_filter.1 hv).1)⟩⟩, hu hn, hb hd⟩⟩
  exact ((sublist_flatMap List.filter_sublist _).append (List.Sublist.refl _)).nodup hc

theorem laws_removeVersion (v : PageVersion) (c : ReclaimCause) (d : Device) : d.KeepsLaws (removeVersion v c d) :=
  laws_after (laws_event _ _) (laws_filterTable d fun u => decide (u ≠ v.uid))

theorem laws_reclaimForArea (n : Fin 8) (u : Nat) (d : Device) : d.KeepsLaws (reclaimForArea n u d) := by
  unfold reclaimForArea
  split
  case h_1 => exact laws_removeVersion _ _ d
  case h_2 => exact laws_refl d

theorem laws_allocate (n : Fin 8) (u : Nat) (d : Device) : d.KeepsLaws (allocate n u d).1 := by
  unfold allocate
  split
  case h_1 => exact laws_refl d
  case h_2 => exact laws_reclaimForArea n u d

theorem firstCell_some {test : Nat → Bool} {n c a : Nat} (h : firstCell test a n = some c) : test c = true := by
  induction n generalizing a with
  | zero => cases h
  | succ n ih =>
    unfold firstCell at h
    split at h
    case isTrue ht => exact Option.some.inj h ▸ ht
    case isFalse => exact ih h

/-- The cell an allocation answers is neither recorded nor held (R31, R39). -/
theorem allocate_free {n : Fin 8} {u : Nat} {d e : Device} {c : Nat} (h : allocate n u d = (e, some c)) :
    e.cellRecorded c = false ∧ e.cellHeld c = false := by
  have hfree : ∃ a : Area, e.cellFree a c = true := by
    unfold allocate at h
    split at h
    case h_1 x hx =>
      obtain ⟨rfl, hc⟩ := Prod.mk.inj h
      exact ⟨_, firstCell_some (hx.trans hc)⟩
    case h_2 =>
      obtain ⟨rfl, hc⟩ := Prod.mk.inj h
      exact ⟨_, firstCell_some hc⟩
  obtain ⟨a, ha⟩ := hfree
  simp only [Device.cellFree, Bool.and_eq_true, Bool.not_eq_true'] at ha
  exact ⟨ha.1.2, ha.2⟩

/-! ## Repairs (R47, R48) -/

theorem laws_refuseWrite (w : BandWrite) (d : Device) : d.KeepsLaws (refuseWrite w d) := by
  unfold refuseWrite
  repeat' split
  · exact laws_event d _
  · exact laws_refl d
  · exact laws_event d _

/-- One site's part of the repair re-queue. -/
def requeueAt (u : Nat) (p : Device × Nat) (i : SiteId) : Device × Nat :=
  match p.1.record u with
  | some v => if v.faulty = 0 ∧ requeues p.1 v i then (enqueue i v.ref .replate v.seps p.1, p.2 + 1) else p
  | none => p

theorem repairRequeue_eq (u : Nat) (d : Device) : repairRequeue u d = allSites.foldl (requeueAt u) (d, 0) := rfl

theorem laws_requeueAt {d : Device} {u : Nat} {p : Device × Nat} (i : SiteId) (h : d.KeepsLaws p.1)
    (hu : d.PositionLaw → u < d.serial ∧ d.SettledAt u) : d.KeepsLaws (requeueAt u p i).1 := by
  unfold requeueAt
  split
  case h_2 => exact h
  case h_1 v hv =>
    obtain ⟨hvu, hvm⟩ := record_some hv
    split
    case isFalse => exact h
    case isTrue hr =>
      have hpos := hr.2
      simp only [requeues, Bool.and_eq_true, Bool.not_eq_true'] at hpos
      refine laws_enqueue h fun hd => ⟨(h.position hd).2.2 v hvm, ?_, hpos.2⟩
      exact (congrArg p.1.SettledAt hvu.symm).mp (h.settled hd.2 u (hu hd).1 (hu hd).2)

theorem laws_repairRequeue {d e : Device} {u : Nat} (h : d.KeepsLaws e)
    (hu : d.PositionLaw → u < d.serial ∧ d.SettledAt u) : d.KeepsLaws (repairRequeue u e).1 := by
  rw [repairRequeue_eq]
  suffices hfold : ∀ (l : List SiteId) (p : Device × Nat), d.KeepsLaws p.1 → d.KeepsLaws (l.foldl (requeueAt u) p).1
    from
    hfold allSites (e, 0) h
  intro l
  induction l with
  | nil => exact fun p hp => hp
  | cons i l ih => exact fun p hp => ih _ (laws_requeueAt i hp hu)

/-- A repair is recorded: the entry takes the cell its buffer held (R48). -/
theorem laws_recordRepair {d : Device} {b : Fin 4} {w : BandWrite} {u : Nat}
    (hb : entryOf d.feed.buffers b = .writing w) :
    d.KeepsLaws (((storePayload w.cell w.payload d).onBuffer b .free).onRecord u fun v =>
      v.withEntry w.sep w.band { cell := w.cell, crc := w.crc, fault := false }) :=
  laws_trans (laws_storePayload w.cell w.payload d) (laws_recordWrite (d := storePayload w.cell w.payload d) hb
    (fun _ => rfl) fun v _ => ⟨withEntry_cells v w.sep w.band _, id, id⟩)

theorem laws_finishRepair {d : Device} {b : Fin 4} {w : BandWrite} (hb : entryOf d.feed.buffers b = .writing w) :
    d.KeepsLaws (finishRepair b w d) := by
  have hfree : d.KeepsLaws ((storePayload w.cell w.payload d).onBuffer b .free) :=
    laws_trans (laws_storePayload w.cell w.payload d) (laws_freeBuffer _ b)
  unfold finishRepair
  simp only
  split
  case h_2 => exact laws_trans hfree (laws_refuseWrite w _)
  case h_1 v hv =>
    obtain ⟨hvu, hvm⟩ := record_some hv
    split
    case isFalse => exact laws_trans hfree (laws_refuseWrite w _)
    case isTrue hout =>
      refine laws_trans (laws_repairRequeue (laws_recordRepair hb) fun hd => ⟨hd.2.2 v hvm, ?_⟩) (laws_event _ _)
      exact settledAt_of_record (hvu ▸ hv) (settled_of_out hout)

theorem laws_finishEnded (d : Device) : d.KeepsLaws (finishEnded d) := by
  refine laws_foldl _ _ (fun d b => ?_) d
  split
  case h_2 => exact laws_refl d
  case h_1 w hw =>
    split
    case isTrue => exact laws_finishRepair hw
    case isFalse => exact laws_refl d

/-! ## The block builder (R93, R95 to R98) -/

theorem pageEndPayload_length (c : Delivery) (v : PageVersion) (n : Nat) : (pageEndPayload c v n).length = 15 := by
  unfold pageEndPayload approvedAtBytes
  cases v.approval.bind (·.approvedAt) <;> simp [halfN, wordN, halfBytes, wordBytes]

theorem laws_storeErrorAt (i : SiteId) (j : PlateJob) (d : Device) : d.KeepsLaws (storeErrorAt i j d) := by
  unfold storeErrorAt
  simp only
  repeat' split
  case h_1.isTrue => exact laws_trans (laws_raise i _ d) (laws_cancelCurrent i _ _ _)
  all_goals exact laws_raise i _ d

/-- A preparation begins for a site with room for it (R91, R93). -/
theorem laws_startPreparation {d : Device} {b : Builder} {p : Preparation} (hb : b.inFlight = some p)
    (hroom : d.WindowLaw → (d.site p.site).win.HasRoom)
    (hsize : ∀ id ref ident payload, p.job = .pageEnd id ref ident payload → payload.length ≤ 32768) :
    d.KeepsLaws { d with builder := b } := by
  refine ⟨⟨id, id, rfl, rfl, id, id, id, fun hd => ?credit, fun hd => ?window, id, Nat.le_refl _, id, fun _ _ _ h =>
    h⟩, id, id⟩
  case credit =>
    refine (creditLaw_iff _).2 ⟨((creditLaw_iff d).1 hd).1, fun q hq id ref ident payload hj => ?_⟩
    obtain rfl : p = q := by simpa [hb] using hq
    exact hsize id ref ident payload hj
  case window =>
    refine (windowLaw_iff _).2 ⟨((windowLaw_iff d).1 hd).1, fun q hq => ?_⟩
    obtain rfl : p = q := by simpa [hb] using hq
    exact hroom hd.1

/-- What a site that requests preparation has (R91). -/
theorem requests_room {d : Device} {i : SiteId} (h : d.requests i = true) : (d.site i).win.HasRoom := by
  simp only [Device.requests, Bool.and_eq_true, decide_eq_true_eq, Option.isNone_iff_eq_none] at h
  obtain ⟨⟨⟨⟨⟨-, hc⟩, hp⟩, -⟩, -⟩, -⟩ := h
  refine ⟨hp, ?_⟩
  simpa [Window.count, hp, Config.windowCapacity] using hc

theorem nextJob_pageEnd {d : Device} {i : SiteId} {id : Nat} {ref : PageRef} {ident : Ident} {payload : List Byte}
    (h : d.nextJob i = some (.pageEnd id ref ident payload)) : payload.length ≤ 32768 := by
  unfold Device.nextJob at h
  simp only at h
  repeat' split at h
  case h_2.isFalse =>
    simp only [Option.some.injEq, Job.pageEnd.injEq] at h
    rw [← h.2.2.2, pageEndPayload_length]
    decide
  all_goals simp_all

theorem laws_grant {d : Device} {i : SiteId} {k : Fin 16} {job : Job} (hr : d.requests i = true)
    (hj : d.nextJob i = some job) : d.KeepsLaws (grant i k job d) := by
  have hroom := requests_room hr
  have hcount := laws_counters d d.orderCounter d.retainedCount (d.free + 1)
  have hidle : d.KeepsLaws { d with builder := { d.builder with last := i }, free := d.free + 1 } :=
    laws_trans hcount (laws_builder { d with free := d.free + 1 } fun p hp => ⟨p, hp, rfl, rfl⟩)
  have hstart : d.KeepsLaws { d with
      builder := { inFlight := some { site := i, slot := k, job := job, discard := false }, last := i }
      free := d.free + 1 } :=
    laws_trans hcount (laws_startPreparation (d := { d with free := d.free + 1 }) rfl (fun _ => hroom)
      fun _ _ _ _ he => nextJob_pageEnd (hj.trans (congrArg _ he)))
  unfold grant
  simp only
  repeat' split
  · exact laws_trans hidle (laws_storeErrorAt i _ _)
  · exact hstart
  · exact hstart

theorem laws_grantRounds (n : Nat) (d : Device) : d.KeepsLaws (grantRounds n d) := by
  induction n generalizing d with
  | zero => exact laws_refl d
  | succ n ih =>
    unfold grantRounds
    split
    case h_1 => exact laws_refl d
    case h_2 =>
      split
      case h_1 => exact laws_refl d
      case h_2 i hi =>
        split
        case h_2 => exact laws_refl d
        case h_1 hslot hjob => exact laws_trans (laws_grant (List.find?_some hi) hjob) (ih _)

theorem laws_askBuilder (d : Device) : d.KeepsLaws (askBuilder d) := laws_grantRounds 9 d

/-- The block a preparation leaves (R95, R96). -/
def builtBlock (slot : Fin 16) (kind : BlockKind) (delivery : Option Nat) (ident : Ident)
    (target : Option (Stock × Byte)) (payload : List Byte) : Block :=
  { kind := kind, slot := some slot, delivery := delivery, ident := { ident with crc := crc32 payload },
    target := target, size := Config.headerBytes + payload.length }

/-- A site with a block prepared. -/
def Site.prepare (b : Block) (st : Site) : Site := { st with win := { st.win with prepared := some b } }

theorem leavePrepared_eq (i : SiteId) (slot : Fin 16) (kind : BlockKind) (delivery : Option Nat) (ident : Ident)
    (target : Option (Stock × Byte)) (payload : List Byte) (d : Device) :
    leavePrepared i slot kind delivery ident target payload d =
      (storePayload (slotCell i slot) payload d).onSite i
        (Site.prepare (builtBlock slot kind delivery ident target payload)) :=
  rfl

/-- A block prepared for the site of the preparation in flight, which ends: there was none and
room for it (R95, R96). -/
theorem laws_prepare {d : Device} {p : Preparation} {b : Block} (hp : d.builder.inFlight = some p)
    (hb : d.CreditLaw → b.size ≤ 32800) : d.KeepsLaws (d.builderIdle.onSite p.site (Site.prepare b)) := by
  have hrel := fun R hrefl => site_onSite_rel (d := d.builderIdle) (i := p.site) (f := Site.prepare b) (R := R) hrefl
  refine ⟨⟨id, fun hd => ?range, rfl, rfl, id, id, fun hd j => ?control, fun hd => ?credit, fun hd => ?window, id,
    Nat.le_refl _, id, fun _ _ _ h => h⟩, id, positionLaw_onSite (d := d.builderIdle) (within_refl _)⟩
  case range =>
    obtain ⟨hs, hc, hb, hp⟩ := (rangeLaw_iff d).1 hd
    exact (rangeLaw_iff _).2 ⟨fun j => hrel (fun a b => a.InRange → b.InRange) (fun _ => id) id j (hs j),
      codesDiffer_onSite (d := d.builderIdle) rfl hc, hb, hp⟩
  case control => exact hrel (fun a b => a.ControlLaw → b.ControlLaw) (fun _ => id) id j (hd j)
  case credit =>
    obtain ⟨hs, -⟩ := (creditLaw_iff d).1 hd
    refine (creditLaw_iff _).2 ⟨fun j => ?_, fun q hq => by cases hq⟩
    refine hrel (fun a b => a.win.Sized ∧ a.CreditLaw → b.win.Sized ∧ b.CreditLaw) (fun _ => id) (fun ⟨ha, hc⟩ => ?_)
      j (hs j)
    refine ⟨⟨ha.1, fun x hx => ?_⟩, hc⟩
    obtain rfl : b = x := Option.some.inj hx
    exact hb hd
  case window =>
    obtain ⟨hs, hroom⟩ := (windowLaw_iff d).1 hd
    refine (windowLaw_iff _).2 ⟨fun j => ?_, fun q hq => by cases hq⟩
    by_cases hj : j = p.site
    case neg => rw [site_onSite_ne _ hj]; exact hs j
    case pos =>
      subst hj
      rw [site_onSite_same]
      refine ⟨⟨?_, (hs p.site).1.2⟩, (hs p.site).2⟩
      have hlt := (hroom p hp).2
      exact Nat.succ_le_of_lt hlt

/-- What the preparation in flight leaves, its payload in the resend region. -/
theorem laws_leavePrepared {d : Device} {p : Preparation} {kind : BlockKind} {dv : Option Nat} {ident : Ident}
    {tgt : Option (Stock × Byte)} {payload : List Byte} (hp : d.builder.inFlight = some p)
    (hsize : d.CreditLaw → payload.length ≤ 32768) :
    d.KeepsLaws (leavePrepared p.site p.slot kind dv ident tgt payload d.builderIdle) :=
  laws_trans (laws_storePayload (slotCell p.site p.slot) payload d)
    (laws_prepare (d := storePayload (slotCell p.site p.slot) payload d)
      (b := builtBlock p.slot kind dv ident tgt payload) hp
      fun hd => by
        have hle := hsize hd
        simp only [builtBlock, Config.headerBytes]
        omega)

theorem takeRuns_length (m : Memory) (n a pixels : Nat) : (takeRuns m n a pixels).length ≤ n := by
  induction n generalizing a pixels with
  | zero => exact Nat.le_refl 0
  | succ n ih =>
    unfold takeRuns
    split
    · exact Nat.zero_le _
    · exact Nat.succ_le_succ (ih _ _)

/-- A compensated payload is no longer than a cell (R29, R95). -/
theorem platePayload_length (j : PlateJob) (m : Memory) : (j.payload m).length ≤ 32768 := by
  have h : (takeRuns m maxRuns (cellAddr j.cell) j.pixels).length ≤ 16384 := takeRuns_length m _ _ _
  unfold PlateJob.payload
  rw [List.length_flatMap]
  simp only [List.length_cons, List.length_nil, List.map_const', List.sum_replicate_nat]
  omega

theorem controlPayload_length (e : ControlEntry) : e.payload.length ≤ 32768 := by
  cases e with
  | target stock gen aims =>
    simp only [ControlEntry.payload, targetPayload, halfN, halfBytes, List.length_flatMap, List.length_append,
      List.length_cons, List.length_nil, List.length_map, Vector.length_toList, List.map_const', List.sum_replicate_nat]
    omega
  | cancel key version reason => simp [ControlEntry.payload, cancelPayload, posBytes]
  | notAvail pos reason => simp [ControlEntry.payload, notAvailPayload, posBytes]

theorem laws_tailControl (d : Device) (i : SiteId) :
    d.KeepsLaws (d.onQueue i fun q => { q with control := q.control.tail }) := by
  refine laws_withControl (d.site i).q.control.tail (d.site i).tgt.records rfl fun ⟨hl, hk⟩ => ⟨?_, fun k => ?_⟩
  · simp only [Site.withControl, List.length_tail]; omega
  · obtain ⟨hone, howed⟩ := hk k
    have hsub := List.tail_sublist (d.site i).q.control
    refine ⟨Nat.le_trans (hsub.filter _).length_le hone, fun h => ?_⟩
    rw [List.any_eq_false]
    exact fun x hx => List.any_eq_false.1 (howed h) x (hsub.subset hx)

section
variable {d : Device} {p : Preparation}

theorem laws_completePlate (hp : d.builder.inFlight = some p) (j : PlateJob) :
    d.KeepsLaws (completePlate p.site p.slot j d.builderIdle) := by
  have hleft := laws_leavePrepared (kind := .plate) (dv := some j.delivery) (ident := j.ident) (tgt := none) hp
    fun _ => platePayload_length j d.builderIdle.store
  have hcurrent := fun n => laws_mapCurrent (f := fun c => c.plateDone n j (crc32 (j.payload d.builderIdle.store)))
    (leavePrepared p.site p.slot .plate (some j.delivery) j.ident none (j.payload d.builderIdle.store) d.builderIdle)
    p.site fun _ => rfl
  unfold completePlate
  simp only
  refine laws_trans (laws_trans hleft (hcurrent _)) (laws_onTone fun hr => ?_)
  exact ⟨Nat.min_le_right _ _, hr.2.1⟩

theorem laws_completePageEnd (hp : d.builder.inFlight = some p) {id : Nat} {ref : PageRef} {ident : Ident}
    {payload : List Byte} (hj : p.job = .pageEnd id ref ident payload) :
    d.KeepsLaws (completePageEnd p.site p.slot id ident payload d.builderIdle) :=
  laws_trans (laws_leavePrepared hp fun hd => hd.1.2 p hp id ref ident payload hj)
    (laws_mapCurrent _ p.site fun _ => rfl)

theorem laws_completeControl (hp : d.builder.inFlight = some p) (e : ControlEntry) :
    d.KeepsLaws (completeControl p.site p.slot e d.builderIdle) := by
  have hleft := laws_leavePrepared (kind := e.kind) (dv := none) (ident := e.ident) (tgt := e.target?) hp
    fun _ => controlPayload_length e
  unfold completeControl
  simp only
  exact laws_after (laws_lookPageStart _ _)
    (laws_after (laws_postOwed _ _) (laws_trans hleft (laws_tailControl _ p.site)))

theorem laws_completePreparation (hp : d.builder.inFlight = some p) : d.KeepsLaws (completePreparation p d) := by
  unfold completePreparation
  simp only
  split
  case isTrue => exact laws_builderIdle d
  case isFalse =>
    split
    case h_1 j _ => exact laws_completePlate hp j
    case h_2 hj => exact laws_completePageEnd hp hj
    case h_3 e _ => exact laws_completeControl hp e
end

theorem laws_failRead (p : Preparation) (j : PlateJob) (d : Device) : d.KeepsLaws (failRead p j d) := by
  have hmark : d.builderIdle.KeepsLaws (markFault j d.builderIdle) := by
    refine laws_onRecord (fun v => ?_) fun _ v hv => ?_
    · repeat' split
      all_goals rfl
    · split
      case h_2 => exact recordLaws_refl v
      case h_1 e he =>
        split
        case isTrue => exact ⟨withEntry_same_cells he rfl, id, id⟩
        case isFalse => exact recordLaws_refl v
  unfold failRead
  simp only
  split
  case isTrue => exact laws_trans (laws_builderIdle d) hmark
  case isFalse => exact laws_trans (laws_trans (laws_builderIdle d) hmark) (laws_storeErrorAt _ _ _)

end Sys2Proof.Machine
end

section
/-!
SUPPORT. The ports and their pacing keep the laws (chapter 8): a transmission's beginning and end, and the period ends.
-/

namespace Sys2Proof.Machine
open Sys2Proof.Laws

/-! ## The beginning of a transmission (R169, R176) -/

/-- A site at the end of a gauge window, once its reference count is 64 (R176). -/
def Site.gaugeEnded (st : Site) : Site :=
  if 64 ≤ st.pace.refCount then
    { st with pace := { st.pace with
        level := levelAfter st.pace.level st.pace.resendCount st.cfg.highMark st.cfg.lowMark, refCount := 0,
        resendCount := 0 } }
  else st

/-- A site once the offer `o` is taken, the credit charged with the rank's size and the gauge counted
(R139, R166, R176). -/
def Site.charged (o : Offer) (r : Rank) (st : Site) : Site :=
  { st with
    win := st.win.taken o
    pace := { st.pace with credit := st.pace.credit - (r.block.size : Int) }.counted o }

theorem levelAfter_le {level resends high low : Nat} (h : level ≤ 3) : levelAfter level resends high low ≤ 3 := by
  unfold levelAfter
  split
  · exact Nat.min_le_right _ _
  · split <;> omega

theorem gaugeEnded_keeps (st : Site) : st.gaugeEnded.cfg = st.cfg ∧ st.gaugeEnded.tone = st.tone ∧
    st.gaugeEnded.tgt = st.tgt ∧ st.gaugeEnded.q = st.q ∧ st.gaugeEnded.win = st.win ∧
    st.gaugeEnded.halt = st.halt := by
  unfold Site.gaugeEnded
  split <;> exact ⟨rfl, rfl, rfl, rfl, rfl, rfl⟩

theorem gaugeEnded_pace (st : Site) : st.gaugeEnded.pace.active = st.pace.active ∧
    st.gaugeEnded.pace.staged = st.pace.staged ∧ st.gaugeEnded.pace.eCur = st.pace.eCur ∧
    st.gaugeEnded.pace.credit = st.pace.credit ∧ st.gaugeEnded.pace.ready = st.pace.ready ∧
    st.gaugeEnded.pace.gap = st.pace.gap := by
  unfold Site.gaugeEnded
  split <;> exact ⟨rfl, rfl, rfl, rfl, rfl, rfl⟩

theorem gaugeEnded_counts {st : Site} (hr : st.pace.refCount ≤ 64) (hs : st.pace.resendCount ≤ 65535)
    (hl : st.pace.level ≤ 3) : st.gaugeEnded.pace.refCount < 64 ∧ st.gaugeEnded.pace.resendCount ≤ 65535 ∧
      st.gaugeEnded.pace.level ≤ 3 := by
  unfold Site.gaugeEnded
  split
  case isTrue => exact ⟨by simp, by simp, levelAfter_le hl⟩
  case isFalse h => exact ⟨by omega, hs, hl⟩

theorem counted_keeps (p : Pacer) (o : Offer) : (p.counted o).active = p.active ∧ (p.counted o).staged = p.staged ∧
    (p.counted o).eCur = p.eCur ∧ (p.counted o).credit = p.credit ∧ (p.counted o).level = p.level ∧
    (p.counted o).refCount ≤ p.refCount + 1 ∧ (p.resendCount ≤ 65535 → (p.counted o).resendCount ≤ 65535) := by
  cases o with
  | resend k => exact ⟨rfl, rfl, rfl, rfl, rfl, Nat.le_succ _, fun _ => Nat.min_le_right _ _⟩
  | fresh b =>
    unfold Pacer.counted
    simp only
    split
    · exact ⟨rfl, rfl, rfl, rfl, rfl, Nat.le_refl _, id⟩
    · exact ⟨rfl, rfl, rfl, rfl, rfl, Nat.le_succ _, id⟩

/-- A rank that a window offers is no larger than its blocks. -/
theorem offered_size {w : Window} {o : Offer} {r : Rank} (ho : w.offer = some o) (hr : w.offered o = some r)
    (hs : w.Sized) : r.block.size ≤ 32800 := by
  cases o with
  | resend k =>
    obtain ⟨x, hx, rfl⟩ := Option.map_eq_some_iff.1 hr
    exact hs.1 x (List.mem_of_getElem? hx)
  | fresh b =>
    have hb : w.prepared = some b := by
      unfold Window.offer at ho
      repeat' split at ho
      all_goals simp_all
    obtain rfl := Option.some.inj hr
    exact hs.2 b hb

theorem taken_links (w : Window) (o : Offer) : (w.taken o).link = w.link ∧ (w.taken o).ackTimer = w.ackTimer ∧
    (w.taken o).probeTimer = w.probeTimer ∧ (w.taken o).retry = w.retry := by
  cases o <;> exact ⟨rfl, rfl, rfl, rfl⟩

/-- A transmission begins at a site with credit: the credit stays above -32 800 (R165, R166). -/
theorem siteLaws_charged {st : Site} {o : Offer} {r : Rank} (ho : st.win.offer = some o)
    (hr : st.win.offered o = some r)
    (hc : 0 < st.pace.credit) : st.KeepsLaws (st.charged o r).gaugeEnded := by
  obtain ⟨hcfg, htone, htgt, hq, hwin, hhalt⟩ := gaugeEnded_keeps (st.charged o r)
  obtain ⟨hactive, hstaged, hecur, hcredit, -, -⟩ := gaugeEnded_pace (st.charged o r)
  obtain ⟨pactive, pstaged, pecur, pcredit, plevel, pref, presend⟩ :=
    counted_keeps { st.pace with credit := st.pace.credit - (r.block.size : Int) } o
  have htaken := ranks_taken ho
  obtain ⟨hlink, hack, hprobe, hretry⟩ := taken_links st.win o
  refine ⟨⟨fun ⟨hset, hcurves, hclamp, hret, href, hres, hlev, hoff⟩ => ?range, ?control, fun hs hk => ?credit, ?window,
    ?link⟩, by rw [hcfg]; rfl, ?room, by rw [hq]; exact within_refl _⟩
  case range =>
    have hcounts : (st.charged o r).pace.refCount ≤ 64 ∧ (st.charged o r).pace.resendCount ≤ 65535 ∧
        (st.charged o r).pace.level ≤ 3 :=
      ⟨Nat.le_trans pref (Nat.succ_le_of_lt href), presend hres, plevel ▸ hlev⟩
    obtain ⟨h1, h2, h3⟩ := gaugeEnded_counts hcounts.1 hcounts.2.1 hcounts.2.2
    refine
      ⟨by rw [hcfg]; exact hset, fun s => by rw [htone]; exact hcurves s, by rw [htone]; exact hclamp, ?_, h1, h2, h3,
      by rw [htgt]; exact hoff⟩
    rw [hwin]
    exact hretry.symm ▸ hret
  case control =>
    unfold Site.ControlLaw Site.target
    rw [hq, htgt]
    exact id
  case credit =>
    have hsize := offered_size ho hr hs
    refine ⟨hwin ▸ htaken.sized hs, ?_⟩
    obtain ⟨⟨hlow, hhigh⟩, he, ha, hst⟩ := hk
    simp only [Site.charged] at hactive hstaged hecur hcredit
    unfold Site.CreditLaw
    simp only [Site.charged, hactive, hstaged, hecur, hcredit, pactive, pstaged, pecur, pcredit]
    exact ⟨⟨by omega, by omega⟩, he, ha, hst⟩
  case window => rw [hwin]; exact htaken.law
  case link =>
    unfold Site.LinkLaw
    rw [hwin, hhalt]
    simp only [Site.charged, hlink, hack, hprobe]
    exact id
  case room => rw [hwin]; exact htaken.room

/-- A gauge window's end says its level only where it changes (R176). -/
def Site.degraded (st : Site) : Bool := decide (64 ≤ st.pace.refCount) &&
  decide (levelAfter st.pace.level st.pace.resendCount st.cfg.highMark st.cfg.lowMark ≠ st.pace.level)

theorem modifyAt_congr {α : Type} {n : Nat} (t : Vector α n) (i : Fin n) {f g : α → α}
    (h : f (entryOf t i) = g (entryOf t i)) :
    modifyAt t i f = modifyAt t i g := by
  unfold entryOf at h
  unfold modifyAt
  rw [h]

theorem onSite_congr {d : Device} {i : SiteId} {f g : Site → Site} (h : f (d.site i) = g (d.site i)) :
    d.onSite i f = d.onSite i g := by
  unfold Device.onSite
  rw [modifyAt_congr d.sites i h]

theorem modifyAt_same {α : Type} {n : Nat} (t : Vector α n) (i : Fin n) {f : α → α}
    (h : f (entryOf t i) = entryOf t i) :
    modifyAt t i f = t := by
  refine table_ext fun j => ?_
  rw [entryOf_modifyAt]
  split
  case isTrue hj => rw [h, hj]
  case isFalse => rfl

theorem onSite_self {d : Device} {i : SiteId} {f : Site → Site} (h : f (d.site i) = d.site i) : d.onSite i f = d := by
  unfold Device.onSite
  rw [modifyAt_same d.sites i h]

theorem gaugeEnd_eq (i : SiteId) (d : Device) : gaugeEnd i d =
    (d.onSite i Site.gaugeEnded).eventIf (d.site i).degraded (.degradeChanged i (d.site i).pace.level
      (levelAfter (d.site i).pace.level (d.site i).pace.resendCount (d.site i).cfg.highMark (d.site i).cfg.lowMark)
      (d.site i).pace.resendCount) := by
  unfold gaugeEnd
  simp only
  split
  case isFalse h => rw [onSite_self (by simp only [Site.gaugeEnded, if_neg h])]; simp [Site.degraded, h, Device.eventIf]
  case isTrue h =>
    unfold Device.onPace
    rw [onSite_congr (g := Site.gaugeEnded) (by simp only [Site.gaugeEnded, if_pos h])]
    split
    case isTrue he => simp only [Site.degraded, he, Device.eventIf]; simp; rfl
    case isFalse he => simp [Site.degraded, h, he, Device.eventIf, Device.event]

theorem laws_sendRank (p : PortId) (i : SiteId) (r : Rank) (d : Device) : d.KeepsLaws (sendRank p i r d) := by
  unfold sendRank
  simp only
  split
  case h_1 => exact laws_onPort d p id
  case h_2 =>
    exact laws_trans (laws_trans (laws_counters d d.orderCounter d.retainedCount (d.free + 1)) (laws_eventIf _ _ _))
      (laws_onPort _ p id)

theorem laws_ackAtStart (i : SiteId) (w : Window) (o : Offer) (d : Device) : d.KeepsLaws (ackAtStart i w o d) := by
  cases o with
  | fresh b =>
    unfold ackAtStart
    simp only
    split
    · exact laws_startAck i d
    · exact laws_refl d
  | resend k =>
    unfold ackAtStart
    simp only
    split
    · exact laws_startAck i d
    · exact laws_refl d

theorem laws_beginTransmission {p : PortId} {i : SiteId} {o : Offer} {d : Device} (ho : (d.site i).win.offer = some o)
    (hc : 0 < (d.site i).pace.credit) : d.KeepsLaws (beginTransmission p i o d) := by
  unfold beginTransmission
  simp only
  split
  case h_1 => exact laws_refl d
  case h_2 r hr =>
    have hsite : ((d.onWin i fun w => w.taken o).onPace i fun pc =>
      { pc with credit := pc.credit - (r.block.size : Int) }).onPace
        i (fun pc => pc.counted o) = d.onSite i (Site.charged o r) := by
      unfold Device.onPace Device.onWin
      rw [onSite_onSite, onSite_onSite]
      rfl
    have hsent : d.KeepsLaws ((d.onSite i (Site.charged o r)).onSite i Site.gaugeEnded) := by
      rw [onSite_onSite]
      exact laws_onSite (siteLaws_charged ho hr hc)
    rw [hsite, gaugeEnd_eq]
    exact laws_after (laws_sendRank p i r _)
      (laws_after (laws_ackAtStart i _ o _) (laws_trans hsent (laws_eventIf _ _ _)))

/-! ## The arbiters (R168) -/

theorem eligible_credit {d : Device} {i : SiteId} (h : d.eligible i = true) : 0 < (d.site i).pace.credit := by
  simp only [Device.eligible, Bool.and_eq_true, decide_eq_true_eq] at h
  exact h.1.2

theorem laws_askPort (p : PortId) (d : Device) : d.KeepsLaws (askPort p d) := by
  unfold askPort
  split
  case h_1 => exact laws_refl d
  case h_2 =>
    split
    case h_1 => exact laws_refl d
    case h_2 i hi =>
      have he := List.find?_some hi
      rw [Bool.and_eq_true] at he
      split
      case h_1 o ho => exact laws_beginTransmission ho (eligible_credit he.2)
      case h_2 => exact laws_refl d

theorem laws_arbitrate (d : Device) : d.KeepsLaws (arbitrate d) :=
  laws_trans (laws_trans (laws_askBuilder d) (laws_forPorts laws_askPort _)) (laws_askBuilder _)

/-! ## Period ends (R161, R164, R165) -/

theorem effective_le (a level : Nat) : effective a level ≤ a := by
  unfold effective
  exact Nat.max_le.2 ⟨Nat.div_le_self _ _, Nat.min_le_left _ _⟩

/-- A refill leaves the credit no more than the new effective allotment, which is no more than the active one. -/
theorem siteLaws_refill (st : Site) : st.KeepsLaws (refill st) := by
  refine ⟨⟨id, id, fun hs hc => ⟨hs, ?_⟩, id, id⟩, rfl, id, within_refl _⟩
  obtain ⟨⟨hlow, hhigh⟩, he, ha, hst⟩ := hc
  have hactive : st.pace.staged.getD st.pace.active ≤ 1048575 := by
    cases hstaged : st.pace.staged with
    | none => simpa [hstaged] using ha
    | some a => exact hst a hstaged
  have hcredit : -32800 < (refill st).pace.credit ∧ (refill st).pace.credit ≤ ((refill st).pace.eCur : Int) := by
    simp only [refill]
    split <;> omega
  exact ⟨hcredit, effective_le _ _, hactive, fun _ h => (by cases h)⟩

theorem laws_endPeriod (p : PortId) (d : Device) : d.KeepsLaws (endPeriod p d) := by
  refine laws_trans (laws_onPort d p fun ⟨ha, hs, hr, hle⟩ => ?_) (laws_forSites (fun i d => laws_onSite ?_) _)
  · have hstaged : 1 ≤ (d.port p).staged.getD (d.port p).active ∧ (d.port p).staged.getD (d.port p).active ≤ 1000 := by
      cases hst : (d.port p).staged with
      | none => simpa [hst] using ha
      | some n => exact hs n hst
    exact ⟨hstaged, fun _ h => (by cases h), hstaged.1, Nat.le_refl _⟩
  · split
    · exact siteLaws_refill _
    · exact siteLaws_refl _

/-! ## The end of a transmission (R156, R170) -/

theorem siteLaws_disabled (st : Site) :
    st.KeepsLaws { st with win := Window.reset, pace := { st.pace with credit := 0 }, halt := none } := by
  have hw : st.win.KeepsRanks Window.reset := ranks_empty _ rfl rfl rfl
  refine ⟨⟨fun ⟨hc, hv, hr⟩ => ⟨hc, hv, hr.1, hw.retry hr.2.1, hr.2.2⟩, id, fun hs hc => ⟨hw.sized hs, ?_⟩, hw.law,
    fun _ => ?_⟩, rfl, hw.room, within_refl _⟩
  · exact ⟨⟨by simp, by simp⟩, hc.2⟩
  · simp [Site.LinkLaw, Window.reset]

theorem laws_becomeDisabled (i : SiteId) (d : Device) : d.KeepsLaws (becomeDisabled i d) :=
  laws_trans (laws_markSite d i) (laws_onSite (siteLaws_disabled _))

theorem startGap_keeps (p : Pacer) (n : Nat) : (p.startGap n).active = p.active ∧ (p.startGap n).staged = p.staged ∧
    (p.startGap n).eCur = p.eCur ∧ (p.startGap n).credit = p.credit ∧ (p.startGap n).level = p.level ∧
    (p.startGap n).refCount = p.refCount ∧ (p.startGap n).resendCount = p.resendCount := by
  unfold Pacer.startGap
  split <;> exact ⟨rfl, rfl, rfl, rfl, rfl, rfl, rfl⟩

theorem laws_endTransmission (p : PortId) (t : Transmission) (d : Device) : d.KeepsLaws (endTransmission p t d) := by
  have hport : d.KeepsLaws (d.onPort p fun x => { x with tx := none }) := laws_onPort d p id
  have hgap : d.KeepsLaws
    (if t.kind = .pageEnd ∧ ((d.onPort p fun x => { x with tx := none }).site t.site).cfg.flow.hasGap
      then (d.onPort p fun x => { x with tx := none }).onSite t.site fun st =>
        { st with pace := st.pace.startGap st.cfg.gapLength }
      else d.onPort p fun x => { x with tx := none }) := by
    split
    case isTrue =>
      exact laws_trans hport (laws_onPace (d := d.onPort p fun x => { x with tx := none }) (i := t.site)
        (f := fun pc => pc.startGap ((d.onPort p fun x => { x with tx := none }).site t.site).cfg.gapLength)
        fun pc => startGap_keeps pc _)
    case isFalse => exact hport
  have hclose : ∀ e : Device, e.KeepsLaws (if (e.site t.site).win.closing then becomeDisabled t.site e else e) :=
    fun e => by
    split
    · exact laws_becomeDisabled _ e
    · exact laws_refl e
  exact laws_trans hgap (hclose _)

end Sys2Proof.Machine
end

section
/-!
SUPPORT. Return frames and releases keep the laws (chapters 3 and 7).
-/

namespace Sys2Proof.Machine
open Sys2Proof.Laws

/-! ## Recovery, ACK and MISS (R141 to R143, R150) -/

theorem laws_recover {i : SiteId} {d : Device} (h : (d.site i).win.link = .linkLost) (c : LinkCause) :
    d.KeepsLaws (recover i c d) := by
  have hwin : d.KeepsLaws (d.onWin i fun w => { w with link := .active, retry := 0, probeTimer := none }) := by
    refine laws_onSite (siteLaws_win (d.site i) (ranks_same rfl rfl rfl fun _ => Nat.zero_le _)
      fun ⟨hh, hr, _, _⟩ => ?_)
    rw [h] at hh
    exact ⟨hh.trans (by simp), hr, by simp, by simp⟩
  exact laws_after (laws_syncTimers i _) (laws_after (laws_event _ _) hwin)

theorem laws_handOn (i : SiteId) (r : Rank) (d : Device) : d.KeepsLaws (handOn i r d) := by
  unfold handOn
  split
  case h_1 => exact laws_applyTarget i _ _ d
  case h_2 => exact laws_endDelivery i _ d
  case h_3 => exact laws_refl d

theorem laws_removeRanks (i : SiteId) (n : Nat) (d : Device) : d.KeepsLaws (removeRanks i n d) := by
  have hdrop : d.KeepsLaws (d.onWin i fun w => { w with ranks := w.ranks.drop n }) :=
    laws_onWin (fun w => ranks_drop w n) fun _ => ⟨rfl, rfl, rfl⟩
  have hretry : ∀ e : Device, e.KeepsLaws (e.onWin i fun w => { w with retry := 0 }) := fun e =>
    laws_onWin (fun w => ranks_same rfl rfl rfl fun _ => Nat.zero_le _) fun _ => ⟨rfl, rfl, rfl⟩
  exact laws_after (laws_startAck i _) (laws_after (hretry _)
    (laws_trans hdrop (laws_foldl _ _ (fun d r => laws_handOn i r d) _)))

theorem laws_takeAck (n : Half) (i : SiteId) (d : Device) : d.KeepsLaws (takeAck n i d) := by
  unfold takeAck
  simp only
  repeat' split
  · exact laws_removeRanks i _ d
  · exact laws_refl d
  · exact laws_raise i _ d

theorem laws_takeMiss (n : Half) (i : SiteId) (d : Device) : d.KeepsLaws (takeMiss n i d) := by
  unfold takeMiss
  simp only
  repeat' split
  · exact laws_onWin (fun w => ranks_modify w _ true) fun _ => ⟨rfl, rfl, rfl⟩
  · exact laws_refl d
  · exact laws_raise i _ d

theorem siteLaws_pace (a : Site) {p : Pacer} (h : p.active = a.pace.active ∧ p.staged = a.pace.staged ∧
    p.eCur = a.pace.eCur ∧ p.credit = a.pace.credit ∧ p.level = a.pace.level ∧ p.refCount = a.pace.refCount ∧
    p.resendCount = a.pace.resendCount) : a.KeepsLaws { a with pace := p } := by
  obtain ⟨h1, h2, h3, h4, h5, h6, h7⟩ := h
  refine ⟨⟨?range, id, fun hs hc => ⟨hs, ?credit⟩, id, id⟩, rfl, id, within_refl _⟩
  case range => unfold Site.InRange Site.RangeLaw; simp only [h5, h6, h7]; exact id
  case credit => unfold Site.CreditLaw at hc ⊢; simp only [h1, h2, h3, h4]; exact hc

theorem laws_setReady (b : Bool) (i : SiteId) (d : Device) : d.KeepsLaws (setReady b i d) := by
  refine laws_onSite ?_
  split
  · exact siteLaws_pace _ ⟨rfl, rfl, rfl, rfl, rfl, rfl, rfl⟩
  · exact siteLaws_refl _

theorem laws_takeFrame {act : SiteId → Device → Device} (h : ∀ (i : SiteId) (d : Device), d.KeepsLaws (act i d))
    (i : SiteId) (d : Device) : d.KeepsLaws (takeFrame act i d) := by
  have htail : ∀ e : Device, e.KeepsLaws (arbitrate (lookPageStart i (syncTimers i (act i e)))) := fun e =>
    laws_after (laws_arbitrate _) (laws_after (laws_lookPageStart i _) (laws_trans (h i e) (laws_syncTimers i _)))
  unfold takeFrame
  simp only
  split
  case isFalse => exact laws_refl d
  case isTrue =>
    refine laws_after (htail _) ?_
    split
    case isTrue hl => exact laws_recover hl _
    case isFalse => exact laws_refl d

theorem laws_takeReturn {act : SiteId → Device → Device} (h : ∀ (i : SiteId) (d : Device), d.KeepsLaws (act i d))
    (kind : Byte) (len : Nat) (p : PortId) (f : ReturnFrame) (d : Device) :
    d.KeepsLaws (takeReturn kind len p f act d) := by
  unfold takeReturn
  repeat' split
  · exact laws_takeFrame h _ d
  · exact laws_refl d
  · exact laws_refl d

/-! ## HELLO (R153 to R155) -/

theorem siteLaws_emptied (st : Site) {l : LinkState} {h : Option HaltRecord} {b : Bool} (hl : st.LinkLaw →
    ({ st with win := { st.win.emptied with link := l }, halt := h } : Site).LinkLaw) :
    st.KeepsLaws
      { st with win := { st.win.emptied with link := l }, pace := { st.pace with ready := b }, halt := h } := by
  have hw : st.win.KeepsRanks { st.win.emptied with link := l } := ranks_empty _ rfl rfl rfl
  exact ⟨⟨fun ⟨hc, hv, hr⟩ => ⟨hc, hv, hr.1, hw.retry hr.2.1, hr.2.2⟩, id, fun hs hc => ⟨hw.sized hs, hc⟩, hw.law, hl⟩,
    rfl, hw.room, within_refl _⟩

theorem laws_helloWaiting {i : SiteId} {d : Device} (h : (d.site i).win.link = .waiting) (b : Bool) :
    d.KeepsLaws (helloWaiting b i d) := by
  refine laws_after (laws_event _ _) (laws_onSite (siteLaws_emptied (d.site i) fun ⟨hh, hr, _, _⟩ => ?_))
  rw [h] at hh
  exact ⟨hh.trans (by simp), hr, by simp [Window.emptied], by simp [Window.emptied]⟩

/-- The site after a restarting HELLO (R154). -/
def Site.restarted (st : Site) : Site :=
  { st with
    win := { st.win.emptied with link := if st.win.link = .halted then LinkState.halted else .active }
    pace := { st.pace with ready := true }
    halt := st.halt.map fun h => { h with resume := .active }
    q := { st.q with current := st.q.current.map Delivery.restart } }

theorem siteLaws_restarted (st : Site) : st.KeepsLaws st.restarted := by
  have hbase := siteLaws_emptied st (l := if st.win.link = .halted then LinkState.halted else .active)
    (h := st.halt.map fun h => { h with resume := .active }) (b := true) fun ⟨hh, hr, _, _⟩ => by
      refine ⟨?_, ?_, by simp [Window.emptied], by simp [Window.emptied]⟩
      · rw [Option.isSome_map, hh]; split <;> simp_all
      · intro x hx
        obtain ⟨y, _, rfl⟩ := Option.map_eq_some_iff.1 hx
        exact .inr rfl
  refine ⟨⟨hbase.range, hbase.control, hbase.credit, hbase.window, hbase.link⟩, rfl, hbase.room, ?_⟩
  unfold SiteQueue.refs Site.restarted
  cases hc : st.q.current with
  | none => exact within_refl _
  | some c => simpa [Delivery.restart] using within_refl _

theorem laws_helloRestart (i : SiteId) (d : Device) : d.KeepsLaws (helloRestart i d) := by
  have hsite : d.KeepsLaws ((d.markSite i).onSite i Site.restarted) :=
    laws_trans (laws_markSite d i) (laws_onSite (siteLaws_restarted _))
  have heq : ((d.markSite i).onSite i fun st =>
      { st with
        win := { st.win.emptied with link := if (d.site i).win.link = .halted then LinkState.halted else .active }
        pace := { st.pace with ready := true }
        halt := st.halt.map fun h => { h with resume := .active }
        q := { st.q with current := st.q.current.map Delivery.restart } }) = (d.markSite i).onSite i Site.restarted :=
    onSite_congr rfl
  unfold helloRestart
  simp only
  rw [heq]
  exact laws_after (laws_oweUnacknowledged i _) (laws_trans hsite (laws_event _ _))

theorem laws_helloAgain (i : SiteId) (d : Device) : d.KeepsLaws (helloAgain i d) := by
  unfold helloAgain
  split
  case isFalse => exact laws_refl d
  case isTrue h =>
    have hready : d.KeepsLaws (d.onPace i fun p => { p with ready := true }) :=
      laws_onPace fun _ => ⟨rfl, rfl, rfl, rfl, rfl, rfl, rfl⟩
    exact laws_trans hready (laws_recover (by rw [onPace_win]; exact h) _)

theorem laws_takeHello (b : Bool) (i : SiteId) (d : Device) : d.KeepsLaws (takeHello b i d) := by
  have htail : ∀ e : Device, e.KeepsLaws (arbitrate (lookPageStart i (syncTimers i e))) := fun e =>
    laws_after (laws_arbitrate _) (laws_trans (laws_syncTimers i e) (laws_lookPageStart i _))
  unfold takeHello
  simp only
  split
  case isTrue => exact laws_refl d
  case isFalse =>
    refine laws_after (htail _) ?_
    repeat' split
    case isTrue h => exact laws_helloWaiting h b
    case isFalse.isTrue => exact laws_helloRestart i d
    case isFalse.isFalse => exact laws_helloAgain i d

theorem laws_strayHello (p : PortId) (code : Half) (d : Device) : d.KeepsLaws (strayHello p code d) := by
  unfold strayHello
  split
  · exact laws_raise _ _ d
  · exact laws_refl d

/-! ## REMAKE (R130, R131) -/

theorem foldl_higher_some {l : List PageVersion} {b : Option PageVersion} {v : PageVersion}
    (h : l.foldl higher b = some v) : b = some v ∨ v ∈ l := by
  induction l generalizing b with
  | nil => exact .inl h
  | cons x l ih =>
    rcases ih h with hx | hx
    · unfold higher at hx
      repeat' split at hx
      · exact .inr (Option.some.inj hx ▸ List.mem_cons_self)
      · exact .inl hx
      · exact .inr (Option.some.inj hx ▸ List.mem_cons_self)
    · exact .inr (List.mem_cons_of_mem _ hx)

theorem highest_some {d : Device} {test : PageVersion → Bool} {v : PageVersion} (h : d.highest test = some v) :
    v ∈ d.table ∧ test v = true := by
  rcases foldl_higher_some h with h | h
  · cases h
  · exact List.mem_filter.1 h

theorem effectiveVersion_some {d : Device} {i : SiteId} {pos : Position} {v : PageVersion}
    (h : d.effectiveVersion i pos = some v) : v ∈ d.table ∧ v.key.pos = pos := by
  have hlive : ∀ zone, d.highestLive { pos := pos, zone := zone } = some v → v ∈ d.table ∧ v.key.pos = pos := by
    intro zone hz
    obtain ⟨hm, ht⟩ := highest_some hz
    rw [Bool.and_eq_true] at ht
    exact ⟨hm, congrArg PageKey.pos (of_decide_eq_true ht.1)⟩
  unfold Device.effectiveVersion at h
  split at h
  case isFalse => cases h
  case isTrue =>
    split at h
    case h_1 hv => exact hlive _ (hv.trans h)
    case h_2 => exact hlive _ h

theorem laws_remakeUnavailable (i : SiteId) (pos : Position) (r : NotAvailReason) (d : Device) :
    d.KeepsLaws (remakeUnavailable i pos r d) := laws_after (laws_event _ _) (laws_postNotAvail i pos r d)

theorem laws_takeRemake (pos : Position) (asked : SepSet) (i : SiteId) (d : Device) :
    d.KeepsLaws (takeRemake pos asked i d) := by
  unfold takeRemake
  simp only
  split
  case isTrue => exact laws_event d _
  case isFalse hp =>
    split
    case h_1 => exact laws_remakeUnavailable i pos _ d
    case h_2 v hv =>
      obtain ⟨hm, hpos⟩ := effectiveVersion_some hv
      repeat' split
      · refine laws_after (laws_event _ _) (laws_enqueue (laws_refl d) fun hd => ?_)
        exact mayEnqueue_of_out hd hm (by assumption) (by simpa [hpos] using hp)
      · exact laws_remakeUnavailable i pos _ d
      · exact laws_remakeUnavailable i pos _ d

/-! ## Release (R15, R16, R62, R67) -/

theorem laws_supersedeOne (n : Nat) (v : PageVersion) (d : Device) : d.KeepsLaws (supersedeOne n v d) :=
  laws_after (laws_event _ _) (laws_after (laws_cancelAll _ _ _) (laws_after (laws_retain _ _)
    (laws_setState (d := d) (u := v.uid) (s := .superseded) (by simp [VersionState.Settled]) fun _ _ h =>
      (by simp at h))))

theorem laws_supersede (key : PageKey) (n : Nat) (d : Device) : d.KeepsLaws (supersede key n d) :=
  laws_foldl _ _ (fun d v => laws_supersedeOne n v d) d

theorem laws_displace (i : SiteId) (pos : Position) (u : Nat) (d : Device) : d.KeepsLaws (displace i pos u d) := by
  rw [displace_eq]
  refine laws_trans ?_ (laws_foldl _ _ (fun d (e : QueueEntry) => laws_cancelQueued i e.ref.uid d) _)
  unfold displaceCurrent
  split
  case h_2 => exact laws_refl d
  case h_1 =>
    split
    case isTrue => exact laws_cancelCurrent i _ _ d
    case isFalse => exact laws_refl d

/-- No delivery of version `u` is queued or current at site `i`. -/
def Device.Undelivered (d : Device) (i : SiteId) (u : Nat) : Prop := ∀ r ∈ (d.site i).q.refs, r.uid ≠ u

theorem undelivered_of_noNewRefs {d e : Device} {i : SiteId} {u : Nat} (h : d.NoNewRefs e) (hd : d.Undelivered i u) :
    e.Undelivered i u := fun r hr => hd r (h.subset i hr)

/-- The enqueue of a released version at a target site, with the displacement that precedes it (R62, R67). -/
def releaseAt (v : PageVersion) (d : Device) (i : SiteId) : Device :=
  enqueue i v.ref v.cls v.seps (displace i v.key.pos v.uid d)

theorem laws_releaseAt {d e : Device} {v : PageVersion} {i : SiteId} (h : d.KeepsLaws e)
    (hv : d.PositionLaw → v.uid < d.serial ∧ d.SettledAt v.uid ∧ e.Undelivered i v.uid) :
    d.KeepsLaws (releaseAt v e i) := by
  have hdis := laws_trans h (laws_displace i v.key.pos v.uid e)
  refine laws_enqueue hdis fun hd => ?_
  obtain ⟨hb, hs, hu⟩ := hv hd
  refine ⟨Nat.lt_of_lt_of_le hb hdis.serial, hdis.settled hd.2 _ hb hs, ?_⟩
  refine eq_false_of_ne_true fun hp => ?_
  rw [hasPosition_iff, List.mem_map] at hp
  obtain ⟨r, hr, hpos⟩ := hp
  have hne := undelivered_of_noNewRefs (noNewRefs_displace i v.key.pos v.uid e) hu r hr
  have hrival := displace_refs hr
  simp [PageRef.rivals, hne] at hrival
  exact hrival hpos

/-- The enqueues of a release touch each target site once. -/
theorem laws_releaseAll {d : Device} {v : PageVersion} (l : List SiteId) {e : Device} (hl : l.Nodup) (h : d.KeepsLaws e)
    (hv : d.PositionLaw → v.uid < d.serial ∧ d.SettledAt v.uid ∧ ∀ i ∈ l, e.Undelivered i v.uid) :
    d.KeepsLaws (l.foldl (releaseAt v) e) := by
  induction l generalizing e with
  | nil => exact h
  | cons i l ih =>
    obtain ⟨hi, hl⟩ := List.nodup_cons.1 hl
    refine ih hl (laws_releaseAt h fun hd => ?_) fun hd => ?_
    all_goals obtain ⟨hb, hs, hu⟩ := hv hd
    · exact ⟨hb, hs, hu i List.mem_cons_self⟩
    · refine ⟨hb, hs, fun j hj => ?_⟩
      have hne : j ≠ i := fun he => hi (he ▸ hj)
      intro r hr
      rw [releaseAt, site_enqueue_ne hne] at hr
      exact undelivered_of_noNewRefs (noNewRefs_displace i _ _ e) (hu j (List.mem_cons_of_mem _ hj)) r hr

theorem allSites_nodup : allSites.Nodup := by decide

/-- A version that is APPROVED is released (R15): nothing of it was delivered anywhere. -/
theorem laws_release {v : PageVersion} {d : Device} (hv : d.record v.uid = some v) (ha : v.state = .approved) :
    d.KeepsLaws (release v d) := by
  have hstate : d.KeepsLaws (d.onRecord v.uid fun x => { x with state := .released }) :=
    laws_setState (by simp [VersionState.Settled]) fun x hx _ => by
      rw [hv] at hx
      exact .inl (Option.some.inj hx ▸ ha)
  have hsuper := laws_supersede v.key v.version (d.onRecord v.uid fun x => { x with state := .released })
  have hfold : ∀ l : List SiteId, l.Nodup → d.KeepsLaws (l.foldl (releaseAt v)
      (supersede v.key v.version (d.onRecord v.uid fun x => { x with state := .released }))) := by
    intro l hl
    by_cases hd : d.PositionLaw
    case neg => exact laws_releaseAll l hl (laws_trans hstate hsuper) fun h => absurd h hd
    case pos =>
      have hmem := (record_some hv).2
      refine laws_trans hstate (laws_releaseAll l hl hsuper fun _ => ⟨hd.2.2 v hmem, fun x hx => ?_, fun i _ => ?_⟩)
      · obtain rfl := Option.some.inj (hx.symm.trans (record_onRecord_same (fun _ => rfl) hv))
        simp [VersionState.Settled]
      · refine undelivered_of_noNewRefs (noNewRefs_trans (noNewRefs_setState d _ _) (noNewRefs_supersede _ _ _)) ?_
        exact fun r hr he => (((hd.1 i).2 r hr).2 v hmem he.symm).2.2 ha
  unfold release
  simp only
  exact laws_after (laws_deliveredCheck _ _) (laws_after (laws_event _ _) (hfold _ (allSites_nodup.filter _)))

theorem laws_releaseIfApproved (v : PageVersion) (d : Device) : d.KeepsLaws (releaseIfApproved v d) := by
  unfold releaseIfApproved
  split
  case h_2 => exact laws_refl d
  case h_1 x hx =>
    split
    case isTrue ha => exact laws_release ((record_some hx).1 ▸ hx) ha
    case isFalse => exact laws_refl d

theorem laws_evaluate (test : PageVersion → Bool) (d : Device) : d.KeepsLaws (evaluate test d) :=
  laws_foldl _ _ (fun d v => laws_releaseIfApproved v d) d

/-! ## Late pages, recall and zone revert (R21, R69, R70, R73) -/

theorem laws_markLate (u : Nat) (i : SiteId) (d : Device) : d.KeepsLaws (markLate u i d) := by
  unfold markLate
  repeat' split
  · exact laws_trans (laws_onDelivery d u i _) (laws_raise i _ _)
  · exact laws_refl d
  · exact laws_refl d

theorem laws_latestCheck (d : Device) : d.KeepsLaws (latestCheck d) :=
  laws_foldl _ _ (fun d (v : PageVersion) => laws_forSites (laws_markLate v.uid) d) d

/-- A fold that counts beside what it does to the part. -/
theorem laws_foldPair {α : Type} (l : List α) {f : Device × Nat → α → Device × Nat}
    (h : ∀ (p : Device × Nat) (a : α), p.1.KeepsLaws (f p a).1) (p : Device × Nat) : p.1.KeepsLaws (l.foldl f p).1 := by
  induction l generalizing p with
  | nil => exact laws_refl p.1
  | cons a l ih => exact laws_trans (h p a) (ih _)

theorem laws_recallVersion (u : Nat) (d : Device) : d.KeepsLaws (recallVersion u d).1 := by
  refine laws_foldPair allSites (fun p i => ?_) (d, 0)
  split
  case h_2 => exact laws_refl p.1
  case h_1 =>
    split
    case isTrue => exact laws_postCancel i _ _ _ p.1
    case isFalse => exact laws_refl p.1

/-- A version that is out is enqueued at sites where its position is absent, each once (R70). -/
theorem laws_enqueueAll {d : Device} {ref : PageRef} {c : DeliveryClass} {seps : SepSet} (l : List SiteId) {e : Device}
    (hl : l.Nodup) (h : d.KeepsLaws e) (hr : d.PositionLaw → ref.uid < d.serial ∧ d.SettledAt ref.uid)
    (ha : ∀ i ∈ l, (e.site i).hasPosition ref.key.pos = false) :
    d.KeepsLaws (l.foldl (fun e i => enqueue i ref c seps e) e) := by
  induction l generalizing e with
  | nil => exact h
  | cons i l ih =>
    obtain ⟨hi, hl⟩ := List.nodup_cons.1 hl
    refine ih hl (laws_enqueue h fun hd => ?_) fun j hj => ?_
    · obtain ⟨hb, hs⟩ := hr hd
      exact ⟨Nat.lt_of_lt_of_le hb h.serial, h.settled hd.2 _ hb hs, ha i List.mem_cons_self⟩
    · have hne : j ≠ i := fun he => hi (he ▸ hj)
      rw [site_enqueue_ne hne]
      exact ha j (List.mem_cons_of_mem _ hj)

theorem laws_zoneRevert (w : PageVersion) (d : Device) : d.KeepsLaws (zoneRevert w d) := by
  unfold zoneRevert
  simp only
  split
  case isTrue => exact laws_refl d
  case isFalse =>
    split
    case h_1 => exact laws_event d _
    case h_2 c hc =>
      obtain ⟨hm, ht⟩ := highest_some hc
      rw [Bool.and_eq_true] at ht
      refine laws_after (laws_event _ _) (laws_enqueueAll _ (allSites_nodup.filter _) (laws_refl d) (fun hd => ?_)
        fun i hi => ?_)
      · exact ⟨hd.2.2 c hm, settledAt_of_record (record_of_mem hd.2.1 hm) (settled_of_out ht.2)⟩
      · have hr := (List.mem_filter.1 hi).2
        simp only [Device.revertsAt, Bool.and_eq_true, Bool.not_eq_true'] at hr
        exact hr.2

end Sys2Proof.Machine
end

section
/-!
SUPPORT. Band intake and the ticks keep the laws (chapter 2; sections 3.1, 5.5, 7.5, 7.6 and 8.7).
-/

namespace Sys2Proof.Machine
open Sys2Proof.Laws

/-! ## Arrivals and buffers (R192) -/

theorem laws_arrivals (d : Device) (l : List (Option (Fin 4))) :
    d.KeepsLaws { d with feed := { d.feed with arrivals := l } } :=
  laws_feed d rfl rfl id (within_refl _)

theorem laws_beginArrival (d : Device) : d.KeepsLaws (beginArrival d) := by
  unfold beginArrival
  split
  case h_1 b _ => exact laws_trans (laws_keepBuffer d b (x := .receiving) (.inl rfl)) (laws_arrivals _ _)
  case h_2 => exact laws_arrivals d _

theorem laws_endArrival (d : Device) : d.KeepsLaws (endArrival d).1 := by
  unfold endArrival
  split
  · exact laws_arrivals d _
  · exact laws_refl d

theorem laws_overrun (kind tag : Byte) (c : OverrunCause) (d : Device) : d.KeepsLaws (overrun kind tag c d) := by
  refine laws_after (laws_event _ _) (laws_feed d rfl rfl (fun ⟨he, _, ht⟩ => ⟨he, Nat.min_le_right _ _, ht⟩) ?_)
  exact within_refl _

/-! ## Band frames (R37, R39, R41) -/

theorem laws_refuseBand (n : Fin 4) (tag : Byte) (b : BandFields) (r : RefusedReason) (d : Device) :
    d.KeepsLaws (refuseBand n tag b r d) := laws_trans (laws_freeBuffer d n) (laws_event _ _)

theorem laws_takeBand (n : Fin 4) (tag : Byte) (b : BandFields) (d : Device) : d.KeepsLaws (takeBand n tag b d) := by
  unfold takeBand
  split
  case h_1 => exact laws_refuseBand n tag b _ d
  case h_2 v s _ =>
    have halloc := laws_allocate v.area v.uid d
    split
    case h_1 he =>
      rw [he] at halloc
      exact laws_trans halloc (laws_refuseBand n tag b _ _)
    case h_2 he =>
      rw [he] at halloc
      obtain ⟨hr, hh⟩ := allocate_free he
      exact laws_trans halloc (laws_beginWrite hr hh)

theorem laws_bandArrived (b : Option (Fin 4)) (f : FeedFrame) (d : Device) : d.KeepsLaws (bandArrived b f d) := by
  cases b with
  | none =>
    unfold bandArrived
    simp only
    split
    · exact laws_overrun _ _ _ d
    · exact laws_refl d
  | some n =>
    unfold bandArrived
    simp only
    split
    case isFalse => exact laws_freeBuffer d n
    case isTrue =>
      split
      · exact laws_takeBand n _ _ d
      · exact laws_freeBuffer d n

theorem laws_takeArrival (f : FeedFrame) (d : Device) : d.KeepsLaws (takeArrival f d) := by
  have hbegin : d.KeepsLaws (if d.feed.arrivals.isEmpty then beginArrival d else d) := by
    split
    · exact laws_beginArrival d
    · exact laws_refl d
  exact laws_after (laws_bandArrived _ f _) (laws_trans hbegin (laws_endArrival _))

/-! ## Ended band writes (R9, R10, R42, R43, R47) -/

/-- A record that may not be delivered yet changes its state, approval or digest, its band map as it was. -/
theorem laws_unsettled {d : Device} {u : Nat} {v : PageVersion} {f : PageVersion → PageVersion}
    (hv : d.Identified → d.record u = some v)
    (hs : ¬ v.state.Settled) (hf : ∀ x, (f x).uid = x.uid ∧ (f x).bands = x.bands) (ha : v.Approved → (f v).Approved) :
    d.KeepsLaws (d.onRecord u f) := by
  refine laws_onRecord (fun x => (hf x).1) fun hi x hx => ?_
  obtain rfl : v = x := Option.some.inj ((hv hi).symm.trans hx)
  exact ⟨by simp only [PageVersion.entries, (hf v).2], fun h => absurd h hs, ha⟩

theorem not_settled_filling : ¬ VersionState.Settled .filling := fun h => h.1 rfl

theorem laws_completeVersion {v : PageVersion} {d : Device} (hv : d.record v.uid = some v) (hs : v.state = .filling) :
    d.KeepsLaws (completeVersion v d) := by
  have hun : ¬ v.state.Settled := hs ▸ not_settled_filling
  unfold completeVersion
  split
  case h_1 =>
    exact laws_after (laws_event _ _) (laws_unsettled (fun _ => hv) hun (fun _ => ⟨rfl, rfl⟩) fun _ h => by simp at h)
  case h_2 a _ =>
    split
    case isTrue he =>
      exact laws_after (laws_evaluate _ _) (laws_after (laws_event _ _)
        (laws_unsettled (fun _ => hv) hun (fun _ => ⟨rfl, rfl⟩) fun _ _ => ⟨{ a with checked := true }, rfl, rfl, he⟩))
    case isFalse =>
      exact laws_after (laws_event _ _) (laws_unsettled (fun _ => hv) hun (fun _ => ⟨rfl, rfl⟩) fun _ h => by simp at h)

/-- A new band of a FILLING version is recorded: its entry takes the cell that its buffer held (R42, R43). -/
theorem laws_recordBand {d : Device} {n : Fin 4} {w : BandWrite} {v : PageVersion}
    (hb : entryOf d.feed.buffers n = .writing w) (hv : d.record w.ref.uid = some v) (hs : v.state = .filling)
    (old : Option BandEntry) :
    d.KeepsLaws (recordBand w old ((storePayload w.cell w.payload d).onBuffer n .free)) := by
  refine laws_trans (laws_storePayload w.cell w.payload d) (laws_recordWrite (d := storePayload w.cell w.payload d) hb
    (fun _ => rfl) fun x hx => ⟨?_, id, fun _ h => ?_⟩)
  · exact withEntry_cells x w.sep w.band _
  · obtain rfl : v = x := Option.some.inj (hv.symm.trans hx)
    have hstate : v.state = .approved ∨ v.state = .released ∨ v.state = .delivered := h
    simp [hs] at hstate

theorem recordBand_record {d : Device} {w : BandWrite} {v x : PageVersion} {old : Option BandEntry}
    (hv : d.record w.ref.uid = some v) (hx : (recordBand w old d).record w.ref.uid = some x) :
    x.uid = v.uid ∧ x.state = v.state := by
  obtain rfl := Option.some.inj (hx.symm.trans (record_onRecord_same (fun _ => rfl) hv))
  exact ⟨rfl, rfl⟩

theorem laws_finishNewBand {d : Device} {n : Fin 4} {w : BandWrite} (hb : entryOf d.feed.buffers n = .writing w) :
    d.KeepsLaws (finishNewBand n w d) := by
  have hfree : d.KeepsLaws ((storePayload w.cell w.payload d).onBuffer n .free) :=
    laws_trans (laws_storePayload w.cell w.payload d) (laws_freeBuffer _ n)
  unfold finishNewBand
  simp only
  split
  case h_1 => exact laws_trans hfree (laws_refuseWrite w _)
  case h_2 v hv =>
    split
    case isFalse => exact laws_trans hfree (laws_refuseWrite w _)
    case isTrue hs =>
      have hrec := laws_recordBand hb hv hs (v.entry w.sep w.band)
      split
      case isFalse => exact hrec
      case isTrue =>
        split
        case h_2 => exact hrec
        case h_1 x hx =>
          split
          case isFalse => exact hrec
          case isTrue =>
            obtain ⟨-, hstate⟩ := recordBand_record hv hx
            exact laws_trans hrec (laws_completeVersion ((record_some hx).1 ▸ hx) (hstate.trans hs))

theorem laws_endRepair {d : Device} {n : Fin 4} {w : BandWrite} (hb : entryOf d.feed.buffers n = .writing w) :
    d.KeepsLaws (endRepair n w d) := by
  unfold endRepair
  split
  case isTrue => exact laws_keepBuffer d n (.inr (by rw [hb]; rfl))
  case isFalse => exact laws_finishRepair hb

/-! ## Expiries (R113, R147 to R149, R174) -/

theorem laws_expireGap (i : SiteId) (d : Device) : d.KeepsLaws (expireGap i d) := by
  have h : d.KeepsLaws (d.onPace i fun p => { p with gap := none }) :=
    laws_onPace fun _ => ⟨rfl, rfl, rfl, rfl, rfl, rfl, rfl⟩
  exact laws_trans h (laws_lookPageStart i _)

/-- A site whose ack timer is not stopped leaves ACTIVE for LINK_LOST, its timers following (R147, R149). -/
theorem laws_loseLink {d : Device} {i : SiteId} (h : (d.site i).win.ackTimer ≠ .stopped) :
    d.KeepsLaws (syncTimers i (d.onWin i fun w => { w with link := .linkLost })) := by
  unfold syncTimers Device.onWin
  rw [onSite_onSite]
  refine laws_onSite (siteLaws_win (d.site i) (ranks_same rfl rfl rfl id) fun ⟨hh, hr, ha, _⟩ => ?_)
  rw [ha h] at hh
  have hlost := fun q =>
    syncAck_active (q := q) (st := { d.site i with win := { (d.site i).win with link := .linkLost } })
  have hprobe := fun q => syncProbe_linkLost (q := q)
    (st := { d.site i with win := { (d.site i).win with link := .linkLost } })
  exact ⟨hh.trans (by simp), hr, hlost d.base.quiesced, hprobe d.base.quiesced⟩

theorem raise_action {i : SiteId} {det : CondDetails} {d : Device} (h : outcomeOf (d.site i) det.condition = .action)
    (j : SiteId) : (raise i det d).site j = d.site j := by
  unfold raise
  simp only [h]
  rfl

theorem laws_expireAck {i : SiteId} {d : Device} (h : (d.site i).win.ackTimer ≠ .stopped) :
    d.KeepsLaws (expireAck i d) := by
  have hwin : d.KeepsLaws (d.onWin i fun w =>
      { w.markFirst with retry := min (w.retry + 1) 15, ackTimer := .held }) := by
    refine laws_onSite (siteLaws_win (d.site i) (ranks_trans (ranks_markFirst _)
      (ranks_same rfl rfl rfl fun _ => Nat.min_le_right _ _)) fun ⟨hh, hr, ha, hp⟩ => ⟨hh, hr, fun _ => ha h, hp⟩)
  unfold expireAck
  simp only
  split
  case isFalse => exact hwin
  case isTrue =>
    refine laws_trans hwin ?_
    split
    case isFalse => exact laws_raise i _ _
    case isTrue hact =>
      refine laws_trans (laws_raise i _ _) (laws_loseLink ?_)
      rw [raise_action hact, site_onWin_same]
      simp

theorem laws_expireProbe {i : SiteId} {d : Device} (h : (d.site i).win.probeTimer.isSome) :
    d.KeepsLaws (expireProbe i d) := by
  refine laws_onSite (siteLaws_win (d.site i) (ranks_trans (ranks_markFirst _) (ranks_same rfl rfl rfl id))
    fun ⟨hh, hr, ha, hp⟩ => ⟨hh, hr, ha, fun _ => hp fun he => ?_⟩)
  rw [he] at h
  cases h

theorem laws_expireGate (i : SiteId) (d : Device) : d.KeepsLaws (expireGate i d) := by
  unfold expireGate
  simp only
  split
  case h_1 => exact laws_refl d
  case h_2 =>
    split
    case isTrue => exact laws_after (laws_lookPageStart i _) (laws_trans (laws_raise i _ d) (laws_setGate i _ _))
    case isFalse => exact laws_trans (laws_raise i _ d) (laws_setGate i _ _)

theorem laws_expireSite (i : SiteId) (d : Device) : d.KeepsLaws (expireSite i d) := by
  have hgate : ∀ e : Device, e.KeepsLaws (if (e.site i).tgt.gate = .wait 0 then expireGate i e else e) := fun e => by
    split
    · exact laws_expireGate i e
    · exact laws_refl e
  have hack : ∀ e : Device, e.KeepsLaws (if (e.site i).win.ackTimer = .running 0 then expireAck i e else e) :=
    fun e => by
    split
    case isTrue h => exact laws_expireAck (by rw [h]; simp)
    case isFalse => exact laws_refl e
  have hprobe : ∀ e : Device, e.KeepsLaws (if (e.site i).win.probeTimer = some 0 then expireProbe i e else e) :=
    fun e => by
    split
    case isTrue h => exact laws_expireProbe (by rw [h]; rfl)
    case isFalse => exact laws_refl e
  exact laws_trans (hgate d) (laws_trans (hack _) (hprobe _))

/-! ## Ticks (R51, R52, R161) -/

theorem laws_tickGap (i : SiteId) (d : Device) : d.KeepsLaws (tickGap i d) := by
  have hcount : ∀ n, d.KeepsLaws (d.onPace i fun p => { p with gap := some n }) := fun n =>
    laws_onPace fun _ => ⟨rfl, rfl, rfl, rfl, rfl, rfl, rfl⟩
  unfold tickGap
  simp only
  repeat' split
  · exact laws_refl d
  · exact laws_expireGap i d
  · exact hcount _
  · exact laws_refl d

theorem siteLaws_tickCounts (q : Bool) (st : Site) : st.KeepsLaws (st.tickCounts q) := by
  have hbase := siteLaws_win st (w := { st.win with
      ackTimer := st.win.ackTimer.tick, probeTimer := st.win.probeTimer.map (· - 1) }) (h := st.halt)
    (ranks_same rfl rfl rfl id) fun ⟨hh, hr, ha, hp⟩ => ⟨hh, hr, fun h => ha ?_, fun h => hp ?_⟩
  · exact ⟨⟨hbase.range, hbase.control, hbase.credit, hbase.window, hbase.link⟩, rfl, hbase.room, within_refl _⟩
  · cases hk : st.win.ackTimer <;> simp_all [AckTimer.tick]
  · cases hk : st.win.probeTimer <;> simp_all

theorem laws_tickRelease (d : Device) : d.KeepsLaws (tickRelease d) := by
  have hclock : d.KeepsLaws { d with base := { d.base with clock := d.base.clock.tick } } :=
    laws_base d fun ⟨⟨hm, ht, hc⟩, ha, hg⟩ => ⟨⟨hm, ht, ?_⟩, ha, hg⟩
  · unfold tickRelease
    simp only
    split
    · exact hclock
    · exact laws_trans hclock (laws_trans (laws_evaluate _ _) (laws_latestCheck _))
  · unfold Clock.tick Config.dayUnits
    split
    · exact hc
    · exact Nat.mod_lt _ (by decide)

theorem laws_tick100 (d : Device) : d.KeepsLaws (tick100 d) := by
  have hcount := laws_forSites (f := fun i d => d.onSite i (Site.tickCounts d.base.quiesced))
    (fun _ _ => laws_onSite (siteLaws_tickCounts _ _)) d
  have hexpire := laws_forSites laws_expireSite (forSites (fun i d => d.onSite i (Site.tickCounts d.base.quiesced)) d)
  unfold tick100
  simp only
  exact laws_after (laws_tickRelease _) (laws_trans hcount hexpire)

theorem laws_tick10 (d : Device) : d.KeepsLaws (tick10 d) := by
  have hbase : d.KeepsLaws { d with base := { d.base with tens := (d.base.tens + 1) % 10 } } :=
    laws_base d fun ⟨⟨hm, _, hc⟩, ha, hg⟩ => ⟨⟨hm, Nat.mod_lt _ (by decide), hc⟩, ha, hg⟩
  have hgap := laws_trans hbase (laws_forSites laws_tickGap _)
  unfold tick10
  simp only
  split
  · exact laws_trans hgap (laws_tick100 _)
  · exact hgap

theorem laws_tickPort (p : PortId) (d : Device) : d.KeepsLaws (tickPort p d) := by
  unfold tickPort
  split
  case isTrue => exact laws_endPeriod p d
  case isFalse h => exact laws_onPort d p fun ⟨ha, hs, hr, hle⟩ => ⟨ha, hs, by simp only; omega, by simp only; omega⟩

theorem laws_tick1 (d : Device) : d.KeepsLaws (tick1 d) := by
  have hbase : d.KeepsLaws { d with base := { d.base with ms := (d.base.ms + 1) % 10 } } :=
    laws_base d fun ⟨⟨_, ht, hc⟩, ha, hg⟩ => ⟨⟨Nat.mod_lt _ (by decide), ht, hc⟩, ha, hg⟩
  have hport := laws_trans hbase (laws_forPorts laws_tickPort _)
  unfold tick1
  simp only
  split
  · exact laws_trans hport (laws_tick10 _)
  · exact hport

end Sys2Proof.Machine
end

section
/-!
SUPPORT. The commands of page versions, plans, the night clock and store areas keep the laws (chapters 1 to 3).
-/

namespace Sys2Proof.Machine
open Sys2Proof.Laws

theorem laws_okay {d e : Device} (h : d.KeepsLaws e) (data : List Byte) : d.KeepsLaws (okay e data).1 := h

theorem laws_evaluateOne (u : Nat) (d : Device) : d.KeepsLaws (evaluateOne u d) := laws_evaluate _ d

/-! ## OPEN PAGE (R4 to R8) -/

theorem newVersion_entries (u : Nat) (a : OpenPageArgs) (seps : SepSet) (area : Fin 8) :
    (newVersion u a seps area).entries = [] := by
  simp only [PageVersion.entries, newVersion, List.flatMap_eq_nil_iff, Vector.mem_toList_iff]
  intro l hl
  obtain ⟨s, hs, rfl⟩ := Vector.mem_iff_getElem.1 hl
  rw [Vector.getElem_ofFn]
  split
  · simp
  · rfl

/-- A new record at the end of the table takes the next identity (R8). -/
theorem laws_append {d e : Device} {v : PageVersion} (h : d.KeepsLaws e) (hl : d.TableLaw → e.table.length < 256)
    (hu : v.uid = e.serial) (he : v.entries = []) (hs : v.state = .filling) :
    d.KeepsLaws { e with table := e.table ++ [v], serial := e.serial + 1 } := by
  have hids : e.Identified → ((e.table ++ [v]).map PageVersion.uid).Nodup ∧ ∀ x ∈ e.table ++ [v],
    x.uid < e.serial + 1 :=
    fun ⟨hn, hb⟩ => by
      refine ⟨?_, fun x hx => ?_⟩
      · rw [List.map_append, List.nodup_append]
        refine ⟨hn, nodup_one _, fun a ha b hb' => ?_⟩
        obtain ⟨x, hx, rfl⟩ := List.mem_map.1 ha
        have hlt := hb x hx
        rw [List.map_singleton, List.mem_singleton, hu] at hb'
        omega
      · rcases List.mem_append.1 hx with hx | hx
        · exact Nat.lt_succ_of_lt (hb x hx)
        · rw [List.mem_singleton.1 hx, hu]; exact Nat.lt_succ_self _
  have hrec : ∀ u < e.serial, Device.record { e with table := e.table ++ [v], serial := e.serial + 1 } u = e.record u :=
    fun u hu' => by
      have hne : ¬ v.uid = u := by omega
      simp [Device.record, hne]
  refine ⟨⟨h.store, h.range, h.cmds, h.replies, h.out, fun hd => ⟨?_, (h.table hd).2⟩, h.control, h.credit, h.window,
    fun hd => ?approval, Nat.le_succ_of_le h.serial, fun hi => hids (h.ids hi), fun hi u hu' hset x hx => ?settled⟩,
    fun hd => ?cell, fun hd => ?position⟩
  · exact length_append_one (hl hd) v
  case approval =>
    obtain ⟨hn, hb, ha⟩ := h.approval hd
    refine ⟨(hids ⟨hn, hb⟩).1, (hids ⟨hn, hb⟩).2, fun x hx => ?_⟩
    rcases List.mem_append.1 hx with hx | hx
    · exact ha x hx
    · rw [List.mem_singleton.1 hx, hs]; simp
  case settled =>
    rw [hrec u (Nat.lt_of_lt_of_le hu' h.serial)] at hx
    exact h.settled hi u hu' hset x hx
  case cell =>
    obtain ⟨hc, hi⟩ := h.cell hd
    refine ⟨?_, hids hi⟩
    have hcells : Device.recordedCells { e with table := e.table ++ [v], serial := e.serial + 1 }
        = e.recordedCells := by
      simp [Device.recordedCells, he]
    rw [hcells]
    exact hc
  case position =>
    obtain ⟨hq, hi⟩ := h.position hd
    refine ⟨fun i => ⟨(hq i).1, fun r hr => ⟨Nat.lt_succ_of_lt ((hq i).2 r hr).1, fun x hx hxu => ?_⟩⟩, hids hi⟩
    rcases List.mem_append.1 hx with hx | hx
    · exact ((hq i).2 r hr).2 x hx hxu
    · have hlt := ((hq i).2 r hr).1
      rw [List.mem_singleton.1 hx, hu] at hxu
      exact absurd hxu (by omega)

theorem laws_createVersion {d e : Device} (h : d.KeepsLaws e) (hl : d.TableLaw → e.table.length < 256)
    (a : OpenPageArgs)
    (seps : SepSet) (area : Fin 8) (b : Bool) : d.KeepsLaws (createVersion a seps area b e).1 :=
  laws_append h hl rfl (newVersion_entries _ a seps area) rfl

theorem candidate_some {d : Device} {test : PageVersion → Bool} {v : PageVersion} (h : d.candidate test = some v) :
    v ∈ d.table ∧ d.reclaimable v = true ∧ test v = true := by
  obtain ⟨u, -, hu⟩ := List.exists_of_findSome?_eq_some h
  rw [Option.filter_eq_some_iff, Bool.and_eq_true] at hu
  exact ⟨(record_some hu.1).2, hu.2⟩

theorem removeVersion_length {d : Device} {v : PageVersion} (h : v ∈ d.table) (c : ReclaimCause) :
    (removeVersion v c d).table.length < d.table.length :=
  List.length_filter_lt_length_iff_exists.2 ⟨v, h, by simp⟩

theorem laws_openWithRoom (a : OpenPageArgs) (seps : SepSet) (area : Fin 8) (d : Device) :
    d.KeepsLaws (openWithRoom a seps area d).1 := by
  unfold openWithRoom
  split
  case isTrue h => exact laws_createVersion (laws_refl d) (fun _ => h) a seps area false
  case isFalse =>
    split
    case h_2 => exact laws_refl d
    case h_1 v hv =>
      refine laws_createVersion (laws_removeVersion v .table d) (fun hd => ?_) a seps area true
      exact Nat.lt_of_lt_of_le (removeVersion_length (candidate_some hv).1 _) hd.1

theorem laws_applyOpenPage (a : OpenPageArgs) (d : Device) : d.KeepsLaws (applyOpenPage a d).1 := by
  unfold applyOpenPage
  split
  case h_1 => exact laws_refl d
  case h_2 =>
    split
    case isTrue => exact laws_refl d
    case isFalse =>
      split
      case h_1 => exact laws_refl d
      case h_2 =>
        split
        case h_1 => exact laws_refl d
        case h_2 => exact laws_openWithRoom a _ _ d

/-! ## APPROVE (R11 to R13) -/

theorem laws_approveVersion {v : PageVersion} {d : Device} (hm : v ∈ d.table) (a : Approval) :
    d.KeepsLaws (approveVersion v a d).1 := by
  have hv : d.Identified → d.record v.uid = some v := fun hi => record_of_mem hi.1 hm
  unfold approveVersion
  split
  case h_1 hs =>
    exact laws_unsettled hv (by rw [hs]; exact not_settled_filling) (fun _ => ⟨rfl, rfl⟩) fun _ h => by simp [hs] at h
  case h_2 hs =>
    split
    case isFalse => exact laws_refl d
    case isTrue he =>
      have hstate : d.KeepsLaws (d.onRecord v.uid fun x =>
          { x with state := .approved, approval := some { a with checked := true } }) :=
        laws_unsettled hv (by rw [hs]; exact fun h => h.2.1 rfl) (fun _ => ⟨rfl, rfl⟩)
          fun _ _ => ⟨{ a with checked := true }, rfl, rfl, he⟩
      exact laws_okay (laws_trans hstate (laws_after (laws_arbitrate _) (laws_evaluateOne v.uid _))) _
  all_goals exact laws_refl d

theorem laws_applyApprove (a : ApproveArgs) (d : Device) : d.KeepsLaws (applyApprove a d).1 := by
  unfold applyApprove
  split
  case isTrue => exact laws_refl d
  case isFalse =>
    split
    case h_1 => exact laws_refl d
    case h_2 v hv => exact laws_approveVersion (lookup_some hv).2.2 _

/-! ## WITHDRAW, PURGE and SEND PAGE (R20, R21, R25, R71) -/

theorem laws_recallIf (b : Bool) (u : Nat) (d : Device) : d.KeepsLaws (recallIf b u d).1 := by
  unfold recallIf
  split
  · exact laws_recallVersion u d
  · exact laws_refl d

theorem laws_withdrawVersion (v : PageVersion) (b : Bool) (d : Device) : d.KeepsLaws (withdrawVersion v b d).1 := by
  have hstate : d.KeepsLaws (d.onRecord v.uid fun x => { x with state := .withdrawn }) :=
    laws_setState (by simp [VersionState.Settled]) fun _ _ h => by simp at h
  unfold withdrawVersion
  simp only
  exact laws_after (laws_arbitrate _) (laws_after (laws_zoneRevert v _) (laws_after (laws_recallIf b v.uid _)
    (laws_after (laws_cancelAll v.uid _ _) (laws_trans hstate (laws_retain v.uid _)))))

theorem laws_applyWithdraw (key : KeyField) (flags : Byte) (d : Device) : d.KeepsLaws
    (applyWithdraw key flags d).1 := by
  unfold applyWithdraw
  split
  case h_1 => exact laws_refl d
  case h_2 =>
    split
    case isTrue => exact laws_withdrawVersion _ _ d
    case isFalse => exact laws_refl d

theorem laws_applyPurge (key : KeyField) (d : Device) : d.KeepsLaws (applyPurge key d).1 := by
  unfold applyPurge
  split
  case h_1 => exact laws_refl d
  case h_2 =>
    split
    case isTrue => exact laws_okay (laws_removeVersion _ _ d) _
    case isFalse => exact laws_refl d

theorem laws_sendVersion {v : PageVersion} {d : Device} (hm : v ∈ d.table) (i : SiteId) :
    d.KeepsLaws (sendVersion v i d).1 := by
  unfold sendVersion
  split
  case isTrue => exact laws_refl d
  case isFalse hout =>
    split
    case isTrue => exact laws_refl d
    case isFalse =>
      split
      case isTrue => exact laws_refl d
      case isFalse hp =>
        refine laws_okay (laws_trans (laws_enqueue (laws_refl d) fun hd => ?_) (laws_arbitrate _)) _
        exact mayEnqueue_of_out hd hm (by simpa using hout) (by simpa using hp)

theorem laws_applySendPage (key : KeyField) (site : Byte) (d : Device) : d.KeepsLaws (applySendPage key site d).1 := by
  unfold applySendPage
  split
  case h_1 => exact laws_refl d
  case h_2 =>
    split
    case isTrue => exact laws_refl d
    case isFalse =>
      split
      case h_1 => exact laws_refl d
      case h_2 hv => exact laws_sendVersion (lookup_some hv).2.2 _

/-! ## Plans, the night clock and store areas (R33, R53, R57 to R59) -/

theorem laws_onPlan (d : Device) (e : Fin 16) (f : Plan → Plan) : d.KeepsLaws (d.onPlan e f) := laws_base d id

theorem laws_applySetPlan (edition : Byte) (entries : Vector Byte 8) (d : Device) :
    d.KeepsLaws (applySetPlan edition entries d).1 := by
  unfold applySetPlan
  split
  case h_1 => exact laws_refl d
  case h_2 =>
    split
    case isTrue => exact laws_okay (laws_onPlan d _ _) _
    case isFalse => exact laws_refl d

theorem laws_applyHoldEdition (edition : Byte) (d : Device) : d.KeepsLaws (applyHoldEdition edition d).1 := by
  unfold applyHoldEdition
  split
  · exact laws_refl d
  · exact laws_okay (laws_onPlan d _ _) _

theorem laws_applyOpenEdition (edition : Byte) (d : Device) : d.KeepsLaws (applyOpenEdition edition d).1 := by
  unfold applyOpenEdition
  split
  · exact laws_refl d
  · exact laws_okay (laws_trans (laws_onPlan d _ _) (laws_after (laws_arbitrate _) (laws_evaluate _ _))) _

theorem laws_applySetClock (count : Word) (d : Device) : d.KeepsLaws (applySetClock count d).1 := by
  unfold applySetClock
  split
  case isTrue => exact laws_refl d
  case isFalse h =>
    have hclock : d.KeepsLaws { d with base := { d.base with clock := { count := count.toNat, unset := false } } } :=
      laws_base d fun ⟨⟨hm, ht, _⟩, ha, hg⟩ => ⟨⟨hm, ht, by simpa [Config.dayUnits] using h⟩, ha, hg⟩
    exact laws_okay (laws_trans hclock (laws_after (laws_arbitrate _) (laws_evaluate _ _))) _

theorem shares_comm (a b : Area) : a.shares b = b.shares a := Bool.and_comm _ _

theorem areaOverlaps_eq_false {d : Device} {n : Fin 8} {a : Area} (h : d.areaOverlaps n a = false) {k : Fin 8}
    (hk : k ≠ n)
    (he : (entryOf d.base.areas k).enabled = true) : a.shares (entryOf d.base.areas k) = false := by
  have hall : ∀ k : Fin 8, k ∈ ([0, 1, 2, 3, 4, 5, 6, 7] : List (Fin 8)) := by decide
  unfold Device.areaOverlaps at h
  rw [List.any_eq_false] at h
  simpa [hk, he] using h k (hall k)

/-- A defined area lies in the band region and shares no cell with another enabled one (R33). -/
theorem laws_defineArea {d : Device} {n : Fin 8} {a : Area}
    (h : a.enabled = true → a.inRange = true ∧ d.areaOverlaps n a = false) :
    d.KeepsLaws { d with base := { d.base with areas := modifyAt d.base.areas n fun _ => a } } := by
  refine laws_base d fun ⟨hr, ha, hg⟩ => ⟨hr, fun i hi => ?_, hg⟩
  simp only [entryOf_modifyAt] at hi ⊢
  by_cases hin : i = n
  · subst hin
    simp only [if_true] at hi ⊢
    obtain ⟨hrange, hover⟩ := h hi
    simp only [Area.inRange, Config.bandCells, Bool.and_eq_true, decide_eq_true_eq] at hrange
    refine ⟨of_decide_eq_true hrange.2, fun j hj hje => ?_⟩
    rw [if_neg (Ne.symm hj)] at hje ⊢
    exact areaOverlaps_eq_false hover (Ne.symm hj) hje
  · rw [if_neg hin] at hi ⊢
    refine ⟨(ha i hi).1, fun j hj hje => ?_⟩
    by_cases hjn : j = n
    · rw [if_pos hjn] at hje ⊢
      rw [shares_comm]
      exact areaOverlaps_eq_false (h hje).2 hin hi
    · rw [if_neg hjn] at hje ⊢
      exact (ha i hi).2 j hj hje

theorem laws_applyDefineArea (a : DefineAreaArgs) (d : Device) : d.KeepsLaws (applyDefineArea a d).1 := by
  unfold applyDefineArea
  simp only
  split
  case h_1 => exact laws_refl d
  case h_2 n _ =>
    split
    case isTrue => exact laws_refl d
    case isFalse hr =>
      split
      case isTrue => exact laws_refl d
      case isFalse =>
        split
        case isTrue => exact laws_refl d
        case isFalse ho =>
          exact laws_okay (laws_defineArea fun he => ⟨by simpa [he] using hr, by simpa [he] using ho⟩) _

end Sys2Proof.Machine
end

section
/-!
SUPPORT. The commands of sites, ports, curves and colour targets, the device-level commands and the queries keep
the laws (chapters 4 to 10).
-/

namespace Sys2Proof.Machine
open Sys2Proof.Laws

theorem laws_answer {d e : Device} (h : d.KeepsLaws e) (a : Answer) : d.KeepsLaws (e, a).1 := h

/-! ## SET SITE (R138, R197) -/

theorem clamp_between {lo hi : Nat} (h : lo ≤ hi) (n : Nat) : lo ≤ clamp lo hi n ∧ clamp lo hi n ≤ hi := by
  unfold clamp
  omega

theorem clamp_le (lo hi n : Nat) : clamp lo hi n ≤ hi := Nat.min_le_right _ _

theorem settingsOf_inRange (a : SetSiteArgs) (port : PortId) (flow : FlowMode) (mask : BitVec 7) (solid : Bool) :
    (settingsOf a port flow mask solid).InRange := by
  have hhigh := clamp_between (lo := 1) (hi := 63) (by decide) a.highMark.toNat
  refine ⟨clamp_le _ _ _, clamp_between (by decide) _, clamp_between (by decide) _, hhigh, ?_,
    clamp_between (by decide) _,
    fun k => ?_, clamp_le _ _ _, clamp_between (by decide) _⟩
  · simp only [settingsOf, lowMarkOf, highMarkOf]
    omega
  · simp only [settingsOf, entryOf, Vector.getElem_map]
    exact clamp_between (by decide) _

theorem codeTaken_eq_false {d : Device} {i : SiteId} {code : Half} (h : d.codeTaken i code = false) {k : SiteId}
    (hk : k ≠ i) : (d.site k).cfg.code ≠ code := by
  have hall : ∀ k : SiteId, k ∈ allSites := by decide
  unfold Device.codeTaken at h
  rw [List.any_eq_false] at h
  simpa [hk] using h k (hall k)

/-- Settings in range whose code no other site has replace a site's (R138, R197). -/
theorem laws_installSettings {d : Device} {i : SiteId} {s : Settings} (hs : s.InRange)
    (hc : ∀ k, k ≠ i → (d.site k).cfg.code ≠ s.code) : d.KeepsLaws (installSettings i s d) := by
  have hcodes : d.CodesDiffer → (installSettings i s d).CodesDiffer := fun hd j k hjk => by
    unfold installSettings
    by_cases hj : j = i
    · subst hj
      rw [site_onSite_same, site_onSite_ne _ (Ne.symm hjk)]
      exact (hc k (Ne.symm hjk)).symm
    · rw [site_onSite_ne _ hj]
      by_cases hk : k = i
      · subst hk
        rw [site_onSite_same]
        exact hc j hj
      · rw [site_onSite_ne _ hk]
        exact hd j k hjk
  refine ⟨otherLaws_onSite ⟨fun ⟨_, hv, hr⟩ => ⟨hs, hv, ?range⟩, id, fun hsz hk => ⟨hsz, ?credit⟩, id, id⟩ hcodes
    (roomLaw_onSite id), id, positionLaw_onSite (within_refl _)⟩
  case range =>
    unfold Site.RangeLaw at hr ⊢
    simp only
    split <;> exact hr
  case credit =>
    unfold Site.CreditLaw at hk ⊢
    simp only
    split <;> exact hk

theorem laws_applySetSite (a : SetSiteArgs) (d : Device) : d.KeepsLaws (applySetSite a d).1 := by
  unfold applySetSite
  split
  case h_2 => exact laws_refl d
  case h_1 i port flow mask solid _ _ _ _ _ =>
    split
    case isTrue => exact laws_refl d
    case isFalse h =>
      have hset : d.KeepsLaws (installSettings i (settingsOf a port flow mask solid) d) :=
        laws_installSettings (settingsOf_inRange a port flow mask solid) fun k hk =>
          codeTaken_eq_false (Bool.not_eq_true _ ▸ h) hk
      unfold takeSettings
      exact laws_answer (laws_trans hset (laws_trans (laws_syncTimers i _)
        (laws_after (laws_arbitrate _) (laws_lookPageStart i _)))) _

/-! ## ENABLE SITE and DISABLE SITE (R133, R134, R156) -/

theorem siteLaws_reset (st : Site) {l : LinkState} (hl : st.win.link ≠ .halted) (hn : l ≠ .halted) (b : Bool) :
    st.KeepsLaws { st with win := { Window.reset with link := l }, pace := { st.pace with ready := b } } := by
  have hw : st.win.KeepsRanks { Window.reset with link := l } := ranks_empty _ rfl rfl rfl
  refine ⟨⟨fun ⟨hc, hv, hr⟩ => ⟨hc, hv, hr.1, hw.retry hr.2.1, hr.2.2⟩, id, fun hs hc => ⟨hw.sized hs, hc⟩, hw.law,
    fun ⟨hh, hr, _, _⟩ => ⟨?_, hr, by simp [Window.reset], by simp [Window.reset]⟩⟩, rfl, hw.room, within_refl _⟩
  rw [hh]
  simp [hl, hn]

theorem laws_produceEnabled (i : SiteId) (d : Device) : d.KeepsLaws (produceEnabled i d) := by
  have h := laws_produce i (d.site i).tone.active.stock d
  unfold produceEnabled
  simp only
  repeat' split
  · exact h
  · exact laws_trans h (laws_produce i _ _)
  · exact h

theorem laws_applyEnableSite (site : Byte) (d : Device) : d.KeepsLaws (applyEnableSite site d).1 := by
  unfold applyEnableSite
  split
  case h_1 => exact laws_refl d
  case h_2 i _ =>
    split
    case isFalse => exact laws_refl d
    case isTrue h =>
      exact laws_trans (laws_onSite (siteLaws_reset (d.site i) (by rw [h]; simp) (by simp) true))
        (laws_produceEnabled i _)

theorem laws_cancelSite (i : SiteId) (d : Device) : d.KeepsLaws (cancelSite i d) := by
  have hqueue : d.KeepsLaws ((d.site i).q.queue.foldl (fun d e => cancelQueued i e.ref.uid d) d) :=
    laws_foldl _ _ (fun d (e : QueueEntry) => laws_cancelQueued i e.ref.uid d) d
  unfold cancelSite
  simp only
  split
  case h_1 => exact laws_trans hqueue (laws_cancelCurrent i _ _ _)
  case h_2 => exact hqueue

theorem siteLaws_clearDisabled (st : Site) : st.KeepsLaws (clearDisabled st) := by
  have hw : st.win.KeepsRanks { st.win with prepared := none } := by
    have h := ranks_unprepare st.win fun _ => false
    rwa [Option.filter_eq_none_iff.2 fun _ _ => Bool.false_ne_true] at h
  refine ⟨⟨fun ⟨hc, hv, hr⟩ => ⟨hc, hv, hr.1, hr.2.1, by simp [clearDisabled], by simp [clearDisabled],
    by simp [clearDisabled], hr.2.2.2.2.2⟩, fun _ => ⟨by simp [clearDisabled], fun k => ?_⟩,
    fun hs hc => ⟨hw.sized hs, hc⟩, hw.law, id⟩, rfl, hw.room, within_refl _⟩
  simp [clearDisabled]

theorem laws_beginClosing (i : SiteId) (d : Device) : d.KeepsLaws (beginClosing i d) :=
  laws_onSite (siteLaws_win (d.site i) (ranks_same rfl rfl rfl id) fun ⟨hh, hr, _, _⟩ => ⟨hh, hr, by simp, by simp⟩)

theorem laws_disableSite (i : SiteId) (d : Device) : d.KeepsLaws (disableSite i d) := by
  have h : d.KeepsLaws (((cancelSite i d).markSite i).onSite i clearDisabled) :=
    laws_trans (laws_cancelSite i d) (laws_trans (laws_markSite _ i) (laws_onSite (siteLaws_clearDisabled _)))
  unfold disableSite
  simp only
  split
  · exact laws_trans h (laws_beginClosing i _)
  · exact laws_trans h (laws_becomeDisabled i _)

theorem laws_applyDisableSite (site : Byte) (d : Device) : d.KeepsLaws (applyDisableSite site d).1 := by
  unfold applyDisableSite
  split
  case h_1 => exact laws_refl d
  case h_2 i _ =>
    split
    case isTrue => exact laws_refl d
    case isFalse => exact laws_okay (laws_trans (laws_disableSite i d) (laws_arbitrate _)) _

/-! ## RESUME SITE (R187) -/

/-- The site after a resume, its timers and page start apart (R187). -/
def Site.resumed (l : LinkState) (st : Site) : Site :=
  { st with
    win := { st.win with link := l, retry := 0 }
    halt := none
    tgt := { st.tgt with gate := .idle }
    pace := st.pace.refillGap st.cfg.gapLength }

theorem siteLaws_resumed {st : Site} {h : HaltRecord} (hl : st.win.link = .halted) (hh : st.halt = some h) :
    st.KeepsLaws (st.resumed h.resume) := by
  have hbase := siteLaws_win st (w := { st.win with link := h.resume, retry := 0 }) (h := none)
    (ranks_same rfl rfl rfl fun _ => Nat.zero_le _) fun ⟨_, hr, ha, hp⟩ => by
      have hres : h.resume = .waiting ∨ h.resume = .active := hr h hh
      refine ⟨?_, by simp, fun hne => ?_, fun hne => ?_⟩
      · rcases hres with hres | hres <;> simp [hres]
      · exact absurd (hl.symm.trans (ha hne)) (by simp)
      · exact absurd (hl.symm.trans (hp hne)) (by simp)
  exact ⟨⟨fun hr => ⟨hr.1, hr.2.1, hr.2.2.1, Nat.zero_le _, hr.2.2.2.2⟩, id, hbase.credit, hbase.window, hbase.link⟩,
    rfl,
    hbase.room, within_refl _⟩

theorem laws_applyResumeSite (site : Byte) (d : Device) : d.KeepsLaws (applyResumeSite site d).1 := by
  unfold applyResumeSite
  split
  case h_1 => exact laws_refl d
  case h_2 i _ =>
    split
    case isTrue => exact laws_refl d
    case isFalse hl =>
      split
      case h_1 => exact laws_refl d
      case h_2 h hh =>
        have hres : d.KeepsLaws (d.onSite i (Site.resumed h.resume)) := by
          refine laws_onSite (siteLaws_resumed ?_ hh)
          exact Classical.byContradiction fun hne => hl (.inl hne)
        exact laws_answer (laws_trans hres (laws_trans (laws_syncTimers i _)
          (laws_after (laws_arbitrate _) (laws_lookPageStart i _)))) _

/-! ## SET ALLOTMENT and SET PORT (R162, R163) -/

theorem laws_applySetAllotment (site : Byte) (n : Word) (d : Device) : d.KeepsLaws (applySetAllotment site n d).1 := by
  unfold applySetAllotment
  split
  case h_1 => exact laws_refl d
  case h_2 i _ =>
    refine laws_onSite (f := fun st => { st with pace := { st.pace with staged := some (min n.toNat maxAllotment) } })
      ⟨⟨id, id, fun hs hc => ⟨hs, hc.1, hc.2.1, hc.2.2.1, fun a ha => ?_⟩, id, id⟩, rfl, id, within_refl _⟩
    obtain rfl := Option.some.inj ha
    exact Nat.min_le_right _ _

theorem laws_applySetPort (port : Byte) (period : Half) (d : Device) : d.KeepsLaws (applySetPort port period d).1 := by
  unfold applySetPort
  split
  case h_1 => exact laws_refl d
  case h_2 p _ =>
    refine laws_onPort d p (f := fun x => { x with staged := some (clamp 1 1000 period.toNat) }) fun ⟨ha, _, hr⟩ =>
      ⟨ha, fun n hn => ?_, hr⟩
    obtain rfl := Option.some.inj hn
    exact clamp_between (by decide) _

/-! ## LOAD CURVE and ARM CURVES (R77, R79, R80) -/

/-- A list in which no value falls rises throughout (R77). -/
theorem rises_of_firstDrop {l : List Nat} {n : Nat} (h : firstDrop n l = none) :
    ∀ (j : Nat) (hj : j + 1 < l.length), l[j] ≤ l[j + 1] := by
  induction l generalizing n with
  | nil => intro j hj; exact absurd hj (Nat.not_lt_zero _)
  | cons a l ih =>
    cases l with
    | nil => intro j hj; simp at hj
    | cons b l =>
      unfold firstDrop at h
      split at h
      case isTrue => cases h
      case isFalse hle =>
        intro j hj
        cases j with
        | zero => simpa using hle
        | succ j => exact ih h j (by simpa using hj)

theorem clampKnots_valid {knots : Vector Half 17} (h : firstDrop 0 (clampKnots knots).toList = none) :
    (clampKnots knots).Valid := by
  refine ⟨fun j => ?_, fun j => ?_⟩
  · have hj : j.val + 1 < (clampKnots knots).toList.length := by rw [Vector.length_toList]; omega
    simpa using rises_of_firstDrop h j.val hj
  · simp only [clampKnots, Vector.getElem_map]
    exact Nat.min_le_right _ _

theorem laws_applyLoadCurve (site sep : Byte) (knots : Vector Half 17) (d : Device) :
    d.KeepsLaws (applyLoadCurve site sep knots d).1 := by
  unfold applyLoadCurve
  split
  case h_2 => exact laws_refl d
  case h_1 i s _ _ =>
    split
    case h_1 => exact laws_refl d
    case h_2 hn =>
      refine laws_onTone (d := d) (i := i) (f := fun t => { t with
        pending := { t.pending with curves := modifyAt t.pending.curves s fun _ => clampKnots knots } })
        fun hr => ⟨hr.2.2.1, fun k => ⟨(hr.2.1 k).1, ?_⟩⟩
      simp only [entryOf_modifyAt]
      split
      · exact clampKnots_valid hn
      · exact (hr.2.1 k).2

theorem laws_cancelArm (i : SiteId) (d : Device) : d.KeepsLaws (cancelArm i d) :=
  laws_after (laws_setGate i _ _) (laws_onTone fun hr => ⟨hr.2.2.1, fun s => ⟨(hr.2.1 s).1, (hr.2.1 s).1⟩⟩)

theorem laws_armSite (i : SiteId) (a : Arm) (d : Device) : d.KeepsLaws (armSite i a d) := by
  have h : d.KeepsLaws (setGate i .idle (d.onTone i fun t =>
      { t with pending := { t.pending with stock := a.stock }, arm := some a })) :=
    laws_after (laws_setGate i _ _) (laws_onTone fun hr => ⟨hr.2.2.1, hr.2.1⟩)
  unfold armSite
  simp only
  split
  · exact h
  · exact laws_trans h (laws_produce i _ _)

theorem laws_applyArmCurves (site stock flags : Byte) (d : Device) :
    d.KeepsLaws (applyArmCurves site stock flags d).1 := by
  unfold applyArmCurves
  split
  case h_2 => exact laws_refl d
  case h_1 i k _ _ =>
    simp only
    split
    case isTrue =>
      exact laws_okay (laws_trans (laws_cancelArm i d) (laws_after (laws_arbitrate _) (laws_lookPageStart i _))) _
    case isFalse =>
      split
      case isTrue => exact laws_refl d
      case isFalse =>
        exact laws_okay (laws_trans (laws_armSite i _ d) (laws_after (laws_arbitrate _) (laws_lookPageStart i _))) _

/-! ## SET GROUP TARGET and SET SITE TARGET (R100 to R103) -/

theorem laws_produceIfUsed (k : Stock) (i : SiteId) (d : Device) : d.KeepsLaws (produceIfUsed k i d) := by
  unfold produceIfUsed
  split
  · exact laws_produce i k d
  · exact laws_refl d

theorem laws_setGroup (d : Device) (k : Stock) (a : SetGroupTargetArgs) : d.KeepsLaws (d.setGroup k (groupAims a)) := by
  refine laws_base d fun ⟨hr, ha, hg⟩ => ⟨hr, ha, fun j => ?_⟩
  simp only [entryOf_modifyAt]
  split
  case isFalse => exact hg j
  case isTrue =>
    refine ⟨fun s => ?_, fun t => ?_⟩ <;>
      (simp only [groupAims, entryOf, Vector.getElem_map]; exact Nat.min_le_right _ _)

theorem laws_applySetGroupTarget (a : SetGroupTargetArgs) (d : Device) : d.KeepsLaws (applySetGroupTarget a d).1 := by
  unfold applySetGroupTarget
  split
  case h_1 => exact laws_refl d
  case h_2 k _ =>
    exact laws_answer (laws_trans (laws_setGroup d k a)
      (laws_after (laws_arbitrate _) (laws_forSites (laws_produceIfUsed k) _))) _

theorem clampInt_between {m : Int} (hm : 0 ≤ m) (n : Int) : -m ≤ clampInt m n ∧ clampInt m n ≤ m := by
  unfold clampInt
  omega

theorem laws_setOffsets (d : Device) (i : SiteId) (k : Stock) (a : SetSiteTargetArgs) :
    d.KeepsLaws (d.setOffsets i k (offsetsOf a)) := by
  refine laws_onSite (f := fun st => { st with tgt := { st.tgt with
    offsets := modifyAt st.tgt.offsets k fun _ => offsetsOf a } })
    ⟨⟨fun ⟨hc, hv, hr⟩ => ⟨hc, hv, hr.1, hr.2.1, hr.2.2.1, hr.2.2.2.1, hr.2.2.2.2.1, fun j => ?_⟩, id,
      fun hs hk => ⟨hs, hk⟩, id, id⟩, rfl, id, within_refl _⟩
  simp only [entryOf_modifyAt]
  split
  case isFalse => exact hr.2.2.2.2.2 j
  case isTrue =>
    refine ⟨fun s => ?_, fun t => ?_, ?_, ?_⟩
    · simp only [offsetsOf, entryOf, Vector.getElem_map]
      exact clampInt_between (by decide) _
    · simp only [offsetsOf, entryOf, Vector.getElem_map]
      exact clampInt_between (by decide) _
    · simp only [offsetsOf]; omega
    · simp only [offsetsOf, limitOf]; omega

theorem laws_applySetSiteTarget (a : SetSiteTargetArgs) (d : Device) : d.KeepsLaws (applySetSiteTarget a d).1 := by
  unfold applySetSiteTarget
  split
  case h_2 => exact laws_refl d
  case h_1 i k _ _ =>
    exact laws_answer
      (laws_trans (laws_setOffsets d i k a) (laws_after (laws_arbitrate _) (laws_produceIfUsed k i _))) _

/-! ## QUIESCE and RESUME (R200) -/

theorem laws_setQuiesced (d : Device) (b : Bool) : d.KeepsLaws (d.setQuiesced b) := laws_base d id

theorem laws_applyQuiesce (d : Device) : d.KeepsLaws (applyQuiesce d).1 :=
  laws_trans (laws_setQuiesced d true) (laws_forSites laws_syncTimers _)

theorem siteLaws_unquiesced (st : Site) (g : Gate) :
    st.KeepsLaws { st with pace := st.pace.refillGap st.cfg.gapLength, tgt := { st.tgt with gate := g } } :=
  ⟨⟨id, id, fun hs hc => ⟨hs, hc⟩, id, id⟩, rfl, id, within_refl _⟩

theorem laws_unquiesceSite (i : SiteId) (d : Device) : d.KeepsLaws (unquiesceSite i d) :=
  laws_after (laws_lookPageStart i _)
    (laws_after (laws_syncTimers i _) (laws_onSite (siteLaws_unquiesced (d.site i) _)))

theorem laws_applyResume (d : Device) : d.KeepsLaws (applyResume d).1 := by
  unfold applyResume
  split
  case isFalse => exact laws_refl d
  case isTrue =>
    exact laws_answer (laws_trans (laws_setQuiesced d false)
      (laws_after (laws_arbitrate _) (laws_forSites laws_unquiesceSite _))) _

/-! ## DAY RESET (R201) -/

/-- The writes in flight whose record is removed are marked (R44). -/
def dayResetMark (d : Device) (b : Buffer) : Buffer :=
  match b with
  | .writing w => if (d.record w.ref.uid).isSome then .writing { w with dayReset := true } else .writing w
  | .free => .free
  | .receiving => .receiving

theorem dayResetMark_cell (d : Device) (b : Buffer) : (dayResetMark d b).cell = b.cell := by
  cases b with
  | writing w => unfold dayResetMark; simp only; split <;> rfl
  | free => rfl
  | receiving => rfl

theorem forgetNight_heldCells (d : Device) : (forgetNight d).heldCells = d.heldCells := by
  have hb : (forgetNight d).feed.buffers = d.feed.buffers.map (dayResetMark d) := rfl
  unfold Device.heldCells
  rw [hb, Vector.toList_map, List.filterMap_map]
  exact congrArg (List.filterMap · _) (funext fun b => dayResetMark_cell d b)

theorem laws_forgetNight (d : Device) : d.KeepsLaws (forgetNight d) := by
  refine ⟨⟨id, fun hd => ?range, rfl, rfl, fun ⟨_, _, ht⟩ => ?out, fun _ => ⟨Nat.zero_le _, List.nodup_nil⟩, id, id, id,
    fun _ => ⟨List.nodup_nil, fun _ h => (by cases h), fun _ h => (by cases h)⟩, Nat.le_refl _,
    fun _ => ⟨List.nodup_nil, fun _ h => (by cases h)⟩, fun _ _ _ _ v hv => (by cases hv)⟩, fun ⟨hc, _, _⟩ => ?cell,
    fun ⟨hq, _, _⟩ => ⟨fun i => ⟨(hq i).1, fun r hr => ⟨((hq i).2 r hr).1, fun _ h => (by cases h)⟩⟩, List.nodup_nil,
      fun _ h => (by cases h)⟩⟩
  case range =>
    obtain ⟨hs, hc, hb, hp⟩ := (rangeLaw_iff d).1 hd
    exact (rangeLaw_iff _).2 ⟨hs, hc, hb, hp⟩
  case out =>
    refine ⟨Nat.zero_le _, Nat.zero_le _, fun t h => ?_⟩
    obtain ⟨x, hx, rfl⟩ := Option.map_eq_some_iff.1 h
    split
    · exact ⟨by simp, by simp⟩
    · exact ⟨(ht x hx).1, fun he => absurd he (by assumption)⟩
  case cell =>
    refine ⟨?_, List.nodup_nil, fun _ h => (by cases h)⟩
    rw [forgetNight_heldCells]
    exact (List.pairwise_append.1 hc).2.1

theorem laws_dayResetSite (i : SiteId) (d : Device) : d.KeepsLaws (dayResetSite i d) := by
  unfold dayResetSite
  split
  case isTrue => exact laws_refl d
  case isFalse =>
    split
    case isTrue =>
      refine laws_onSite ⟨⟨fun ⟨hc, hv, hr⟩ => ⟨hc, hv, Nat.zero_le _, hr.2.1, by simp [Site.dayResetDisabled],
        by simp [Site.dayResetDisabled], by simp [Site.dayResetDisabled], hr.2.2.2.2.2⟩, fun _ => ?_,
        fun hs hc => ⟨hs, ⟨by simp [Site.dayResetDisabled], by simp [Site.dayResetDisabled]⟩, hc.2⟩, id, id⟩, rfl, id,
        within_nil _⟩
      exact ⟨Nat.zero_le _, fun _ => ⟨Nat.zero_le _, fun _ => rfl⟩⟩
    case isFalse =>
      have hw : (d.site i).win.KeepsRanks { (d.site i).win.emptied with link := .waiting } := ranks_empty _ rfl rfl rfl
      refine laws_after (laws_oweUnacknowledged i _) (laws_onSite ⟨⟨fun ⟨hc, hv, hr⟩ => ⟨hc, hv, Nat.zero_le _,
        hw.retry hr.2.1, by simp [Site.dayReset], by simp [Site.dayReset], by simp [Site.dayReset], hr.2.2.2.2.2⟩,
        fun _ => ⟨Nat.zero_le _, fun _ => ⟨Nat.zero_le _, fun _ => rfl⟩⟩,
        fun hs hc => ⟨hw.sized hs, ⟨by simp [Site.dayReset], by simp [Site.dayReset]⟩, hc.2⟩, hw.law, fun _ => ?_⟩, rfl,
        hw.room, within_nil _⟩)
      simp [Site.LinkLaw, Site.dayReset, Window.emptied]

theorem laws_applyDayReset (d : Device) : d.KeepsLaws (applyDayReset d).1 :=
  laws_okay (laws_trans (laws_forgetNight d) (laws_trans (laws_markIf _ _) (laws_forSites laws_dayResetSite _))) _

/-! ## Queries, and every command -/

theorem query_unchanged (d : Device) (site area : Byte) (key : KeyField) : (applyQueryPage key d).1 = d ∧
    (applyQuerySite site d).1 = d ∧ (applyQueryArea area d).1 = d ∧ (applyQueryDevice d).1 = d ∧
    (applyReadCurve site d).1 = d := by
  refine ⟨?_, ?_, ?_, rfl, ?_⟩
  · unfold applyQueryPage
    split
    · rfl
    · split
      · rfl
      · split <;> rfl
  · unfold applyQuerySite; split <;> rfl
  · unfold applyQueryArea; split <;> rfl
  · unfold applyReadCurve; split <;> rfl

theorem laws_unchanged {d e : Device} (h : e = d) : d.KeepsLaws e := h ▸ laws_refl d

theorem laws_applyCommand (c : Command) (d : Device) : d.KeepsLaws (applyCommand c d).1 := by
  cases c with
  | openPage a => exact laws_applyOpenPage a d
  | approve a => exact laws_applyApprove a d
  | withdraw key flags => exact laws_applyWithdraw key flags d
  | purge key => exact laws_applyPurge key d
  | sendPage key site => exact laws_applySendPage key site d
  | setPlan edition entries => exact laws_applySetPlan edition entries d
  | holdEdition edition => exact laws_applyHoldEdition edition d
  | openEdition edition => exact laws_applyOpenEdition edition d
  | setClock count => exact laws_applySetClock count d
  | defineArea a => exact laws_applyDefineArea a d
  | setSite a => exact laws_applySetSite a d
  | enableSite site => exact laws_applyEnableSite site d
  | disableSite site => exact laws_applyDisableSite site d
  | resumeSite site => exact laws_applyResumeSite site d
  | setAllotment site n => exact laws_applySetAllotment site n d
  | setPort port n => exact laws_applySetPort port n d
  | loadCurve site sep knots => exact laws_applyLoadCurve site sep knots d
  | armCurves site stock flags => exact laws_applyArmCurves site stock flags d
  | setGroupTarget a => exact laws_applySetGroupTarget a d
  | setSiteTarget a => exact laws_applySetSiteTarget a d
  | quiesce => exact laws_applyQuiesce d
  | resume => exact laws_applyResume d
  | dayReset => exact laws_applyDayReset d
  | queryPage key => exact laws_unchanged (query_unchanged d 0 0 key).1
  | querySite site => exact laws_unchanged (query_unchanged d site 0 ⟨0, 0, 0, 0, 0⟩).2.1
  | queryArea area => exact laws_unchanged (query_unchanged d 0 area ⟨0, 0, 0, 0, 0⟩).2.2.1
  | queryDevice => exact laws_refl d
  | readCurve site => exact laws_unchanged (query_unchanged d site 0 ⟨0, 0, 0, 0, 0⟩).2.2.2.2
  | malformed code => exact laws_refl d

end Sys2Proof.Machine
end

section
/-!
SUPPORT. Every step keeps every law: the feed port's queues over the taking of commands and the sending of frames, the
laws at power-on, and each row of the command table.
-/

namespace Sys2Proof.Machine
open Sys2Proof.Laws

/-! ## The laws at power-on (section 10.5) -/

theorem settingsLaw_reset : Device.reset.SettingsLaw := by
  refine ⟨?_, ?_⟩ <;> decide +kernel

theorem curveLaw_reset : Device.reset.CurveLaw := by decide +kernel

theorem areaLaw_reset : Device.reset.base.AreaLaw := by decide +kernel

theorem groupLaw_reset : Device.reset.base.GroupLaw := by decide +kernel

theorem siteRangeLaw_reset : ∀ i : SiteId, (Device.reset.site i).RangeLaw := by decide +kernel

theorem rangeLaw_reset : Device.reset.RangeLaw :=
  ⟨settingsLaw_reset, curveLaw_reset, by decide, areaLaw_reset, groupLaw_reset, by decide +kernel, siteRangeLaw_reset⟩

theorem window_reset (i : SiteId) : (Device.reset.site i).win = Window.reset := by
  revert i; decide +kernel

theorem controlLaw_reset : Device.reset.ControlLaw := by decide +kernel

theorem creditLaw_reset : Device.reset.CreditLaw := by
  refine ⟨⟨fun i => ?_, fun p h => (by cases h)⟩, by decide +kernel⟩
  rw [window_reset]
  exact ⟨fun r h => (by cases h), fun b h => (by cases h)⟩

theorem windowLaw_reset : Device.reset.WindowLaw :=
  ⟨fun i => by rw [window_reset]; exact ⟨by decide, trivial⟩, fun p h => (by cases h)⟩

theorem linkLaw_reset : Device.reset.LinkLaw := by decide +kernel

theorem cellLaw_reset : Device.reset.CellLaw := ⟨List.nodup_nil, List.nodup_nil, fun v h => (by cases h)⟩

theorem positionLaw_reset : Device.reset.PositionLaw := by decide +kernel

theorem feedLaw_reset : Device.reset.feed.Law :=
  ⟨Nat.zero_le _, Nat.zero_le _, Nat.zero_le _, Nat.zero_le _, .inl rfl, fun t h => (by cases h)⟩

/-- Settles O52: the laws of counts and settings by evaluation, those of the empty table and windows directly. -/
theorem everyLawHoldsAtReset : Obligations.EveryLawHoldsAtReset :=
  ⟨reset_store_wf, rangeLaw_reset, feedLaw_reset, ⟨Nat.zero_le _, List.nodup_nil⟩, controlLaw_reset, creditLaw_reset,
    windowLaw_reset, linkLaw_reset, cellLaw_reset, positionLaw_reset,
    ⟨List.nodup_nil, fun v h => (by cases h), fun v h => (by cases h)⟩⟩

/-! ## The feed port's queues (R193, R195, R198, R199) -/

/-- Every law but that of the feed port's queues is kept on the way from `d` to `e`. -/
structure Device.KeepsPart (d e : Device) : Prop where
  store : Memory.wf d.store → Memory.wf e.store
  range : d.RangeLaw → e.RangeLaw
  table : d.TableLaw → e.TableLaw
  control : d.ControlLaw → e.ControlLaw
  credit : d.CreditLaw → e.CreditLaw
  window : d.WindowLaw ∧ d.LinkLaw → e.WindowLaw ∧ e.LinkLaw
  approval : d.ApprovalLaw → e.ApprovalLaw
  cell : d.CellLaw → e.CellLaw
  position : d.PositionLaw → e.PositionLaw

/-- Every law is kept on the way from `d` to `e`, over a change of the command unit's queues too. -/
def Device.KeepsAll (d e : Device) : Prop := d.KeepsPart e ∧ (d.feed.Law → e.feed.Law)

theorem part_of_laws {d e : Device} (h : d.KeepsLaws e) : d.KeepsPart e :=
  ⟨h.store, h.range, h.table, h.control, h.credit, h.window, h.approval, h.cell, h.position⟩

theorem part_trans {d e f : Device} (h : d.KeepsPart e) (k : e.KeepsPart f) : d.KeepsPart f :=
  ⟨k.store ∘ h.store, k.range ∘ h.range, k.table ∘ h.table, k.control ∘ h.control, k.credit ∘ h.credit,
    k.window ∘ h.window, k.approval ∘ h.approval, k.cell ∘ h.cell, k.position ∘ h.position⟩

/-- The feed port's queues and transmitter are in no law but its own. -/
theorem part_feed (d : Device) {f : Feed} (h : f.buffers = d.feed.buffers) : d.KeepsPart { d with feed := f } := by
  refine ⟨id, id, id, id, id, id, id, fun hd => ?_, id⟩
  have hheld : Device.heldCells { d with feed := f } = d.heldCells := by
    unfold Device.heldCells; rw [h]
  refine ⟨?_, hd.2⟩
  rw [hheld]
  exact hd.1

/-- One change before another. -/
theorem part_after {d e f : Device} (k : e.KeepsPart f) (h : d.KeepsPart e) : d.KeepsPart f := part_trans h k

theorem feedLaw_iff (f : Feed) : f.Law ↔
    f.cmds.length ≤ 16 ∧ f.replies.length ≤ 16 ∧ (f.cmds = [] ∨ f.replies.length = 16) ∧ f.OutLaw := by
  exact ⟨fun ⟨hc, hr, he, ho, hw, ht⟩ => ⟨hc, hr, hw, he, ho, ht⟩,
    fun ⟨hc, hr, hw, he, ho, ht⟩ => ⟨hc, hr, he, ho, hw, ht⟩⟩

theorem all_of_laws {d e : Device} (h : d.KeepsLaws e) : d.KeepsAll e := by
  refine ⟨part_of_laws h, fun hd => ?_⟩
  obtain ⟨hc, hr, hw, ho⟩ := (feedLaw_iff _).1 hd
  rw [feedLaw_iff, h.cmds, h.replies]
  exact ⟨hc, hr, hw, h.out ho⟩

theorem joinReply_law {f : Feed} (r : Reply) (hc : f.cmds.length ≤ 16) (hr : f.replies.length < 16)
    (hw : f.cmds = [] ∨ f.replies.length = 15) (ho : f.OutLaw) : (joinReply r f).Law := by
  unfold joinReply
  obtain ⟨-, -, hcmds, hreplies, -, -⟩ := feedAsk_keeps { f with replies := f.replies ++ [r] }
  rw [feedLaw_iff, hcmds, hreplies]
  refine ⟨hc, length_append_one hr r, ?_,
    feedAsk_outLaw ⟨ho.1, ho.2.1, fun t ht => ⟨fun _ => by simp, (ho.2.2 t ht).2⟩⟩⟩
  rcases hw with hw | hw
  · exact .inl hw
  · exact .inr (by simp [hw])

theorem part_answerCommand (q : QueuedCommand) (d : Device) : d.KeepsPart (answerCommand q d) :=
  part_trans (part_of_laws (laws_applyCommand q.cmd d)) (part_feed _ (feedAsk_keeps _).1)

/-- A taken command leaves no other waiting, or fills the reply queue (R195). -/
theorem feedLaw_answerCommand {q : QueuedCommand} {d : Device} (hc : d.feed.cmds.length ≤ 16)
    (hr : d.feed.replies.length < 16) (hw : d.feed.cmds = [] ∨ d.feed.replies.length = 15) (ho : d.feed.OutLaw) :
    (answerCommand q d).feed.Law := by
  have h := laws_applyCommand q.cmd d
  unfold answerCommand
  refine joinReply_law _ ?_ ?_ ?_ (h.out ho)
  · rw [h.cmds]; exact hc
  · rw [h.replies]; exact hr
  · rw [h.cmds, h.replies]; exact hw

theorem part_takeCommand (d : Device) : d.KeepsPart (takeCommand d) := by
  unfold takeCommand
  split
  case h_2 => exact part_of_laws (laws_refl d)
  case h_1 q rest _ =>
    split
    case isTrue => exact part_after (part_answerCommand q _) (part_feed d rfl)
    case isFalse => exact part_of_laws (laws_refl d)

/-- The command unit is asked where one command waits at most, or the reply queue has room for one reply at most. -/
theorem feedLaw_takeCommand {d : Device} (hc : d.feed.cmds.length ≤ 16) (hr : d.feed.replies.length ≤ 16)
    (hw : d.feed.cmds.length ≤ 1 ∨ 15 ≤ d.feed.replies.length) (ho : d.feed.OutLaw) : (takeCommand d).feed.Law := by
  unfold takeCommand
  split
  case h_2 hq => exact (feedLaw_iff _).2 ⟨hc, hr, .inl hq, ho⟩
  case h_1 q rest hq =>
    rw [hq] at hc hw
    simp only [List.length_cons] at hc hw
    split
    case isFalse hfull =>
      rw [Config.replyCapacity] at hfull
      exact (feedLaw_iff _).2 ⟨by rw [hq]; exact hc, hr, .inr (by omega), ho⟩
    case isTrue hroom =>
      rw [Config.replyCapacity] at hroom
      refine feedLaw_answerCommand (Nat.le_of_succ_le hc) hroom ?_ ho
      rcases hw with hw | hw
      · exact .inl (show rest = [] from List.length_eq_zero_iff.1 (by omega))
      · exact .inr (by simp only; omega)

theorem all_submit (q : QueuedCommand) (d : Device) : d.KeepsAll (submit q d) := by
  unfold submit
  split
  case isFalse => exact all_of_laws (laws_refl d)
  case isTrue =>
    split
    case isFalse => exact all_of_laws (laws_overrun _ _ _ d)
    case isTrue hroom =>
      rw [Config.commandCapacity] at hroom
      refine ⟨part_after (part_takeCommand _) (part_feed d rfl), fun hd => ?_⟩
      obtain ⟨hc, hr, hw, ho⟩ := (feedLaw_iff _).1 hd
      refine feedLaw_takeCommand (length_append_one hroom q) hr ?_ ho
      rcases hw with hw | hw
      · exact .inl (by simp [hw])
      · exact .inr (by simp only [hw]; decide)

theorem feedLaw_feedAsk {f : Feed} (h : f.Law) : (feedAsk f).Law := by
  obtain ⟨hc, hr, hw, ho⟩ := (feedLaw_iff _).1 h
  obtain ⟨-, -, hcmds, hreplies, -, -⟩ := feedAsk_keeps f
  rw [feedLaw_iff, hcmds, hreplies]
  exact ⟨hc, hr, hw, feedAsk_outLaw ho⟩

theorem all_feedAsk (d : Device) : d.KeepsAll { d with feed := feedAsk d.feed } :=
  ⟨part_feed d (feedAsk_keeps _).1, feedLaw_feedAsk⟩

theorem all_trans {d e f : Device} (h : d.KeepsAll e) (k : e.KeepsAll f) : d.KeepsAll f :=
  ⟨part_trans h.1 k.1, k.2 ∘ h.2⟩

/-- A frame that was sent leaves its queue; after a reply a waiting command is taken (R195, R199). -/
theorem all_sent (t : FeedTx) (d : Device) : d.KeepsAll
    (if t.source = .reply then takeCommand { d with feed := d.feed.sent t } else { d with feed := d.feed.sent t }) := by
  have hbuf : (d.feed.sent t).buffers = d.feed.buffers := by unfold Feed.sent; split <;> rfl
  split
  case isTrue hs =>
    refine ⟨part_after (part_takeCommand _) (part_feed d hbuf), fun hd => ?_⟩
    obtain ⟨hc, hr, hw, ho⟩ := (feedLaw_iff _).1 hd
    have hsent : d.feed.sent t = { d.feed with tx := none, replies := d.feed.replies.tail } := by
      unfold Feed.sent; rw [hs]
    rw [hsent]
    refine feedLaw_takeCommand hc (by simp only [List.length_tail]; omega) ?_ ⟨ho.1, ho.2.1, fun _ h => (by cases h)⟩
    rcases hw with hw | hw
    · exact .inl (by simp [hw])
    · exact .inr (by simp [hw])
  case isFalse hs =>
    refine ⟨part_feed d hbuf, fun hd => ?_⟩
    obtain ⟨hc, hr, hw, ho⟩ := (feedLaw_iff _).1 hd
    unfold Feed.sent
    split
    case h_1 h => exact absurd h hs
    case h_2 =>
      refine (feedLaw_iff _).2 ⟨hc, hr, hw, ?_, ho.2.1, fun _ h => (by cases h)⟩
      have hle := ho.1
      simp only [List.length_tail]
      omega
    case h_3 => exact (feedLaw_iff _).2 ⟨hc, hr, hw, ho.1, ho.2.1, fun _ h => (by cases h)⟩

theorem all_finishSent (t : FeedTx) (d : Device) : d.KeepsAll (finishSent t d) :=
  all_trans (all_sent t d) (all_feedAsk _)

theorem loseMark_cell (b : Buffer) : (if b = .receiving then Buffer.free else b).cell = b.cell := by
  split
  case isTrue h => rw [h]; rfl
  case isFalse => rfl

theorem laws_lose (d : Device) : d.KeepsLaws { d with feed := d.feed.lose } := by
  refine laws_feed d rfl rfl (fun ⟨he, ho, _⟩ => ⟨he, ho, fun _ h => (by cases h)⟩) ?_
  have hb : d.feed.lose.buffers = d.feed.buffers.map fun b => if b = .receiving then .free else b := rfl
  rw [hb, Vector.toList_map, List.filterMap_map]
  rw [show Buffer.cell ∘ (fun b => if b = .receiving then Buffer.free else b) = Buffer.cell from funext loseMark_cell]
  exact within_refl _

theorem all_regained (d : Device) : d.KeepsAll { d with feed := feedAsk { d.feed with linkUp := true } } :=
  all_trans (e := { d with feed := { d.feed with linkUp := true } }) ⟨part_feed d rfl, id⟩ (all_feedAsk _)

/-! ## Rows of the command table -/

theorem all_powerOnReset (d : Device) (n : Nat) : d.KeepsAll { Device.reset with free := n } :=
  ⟨⟨fun _ => reset_store_wf, fun _ => rangeLaw_reset, fun _ => ⟨Nat.zero_le _, List.nodup_nil⟩,
    fun _ => controlLaw_reset,
    fun _ => creditLaw_reset, fun _ => ⟨windowLaw_reset, linkLaw_reset⟩,
    fun _ => ⟨List.nodup_nil, fun v h => (by cases h), fun v h => (by cases h)⟩, fun _ => cellLaw_reset,
    fun _ => positionLaw_reset⟩, fun _ => feedLaw_reset⟩

/-- What a row answers: a next state in which only the part has changed, every law kept. -/
def Keeping (s : State) (o : Host.Outcome State Fault Refusal) : Prop :=
  ∃ e : Device, o = .next { s with dev := e } ∧ s.dev.KeepsAll e

theorem keeping_laws {s : State} {f : Device → Device} (h : s.dev.KeepsLaws (f s.dev)) : Keeping s (onDevice f s) :=
  ⟨f s.dev, rfl, all_of_laws h⟩

theorem keeping_command (tag : Byte) (c : Command) (s : State) : Keeping s (onCommand tag c s) :=
  ⟨_, rfl, all_submit _ _⟩

theorem laws_arbitrated {d e : Device} (h : d.KeepsLaws e) : d.KeepsLaws (arbitrate e) :=
    laws_trans h (laws_arbitrate e)

theorem laws_unless {c : Prop} [Decidable c] {d e : Device} (h : c → d.KeepsLaws e) :
    d.KeepsLaws (if c then e else d) := by
  split
  case isTrue hc => exact h hc
  case isFalse => exact laws_refl d

theorem keeping_arbitrated {f : Device → Device} (h : ∀ d : Device, d.KeepsLaws (f d)) (s : State) :
    Keeping s (onDevice (fun d => arbitrate (f d)) s) := keeping_laws (laws_arbitrated (h s.dev))

theorem keeping_ack (p : PortId) (f : ReturnFrame) (s : State) : Keeping s (execAck p f s) :=
  keeping_laws (laws_takeReturn (laws_takeAck _) _ _ p f _)

theorem keeping_miss (p : PortId) (f : ReturnFrame) (s : State) : Keeping s (execMiss p f s) :=
  keeping_laws (laws_takeReturn (laws_takeMiss _) _ _ p f _)

theorem keeping_ready (b : Bool) (kind : Byte) (p : PortId) (f : ReturnFrame) (s : State) :
    Keeping s (onDevice (takeReturn kind 0 p f (setReady b)) s) :=
  keeping_laws (laws_takeReturn (laws_setReady b) _ _ p f _)

theorem keeping_hello (p : PortId) (f : ReturnFrame) (s : State) : Keeping s (execHello p f s) := by
  refine keeping_laws ?_
  split
  case isFalse => exact laws_refl _
  case isTrue =>
    split
    case h_1 => exact laws_takeHello _ _ _
    case h_2 => exact laws_strayHello p _ _

theorem keeping_remake (p : PortId) (f : ReturnFrame) (s : State) : Keeping s (execRemake p f s) :=
  keeping_laws (laws_takeReturn (laws_takeRemake _ _) _ _ p f _)

theorem keeping_bandWriteComplete (b : Fin 4) (s : State) : Keeping s (execBandWriteComplete b s) := by
  refine keeping_laws ?_
  split
  case h_1 w hw =>
    split
    case isTrue => exact laws_refl _
    case isFalse => exact laws_arbitrated (laws_finishNewBand hw)
  all_goals exact laws_refl _

theorem keeping_repairWriteComplete (b : Fin 4) (s : State) : Keeping s (execRepairWriteComplete b s) := by
  refine keeping_laws ?_
  split
  case h_1 w hw => exact laws_unless fun _ => laws_arbitrated (laws_endRepair hw)
  all_goals exact laws_refl _

theorem keeping_preparationComplete (s : State) : Keeping s (execPreparationComplete s) := by
  refine keeping_laws ?_
  split
  case h_1 p hp => exact laws_arbitrated (laws_trans (laws_completePreparation hp) (laws_finishEnded _))
  case h_2 => exact laws_refl _

theorem keeping_uncorrectableRead (s : State) : Keeping s (execUncorrectableRead s) := by
  refine keeping_laws ?_
  split
  case h_2 => exact laws_refl _
  case h_1 p hp =>
    unfold uncorrectable
    split
    case h_1 j _ => exact laws_arbitrated (laws_trans (laws_failRead p j _) (laws_finishEnded _))
    all_goals exact laws_refl _

theorem keeping_transmissionEnd (p : PortId) (s : State) : Keeping s (execTransmissionEnd p s) := by
  refine keeping_laws ?_
  split
  case h_1 t _ => exact laws_arbitrated (laws_endTransmission p t _)
  case h_2 => exact laws_refl _

theorem keeping_ackTimerExpiry (i : SiteId) (s : State) : Keeping s (execAckTimerExpiry i s) := by
  refine keeping_laws (laws_unless fun h => laws_arbitrated (laws_expireAck fun hs => ?_))
  rw [hs] at h
  cases h

theorem keeping_gapTimerExpiry (i : SiteId) (s : State) : Keeping s (execGapTimerExpiry i s) :=
  keeping_laws (laws_unless fun _ => laws_arbitrated (laws_expireGap i _))

theorem keeping_probeTimerExpiry (i : SiteId) (s : State) : Keeping s (execProbeTimerExpiry i s) :=
  keeping_laws (laws_unless fun h => laws_arbitrated (laws_expireProbe h))

theorem keeping_gateTimerExpiry (i : SiteId) (s : State) : Keeping s (execGateTimerExpiry i s) :=
  keeping_laws (laws_unless fun _ => laws_arbitrated (laws_expireGate i _))

theorem keeping_bandFrameArrivalBegins (s : State) : Keeping s (execBandFrameArrivalBegins s) :=
  keeping_laws (laws_unless fun _ => laws_beginArrival _)

theorem keeping_bandFrame (f : FeedFrame) (s : State) : Keeping s (execBandFrame f s) :=
  keeping_laws (laws_unless fun _ => laws_takeArrival f _)

theorem keeping_commandFrame (f : FeedFrame) (s : State) : Keeping s (execCommandFrame f s) := by
  refine ⟨_, rfl, ?_⟩
  split
  case isTrue => exact all_submit _ _
  case isFalse => exact all_of_laws (laws_refl _)

theorem keeping_feedFrameSent (s : State) : Keeping s (execFeedFrameSent s) := by
  refine ⟨_, rfl, ?_⟩
  simp only
  split
  case h_1 t _ => exact all_finishSent t _
  case h_2 => exact all_of_laws (laws_refl _)

/-- Every command keeps every law. -/
theorem exec_keeping (c : Instr) (s : State) : Keeping s (exec c s) := by
  cases c with
  | powerOnReset => exact ⟨{ Device.reset with free := s.dev.free }, rfl, all_powerOnReset _ _⟩
  | tick1ms => exact keeping_arbitrated laws_tick1 s
  | tick10ms => exact keeping_arbitrated laws_tick10 s
  | tick100ms => exact keeping_arbitrated laws_tick100 s
  | periodEnd p => exact keeping_arbitrated (laws_endPeriod p) s
  | gapTimerExpiry i => exact keeping_gapTimerExpiry i s
  | ackTimerExpiry i => exact keeping_ackTimerExpiry i s
  | probeTimerExpiry i => exact keeping_probeTimerExpiry i s
  | gateTimerExpiry i => exact keeping_gateTimerExpiry i s
  | bandFrameArrivalBegins => exact keeping_bandFrameArrivalBegins s
  | bandFrame f => exact keeping_bandFrame f s
  | commandFrame f => exact keeping_commandFrame f s
  | feedLinkLost => exact keeping_laws (f := fun d => { d with feed := d.feed.lose }) (laws_lose s.dev)
  | feedLinkRegained => exact ⟨{ s.dev with feed := feedAsk { s.dev.feed with linkUp := true } }, rfl,
    all_regained s.dev⟩
  | feedFrameSent => exact keeping_feedFrameSent s
  | bandWriteComplete b => exact keeping_bandWriteComplete b s
  | repairWriteComplete b => exact keeping_repairWriteComplete b s
  | preparationComplete => exact keeping_preparationComplete s
  | uncorrectableRead => exact keeping_uncorrectableRead s
  | transmissionEnd p => exact keeping_transmissionEnd p s
  | ack p f => exact keeping_ack p f s
  | miss p f => exact keeping_miss p f s
  | pause p f => exact keeping_ready false _ p f s
  | resumeFrame p f => exact keeping_ready true _ p f s
  | hello p f => exact keeping_hello p f s
  | remake p f => exact keeping_remake p f s
  | _ => exact keeping_command _ _ s

/-- Every step keeps every law; one with no command waiting changes nothing (log 2). -/
theorem step_keepsAll {s t : State} (h : step s = .next t) : s.dev.KeepsAll t.dev := by
  unfold step at h
  split at h
  case h_1 =>
    obtain rfl := Host.Outcome.next.inj h
    exact all_of_laws (laws_refl _)
  case h_2 c rest _ =>
    obtain ⟨e, he, hk⟩ := exec_keeping c { s with pending := rest }
    obtain rfl := Host.Outcome.next.inj (he.symm.trans h)
    exact hk

/-- Settles O1: every row answers a next state in which only the part has changed. -/
theorem stepTakesTheFrontCommand : Obligations.StepTakesTheFrontCommand := fun c rest d => by
  obtain ⟨e, he, -⟩ := exec_keeping c { pending := rest, dev := d }
  exact ⟨rfl, rfl, e, he⟩

/-- Settles O53: writes insert in order and drop a byte that reads as an unlisted one does. -/
theorem everyStepKeepsTheStoreCanonical : Obligations.EveryStepKeepsTheStoreCanonical :=
  fun _ _ hs h => (step_keepsAll h).1.store hs

/-- Settles O54: every value is clamped, checked or counted modulo its range where it is set. -/
theorem everyStepKeepsTheRanges : Obligations.EveryStepKeepsTheRanges := fun _ _ hs h => (step_keepsAll h).1.range hs

/-- Settles O55: every queue is asked for room before it grows, and a waiting command is taken as a reply leaves. -/
theorem everyStepKeepsTheCapacities : Obligations.EveryStepKeepsTheCapacities := fun _ _ ⟨hf, ht, hc⟩ h =>
  ⟨(step_keepsAll h).2 hf, (step_keepsAll h).1.table ht, (step_keepsAll h).1.control hc⟩

/-- Settles O56: a block of 32 800 bytes at most is sent only on a credit above 0, and a refill stops at E_cur. -/
theorem everyStepKeepsTheCreditLaw : Obligations.EveryStepKeepsTheCreditLaw :=
  fun _ _ hs h => (step_keepsAll h).1.credit hs

/-- Settles O57: a block is prepared only where there is room, and joins with next seq; a timer runs only in its link
state. -/
theorem everyStepKeepsTheWindowLaw : Obligations.EveryStepKeepsTheWindowLaw :=
  fun _ _ hs h => (step_keepsAll h).1.window hs

/-- Settles O58: a write begins in a cell that is free, and records the cell its buffer hands back. -/
theorem everyStepKeepsTheCellLaw : Obligations.EveryStepKeepsTheCellLaw := fun _ _ hs h => (step_keepsAll h).1.cell hs

/-- Settles O59: an enqueue is made where the position is absent, or after the displacement of its rivals. -/
theorem everyStepKeepsThePositionLaw : Obligations.EveryStepKeepsThePositionLaw :=
  fun _ _ hs h => (step_keepsAll h).1.position hs

/-- Settles O60: a version becomes APPROVED only with a matching approval, and its digest then stands. -/
theorem everyStepKeepsTheApprovalLaw : Obligations.EveryStepKeepsTheApprovalLaw :=
  fun _ _ hs h => (step_keepsAll h).1.approval hs

end Sys2Proof.Machine
end

section
/-!
SUPPORT. The command table of R207 as a codec. Each reader of a payload's rest is the inverse of the writer of the
field it reads, stated as an equivalence, so that a command's reader is the inverse of `Command.fields`.
-/

namespace Sys2Proof.Machine
open Sys2Proof.Laws

/-! ## Fields -/

theorem halfBytes_append (a b : Byte) : halfBytes (a ++ b) = [a, b] :=
  congr (congrArg (fun x y => [x, y]) BitVec.extractLsb'_append_eq_left) BitVec.extractLsb'_append_eq_right

theorem append_halfBytes (h : Half) : h.extractLsb' 8 8 ++ h.extractLsb' 0 8 = h := by
  rw [BitVec.extractLsb'_append_extractLsb'_eq_extractLsb' (by rfl)]
  exact BitVec.extractLsb'_eq_self

theorem getByte_iff {r l : List Byte} {b : Byte} : getByte r = some (b, l) ↔ r = b :: l := by
  cases r with
  | nil => simp [getByte]
  | cons a r => simp [getByte]

theorem getHalf_iff {r l : List Byte} {h : Half} : getHalf r = some (h, l) ↔ r = halfBytes h ++ l := by
  match r with
  | [] => simp [getHalf, halfBytes]
  | [a] => simp [getHalf, halfBytes]
  | a :: b :: r =>
    simp only [getHalf, Option.some.injEq, Prod.mk.injEq]
    constructor
    · rintro ⟨rfl, rfl⟩
      rw [halfBytes_append]; rfl
    · intro e
      simp only [halfBytes, List.cons_append, List.nil_append, List.cons.injEq] at e
      obtain ⟨rfl, rfl, rfl⟩ := e
      exact ⟨append_halfBytes h, rfl⟩

theorem wordBytes_append (a b c d : Byte) : wordBytes (a ++ b ++ c ++ d) = [a, b, c, d] := by
  have ha : (a ++ b ++ c ++ d).extractLsb' 24 8 = a := by
    rw [BitVec.extractLsb'_append_eq_of_le (by decide), BitVec.extractLsb'_append_eq_of_le (by decide)]
    exact BitVec.extractLsb'_append_eq_left
  have hb : (a ++ b ++ c ++ d).extractLsb' 16 8 = b := by
    rw [BitVec.extractLsb'_append_eq_of_le (by decide), BitVec.extractLsb'_append_eq_of_le (by decide)]
    exact BitVec.extractLsb'_append_eq_right
  have hc : (a ++ b ++ c ++ d).extractLsb' 8 8 = c := by
    rw [BitVec.extractLsb'_append_eq_of_le (by decide)]
    exact BitVec.extractLsb'_append_eq_right
  have hd : (a ++ b ++ c ++ d).extractLsb' 0 8 = d := BitVec.extractLsb'_append_eq_right
  rw [wordBytes, ha, hb, hc, hd]

theorem append_wordBytes (w : Word) :
    w.extractLsb' 24 8 ++ w.extractLsb' 16 8 ++ w.extractLsb' 8 8 ++ w.extractLsb' 0 8 = w := by
  rw [BitVec.extractLsb'_append_extractLsb'_eq_extractLsb' (by rfl),
    BitVec.extractLsb'_append_extractLsb'_eq_extractLsb' (by rfl),
    BitVec.extractLsb'_append_extractLsb'_eq_extractLsb' (by rfl)]
  exact BitVec.extractLsb'_eq_self

theorem getWord_iff {r l : List Byte} {w : Word} : getWord r = some (w, l) ↔ r = wordBytes w ++ l := by
  match r with
  | [] => simp [getWord, wordBytes]
  | [a] => simp [getWord, wordBytes]
  | [a, b] => simp [getWord, wordBytes]
  | [a, b, c] => simp [getWord, wordBytes]
  | a :: b :: c :: d :: r =>
    simp only [getWord, Option.some.injEq, Prod.mk.injEq]
    constructor
    · rintro ⟨rfl, rfl⟩
      rw [wordBytes_append]; rfl
    · intro e
      simp only [wordBytes, List.cons_append, List.nil_append, List.cons.injEq] at e
      obtain ⟨rfl, rfl, rfl, rfl, rfl⟩ := e
      exact ⟨append_wordBytes w, rfl⟩

theorem append_nibbles (a : Byte) : a.extractLsb' 4 4 ++ a.extractLsb' 0 4 = a := by
  rw [BitVec.extractLsb'_append_extractLsb'_eq_extractLsb' (by rfl)]
  exact BitVec.extractLsb'_eq_self

theorem getKey_iff {r l : List Byte} {k : KeyField} : getKey r = some (k, l) ↔ r = k.bytes ++ l := by
  match r with
  | [] => simp [getKey, KeyField.bytes]
  | [a] => simp [getKey, KeyField.bytes]
  | [a, b] => simp [getKey, KeyField.bytes]
  | [a, b, c] => simp [getKey, KeyField.bytes]
  | a :: b :: c :: d :: r =>
    obtain ⟨edition, version, sect, page, zone⟩ := k
    simp only [getKey, KeyField.bytes, Option.some.injEq, Prod.mk.injEq, KeyField.mk.injEq, List.cons_append,
      List.nil_append, List.cons.injEq]
    constructor
    · rintro ⟨⟨rfl, rfl, rfl, rfl, rfl⟩, rfl⟩
      exact ⟨(append_nibbles a).symm, rfl, rfl, rfl, rfl⟩
    · rintro ⟨rfl, rfl, rfl, rfl, rfl⟩
      exact ⟨⟨BitVec.extractLsb'_append_eq_left, BitVec.extractLsb'_append_eq_right, rfl, rfl, rfl⟩, rfl⟩

theorem getHalves_iff {n : Nat} {r l : List Byte} {hs : List Half} :
    getHalves n r = some (hs, l) ↔ hs.length = n ∧ r = halvesBytes hs ++ l := by
  induction n generalizing r hs with
  | zero =>
    simp only [getHalves, Option.some.injEq, Prod.mk.injEq, List.length_eq_zero_iff]
    constructor
    · rintro ⟨rfl, rfl⟩
      exact ⟨rfl, rfl⟩
    · rintro ⟨rfl, rfl⟩
      exact ⟨rfl, rfl⟩
  | succ n ih =>
    simp only [getHalves, Option.bind_eq_some_iff, Option.map_eq_some_iff, Prod.exists, Prod.mk.injEq, getHalf_iff]
    constructor
    · rintro ⟨h, _, rfl, hs, _, htail, rfl, rfl⟩
      obtain ⟨rfl, rfl⟩ := ih.1 htail
      exact ⟨rfl, by simp [halvesBytes]⟩
    · rintro ⟨hn, rfl⟩
      cases hs with
      | nil => cases hn
      | cons h hs =>
        exact ⟨h, halvesBytes hs ++ l, by simp [halvesBytes], hs, l, ih.2 ⟨by simpa using hn, rfl⟩, rfl, rfl⟩

theorem tableOf_iff {α : Type} {n : Nat} {l : List α} {v : Vector α n} : tableOf n l = some v ↔ l = v.toList := by
  unfold tableOf
  constructor
  · intro h
    split at h
    · cases h; simp
    · cases h
  · rintro rfl
    simp [Vector.toList]

theorem getTable_iff {n : Nat} {r l : List Byte} {v : Vector Half n} :
    getTable n r = some (v, l) ↔ r = halvesBytes v.toList ++ l := by
  simp only [getTable, Option.bind_eq_some_iff, Option.map_eq_some_iff, Prod.exists, Prod.mk.injEq, getHalves_iff,
    tableOf_iff]
  constructor
  · rintro ⟨_, _, ⟨_, rfl⟩, _, rfl, rfl, rfl⟩
    rfl
  · rintro rfl
    exact ⟨v.toList, l, ⟨by simp, rfl⟩, v, rfl, rfl, rfl⟩

theorem ended_iff {α : Type} {x y : α} {r : List Byte} : ended x r = some y ↔ r = [] ∧ x = y := by
  cases r <;> simp [ended]

/-! ## Reading what a command writes -/

theorem bind_of_some {α β : Type} {g : Option (α × List Byte)} {f : α × List Byte → Option β} {x : α} {l : List Byte}
    {c : β} (hg : g = some (x, l)) (hf : f (x, l) = some c) : g.bind f = some c := by
  rw [hg]; exact hf

theorem some_of_bind {α β : Type} {g : Option (α × List Byte)} {f : α × List Byte → Option β} {c : β}
    (h : g.bind f = some c) : ∃ (x : α) (l : List Byte), g = some (x, l) ∧ f (x, l) = some c := by
  obtain ⟨⟨x, l⟩, hg, hf⟩ := Option.bind_eq_some_iff.1 h
  exact ⟨x, l, hg, hf⟩

@[simp] theorem getHalf_halfBytes (h : Half) (l : List Byte) : getHalf (halfBytes h ++ l) = some (h, l) :=
  getHalf_iff.2 rfl

@[simp] theorem getWord_wordBytes (w : Word) (l : List Byte) : getWord (wordBytes w ++ l) = some (w, l) :=
  getWord_iff.2 rfl

@[simp] theorem getKey_bytes (k : KeyField) (l : List Byte) : getKey (k.bytes ++ l) = some (k, l) := getKey_iff.2 rfl

@[simp] theorem getTable_halvesBytes {n : Nat} (v : Vector Half n) (l : List Byte) :
    getTable n (halvesBytes v.toList ++ l) = some (v, l) := getTable_iff.2 rfl

/-- A field at the end of a payload is read like one with nothing after it. -/
theorem getHalf_last (h : Half) : getHalf (halfBytes h) = some (h, []) := getHalf_iff.2 (List.append_nil _).symm

theorem getWord_last (w : Word) : getWord (wordBytes w) = some (w, []) := getWord_iff.2 (List.append_nil _).symm

theorem getKey_last (k : KeyField) : getKey k.bytes = some (k, []) := getKey_iff.2 (List.append_nil _).symm

theorem getTable_last {n : Nat} (v : Vector Half n) : getTable n (halvesBytes v.toList) = some (v, []) :=
  getTable_iff.2 (List.append_nil _).symm

theorem readOpenPage_fields (a : OpenPageArgs) :
    readOpenPage (Command.openPage a).fields = some (.openPage a) := by
  simp [readOpenPage, Command.fields, getByte, getWord_last, ended]

theorem readApprove_fields (a : ApproveArgs) : readApprove (Command.approve a).fields = some (.approve a) := by
  simp [readApprove, Command.fields, getByte, getWord_last, ended]

theorem readSetPlan_fields (edition : Byte) (entries : Vector Byte 8) :
    readSetPlan (Command.setPlan edition entries).fields = some (.setPlan edition entries) := by
  simp [readSetPlan, Command.fields, getByte, tableOf_iff.2 (rfl : entries.toList = _)]

theorem readDefineArea_fields (a : DefineAreaArgs) :
    readDefineArea (Command.defineArea a).fields = some (.defineArea a) := by
  have hm : (a.mtch ++ a.mask).extractLsb' 4 4 = a.mtch := BitVec.extractLsb'_append_eq_left
  have hk : (a.mtch ++ a.mask).extractLsb' 0 4 = a.mask := BitVec.extractLsb'_append_eq_right
  simp [readDefineArea, Command.fields, getByte, ended, hm, hk]

theorem readSetSite_fields (a : SetSiteArgs) : readSetSite (Command.setSite a).fields = some (.setSite a) := by
  have half : ∀ (h : Half) (l : List Byte), getHalf (halfBytes h ++ l) = some (h, l) := getHalf_halfBytes
  unfold readSetSite Command.fields
  exact bind_of_some rfl <| bind_of_some (half _ _) <| bind_of_some (half _ _) <| bind_of_some rfl <|
    bind_of_some (half _ _) <| bind_of_some (half _ _) <| bind_of_some (half _ _) <| bind_of_some (half _ _) <|
    bind_of_some (half _ _) <| bind_of_some (half _ _) <| bind_of_some rfl <|
    bind_of_some (getTable_halvesBytes a.gains _) <| bind_of_some (half _ _) <| bind_of_some (half _ _) rfl

theorem readSetGroupTarget_fields (a : SetGroupTargetArgs) :
    readSetGroupTarget (Command.setGroupTarget a).fields = some (.setGroupTarget a) := by
  simp [readSetGroupTarget, Command.fields, getByte, getTable_last, ended]

theorem readSetSiteTarget_fields (a : SetSiteTargetArgs) :
    readSetSiteTarget (Command.setSiteTarget a).fields = some (.setSiteTarget a) := by
  simp [readSetSiteTarget, Command.fields, getByte, getHalf_last, ended]

/-- Every formed command's reader reads its fields back. -/
theorem readFields_fields {c : Command} (hc : c.isFormed = true) : readFields c.code c.fields = some c := by
  cases c with
  | openPage a => exact readOpenPage_fields a
  | approve a => exact readApprove_fields a
  | withdraw key flags => show readWithdraw _ = _; simp [readWithdraw, Command.fields, getByte, ended]
  | purge key => show readPurge _ = _; simp [readPurge, Command.fields, getKey_last, ended]
  | sendPage key site => show readSendPage _ = _; simp [readSendPage, Command.fields, getByte, ended]
  | setPlan edition entries => exact readSetPlan_fields edition entries
  | holdEdition edition => rfl
  | openEdition edition => rfl
  | setClock count => show readSetClock _ = _; simp [readSetClock, Command.fields, getWord_last, ended]
  | defineArea a => exact readDefineArea_fields a
  | setSite a => exact readSetSite_fields a
  | enableSite site => rfl
  | disableSite site => rfl
  | resumeSite site => rfl
  | setAllotment site allotment =>
    show readSetAllotment _ = _; simp [readSetAllotment, Command.fields, getByte, getWord_last, ended]
  | setPort port period => show readSetPort _ = _; simp [readSetPort, Command.fields, getByte, getHalf_last, ended]
  | loadCurve site sep knots =>
    show readLoadCurve _ = _; simp [readLoadCurve, Command.fields, getByte, getTable_last, ended]
  | armCurves site stock flags => rfl
  | setGroupTarget a => exact readSetGroupTarget_fields a
  | setSiteTarget a => exact readSetSiteTarget_fields a
  | quiesce => rfl
  | resume => rfl
  | dayReset => rfl
  | queryPage key =>
    show (getKey key.bytes).bind (fun p => ended (Command.queryPage p.1) p.2) = _; simp [getKey_last, ended]
  | querySite site => rfl
  | queryArea area => rfl
  | queryDevice => rfl
  | readCurve site => rfl
  | malformed code => cases hc

/-! ## Only what a command writes is read as it -/

/-- The payload of code `code` and rest `r` is that of the command `c`. -/
def Spelt (code : Byte) (r : List Byte) (c : Command) : Prop :=
  c.isFormed = true ∧ c.code = code ∧ c.fields = r

theorem readOpenPage_spelt {r : List Byte} {c : Command} (h : readOpenPage r = some c) : Spelt 0x01 r c := by
  simp only [readOpenPage, Option.bind_eq_bind, Option.bind_eq_some_iff, Prod.exists, getKey_iff, getHalf_iff,
    getByte_iff, getWord_iff, ended_iff] at h
  obtain ⟨key, _, rfl, width, _, rfl, height, _, rfl, seps, _, rfl, flags, _, rfl, at_, _, rfl, latest, _, rfl, rfl,
    rfl⟩ := h
  exact ⟨rfl, rfl, by simp [Command.fields]⟩

theorem readApprove_spelt {r : List Byte} {c : Command} (h : readApprove r = some c) : Spelt 0x02 r c := by
  simp only [readApprove, Option.bind_eq_bind, Option.bind_eq_some_iff, Prod.exists, getKey_iff, getByte_iff,
    getWord_iff, ended_iff] at h
  obtain ⟨key, _, rfl, station, _, rfl, expected, _, rfl, rfl, rfl⟩ := h
  exact ⟨rfl, rfl, by simp [Command.fields]⟩

theorem readWithdraw_spelt {r : List Byte} {c : Command} (h : readWithdraw r = some c) : Spelt 0x03 r c := by
  simp only [readWithdraw, Option.bind_eq_bind, Option.bind_eq_some_iff, Prod.exists, getKey_iff, getByte_iff,
    ended_iff] at h
  obtain ⟨key, _, rfl, flags, _, rfl, rfl, rfl⟩ := h
  exact ⟨rfl, rfl, rfl⟩

theorem readPurge_spelt {r : List Byte} {c : Command} (h : readPurge r = some c) : Spelt 0x04 r c := by
  simp only [readPurge, Option.bind_eq_bind, Option.bind_eq_some_iff, Prod.exists, getKey_iff, ended_iff] at h
  obtain ⟨key, _, rfl, rfl, rfl⟩ := h
  exact ⟨rfl, rfl, by simp [Command.fields]⟩

theorem readSendPage_spelt {r : List Byte} {c : Command} (h : readSendPage r = some c) : Spelt 0x05 r c := by
  simp only [readSendPage, Option.bind_eq_bind, Option.bind_eq_some_iff, Prod.exists, getKey_iff, getByte_iff,
    ended_iff] at h
  obtain ⟨key, _, rfl, site, _, rfl, rfl, rfl⟩ := h
  exact ⟨rfl, rfl, rfl⟩

theorem readSetPlan_spelt {r : List Byte} {c : Command} (h : readSetPlan r = some c) : Spelt 0x10 r c := by
  simp only [readSetPlan, Option.bind_eq_bind, Option.bind_eq_some_iff, Option.map_eq_some_iff, Prod.exists,
    getByte_iff, tableOf_iff] at h
  obtain ⟨edition, _, rfl, entries, rfl, rfl⟩ := h
  exact ⟨rfl, rfl, rfl⟩

/-- A command of one byte field, whichever it is. -/
theorem readByteCommand_spelt {make : Byte → Command} {code : Byte} {r : List Byte} {c : Command}
    (hm : ∀ b : Byte, Spelt code [b] (make b)) (h : readByteCommand make r = some c) : Spelt code r c := by
  simp only [readByteCommand, Option.bind_eq_bind, Option.bind_eq_some_iff, Prod.exists, getByte_iff, ended_iff] at h
  obtain ⟨b, _, rfl, rfl, rfl⟩ := h
  exact hm b

theorem readSetClock_spelt {r : List Byte} {c : Command} (h : readSetClock r = some c) : Spelt 0x13 r c := by
  simp only [readSetClock, Option.bind_eq_bind, Option.bind_eq_some_iff, Prod.exists, getWord_iff, ended_iff] at h
  obtain ⟨count, _, rfl, rfl, rfl⟩ := h
  exact ⟨rfl, rfl, by simp [Command.fields]⟩

theorem readDefineArea_spelt {r : List Byte} {c : Command} (h : readDefineArea r = some c) : Spelt 0x18 r c := by
  simp only [readDefineArea, Option.bind_eq_bind, Option.bind_eq_some_iff, Prod.exists, getHalf_iff, getByte_iff,
    ended_iff] at h
  obtain ⟨area, _, rfl, flags, _, rfl, base, _, rfl, length, _, rfl, m, _, rfl, rfl, rfl⟩ := h
  exact ⟨rfl, rfl, by simp only [Command.fields, append_nibbles]⟩

theorem readSetSite_spelt {r : List Byte} {c : Command} (h : readSetSite r = some c) : Spelt 0x20 r c := by
  obtain ⟨site, r0, h0, h⟩ := some_of_bind h
  obtain ⟨code, r1, h1, h⟩ := some_of_bind h
  obtain ⟨port, r2, h2, h⟩ := some_of_bind h
  obtain ⟨flow, r3, h3, h⟩ := some_of_bind h
  obtain ⟨gap, r4, h4, h⟩ := some_of_bind h
  obtain ⟨ack, r5, h5, h⟩ := some_of_bind h
  obtain ⟨retry, r6, h6, h⟩ := some_of_bind h
  obtain ⟨high, r7, h7, h⟩ := some_of_bind h
  obtain ⟨low, r8, h8, h⟩ := some_of_bind h
  obtain ⟨gate, r9, h9, h⟩ := some_of_bind h
  obtain ⟨mask, r10, h10, h⟩ := some_of_bind h
  obtain ⟨gains, r11, h11, h⟩ := some_of_bind h
  obtain ⟨minDot, r12, h12, h⟩ := some_of_bind h
  obtain ⟨maxDot, r13, h13, h⟩ := some_of_bind h
  obtain ⟨solid, r14, h14, h⟩ := some_of_bind h
  obtain ⟨rfl, rfl⟩ := ended_iff.1 h
  rw [getByte_iff] at h0 h3 h10 h14
  rw [getHalf_iff] at h1 h2 h4 h5 h6 h7 h8 h9 h12 h13
  rw [getTable_iff] at h11
  subst h14 h13 h12 h11 h10 h9 h8 h7 h6 h5 h4 h3 h2 h1 h0
  exact ⟨rfl, rfl, rfl⟩

theorem readSetAllotment_spelt {r : List Byte} {c : Command} (h : readSetAllotment r = some c) : Spelt 0x24 r c := by
  simp only [readSetAllotment, Option.bind_eq_bind, Option.bind_eq_some_iff, Prod.exists, getByte_iff, getWord_iff,
    ended_iff] at h
  obtain ⟨site, _, rfl, allotment, _, rfl, rfl, rfl⟩ := h
  exact ⟨rfl, rfl, by simp [Command.fields]⟩

theorem readSetPort_spelt {r : List Byte} {c : Command} (h : readSetPort r = some c) : Spelt 0x28 r c := by
  simp only [readSetPort, Option.bind_eq_bind, Option.bind_eq_some_iff, Prod.exists, getByte_iff, getHalf_iff,
    ended_iff] at h
  obtain ⟨port, _, rfl, period, _, rfl, rfl, rfl⟩ := h
  exact ⟨rfl, rfl, by simp [Command.fields]⟩

theorem readLoadCurve_spelt {r : List Byte} {c : Command} (h : readLoadCurve r = some c) : Spelt 0x30 r c := by
  simp only [readLoadCurve, Option.bind_eq_bind, Option.bind_eq_some_iff, Prod.exists, getByte_iff, getTable_iff,
    ended_iff] at h
  obtain ⟨site, _, rfl, sep, _, rfl, knots, _, rfl, rfl, rfl⟩ := h
  exact ⟨rfl, rfl, by simp [Command.fields]⟩

theorem readArmCurves_spelt {r : List Byte} {c : Command} (h : readArmCurves r = some c) : Spelt 0x31 r c := by
  simp only [readArmCurves, Option.bind_eq_bind, Option.bind_eq_some_iff, Prod.exists, getByte_iff, ended_iff] at h
  obtain ⟨site, _, rfl, stock, _, rfl, flags, _, rfl, rfl, rfl⟩ := h
  exact ⟨rfl, rfl, rfl⟩

theorem readSetGroupTarget_spelt {r : List Byte} {c : Command} (h : readSetGroupTarget r = some c) :
    Spelt 0x38 r c := by
  simp only [readSetGroupTarget, Option.bind_eq_bind, Option.bind_eq_some_iff, Prod.exists, getByte_iff, getTable_iff,
    ended_iff] at h
  obtain ⟨stock, _, rfl, density, _, rfl, tvi, _, rfl, rfl, rfl⟩ := h
  exact ⟨rfl, rfl, by simp [Command.fields]⟩

theorem readSetSiteTarget_spelt {r : List Byte} {c : Command} (h : readSetSiteTarget r = some c) :
    Spelt 0x39 r c := by
  simp only [readSetSiteTarget, Option.bind_eq_bind, Option.bind_eq_some_iff, Prod.exists, getByte_iff, getHalf_iff,
    getTable_iff, ended_iff] at h
  obtain ⟨site, _, rfl, stock, _, rfl, density, _, rfl, tvi, _, rfl, low, _, rfl, high, _, rfl, rfl, rfl⟩ := h
  exact ⟨rfl, rfl, by simp [Command.fields]⟩

/-- A command with no fields. -/
theorem ended_spelt {x c : Command} {code : Byte} {r : List Byte} (hx : Spelt code [] x) (h : ended x r = some c) :
    Spelt code r c := by
  obtain ⟨rfl, rfl⟩ := ended_iff.1 h
  exact hx

theorem readQueryPage_spelt {r : List Byte} {c : Command}
    (h : ((getKey r).bind fun p => ended (Command.queryPage p.1) p.2) = some c) : Spelt 0x48 r c := by
  simp only [Option.bind_eq_some_iff, Prod.exists, getKey_iff, ended_iff] at h
  obtain ⟨key, _, rfl, rfl, rfl⟩ := h
  exact ⟨rfl, rfl, by simp [Command.fields]⟩

/-- A reader chosen by its code, or one of those after it. -/
theorem some_of_ite {p : Prop} [Decidable p] {α : Type} {a b : Option α} {c : α}
    (h : (if p then a else b) = some c) : (p ∧ a = some c) ∨ b = some c := by
  split at h
  case isTrue hp => exact .inl ⟨hp, h⟩
  case isFalse => exact .inr h

theorem readFields_spelt {code : Byte} {r : List Byte} {c : Command} (h : readFields code r = some c) :
    Spelt code r c := by
  unfold readFields at h
  obtain ⟨rfl, h⟩ | h := some_of_ite h
  · exact readOpenPage_spelt h
  obtain ⟨rfl, h⟩ | h := some_of_ite h
  · exact readApprove_spelt h
  obtain ⟨rfl, h⟩ | h := some_of_ite h
  · exact readWithdraw_spelt h
  obtain ⟨rfl, h⟩ | h := some_of_ite h
  · exact readPurge_spelt h
  obtain ⟨rfl, h⟩ | h := some_of_ite h
  · exact readSendPage_spelt h
  obtain ⟨rfl, h⟩ | h := some_of_ite h
  · exact readSetPlan_spelt h
  obtain ⟨rfl, h⟩ | h := some_of_ite h
  · exact readByteCommand_spelt (fun _ => ⟨rfl, rfl, rfl⟩) h
  obtain ⟨rfl, h⟩ | h := some_of_ite h
  · exact readByteCommand_spelt (fun _ => ⟨rfl, rfl, rfl⟩) h
  obtain ⟨rfl, h⟩ | h := some_of_ite h
  · exact readSetClock_spelt h
  obtain ⟨rfl, h⟩ | h := some_of_ite h
  · exact readDefineArea_spelt h
  obtain ⟨rfl, h⟩ | h := some_of_ite h
  · exact readSetSite_spelt h
  obtain ⟨rfl, h⟩ | h := some_of_ite h
  · exact readByteCommand_spelt (fun _ => ⟨rfl, rfl, rfl⟩) h
  obtain ⟨rfl, h⟩ | h := some_of_ite h
  · exact readByteCommand_spelt (fun _ => ⟨rfl, rfl, rfl⟩) h
  obtain ⟨rfl, h⟩ | h := some_of_ite h
  · exact readByteCommand_spelt (fun _ => ⟨rfl, rfl, rfl⟩) h
  obtain ⟨rfl, h⟩ | h := some_of_ite h
  · exact readSetAllotment_spelt h
  obtain ⟨rfl, h⟩ | h := some_of_ite h
  · exact readSetPort_spelt h
  obtain ⟨rfl, h⟩ | h := some_of_ite h
  · exact readLoadCurve_spelt h
  obtain ⟨rfl, h⟩ | h := some_of_ite h
  · exact readArmCurves_spelt h
  obtain ⟨rfl, h⟩ | h := some_of_ite h
  · exact readSetGroupTarget_spelt h
  obtain ⟨rfl, h⟩ | h := some_of_ite h
  · exact readSetSiteTarget_spelt h
  obtain ⟨rfl, h⟩ | h := some_of_ite h
  · exact ended_spelt ⟨rfl, rfl, rfl⟩ h
  obtain ⟨rfl, h⟩ | h := some_of_ite h
  · exact ended_spelt ⟨rfl, rfl, rfl⟩ h
  obtain ⟨rfl, h⟩ | h := some_of_ite h
  · exact ended_spelt ⟨rfl, rfl, rfl⟩ h
  obtain ⟨rfl, h⟩ | h := some_of_ite h
  · exact readQueryPage_spelt h
  obtain ⟨rfl, h⟩ | h := some_of_ite h
  · exact readByteCommand_spelt (fun _ => ⟨rfl, rfl, rfl⟩) h
  obtain ⟨rfl, h⟩ | h := some_of_ite h
  · exact readByteCommand_spelt (fun _ => ⟨rfl, rfl, rfl⟩) h
  obtain ⟨rfl, h⟩ | h := some_of_ite h
  · exact ended_spelt ⟨rfl, rfl, rfl⟩ h
  obtain ⟨rfl, h⟩ | h := some_of_ite h
  · exact readByteCommand_spelt (fun _ => ⟨rfl, rfl, rfl⟩) h
  cases h

theorem parseCommand_encode {c : Command} (hc : c.isFormed = true) : parseCommand c.encode = c := by
  simp only [Command.encode, parseCommand, readFields_fields hc, Option.getD_some]

theorem encode_parseCommand {p : List Byte} (hp : (parseCommand p).isFormed = true) : (parseCommand p).encode = p := by
  cases p with
  | nil => cases hp
  | cons code r =>
    simp only [parseCommand] at hp ⊢
    cases hr : readFields code r with
    | none => rw [hr] at hp; cases hp
    | some c =>
      obtain ⟨_, hcode, hfields⟩ := readFields_spelt hr
      rw [Option.getD_some, Command.encode, hcode, hfields]

/-- Settles O3: each reader is the inverse of the writer of its field, in both directions. -/
theorem commandPayloadsRoundTrip : Obligations.CommandPayloadsRoundTrip := by
  unfold Obligations.CommandPayloadsRoundTrip
  exact ⟨fun _ hc => parseCommand_encode hc, fun _ hp => encode_parseCommand hp⟩

end Sys2Proof.Machine
end

section
/-!
SUPPORT. The feed port's rows, the refusals of commands, the return frames that have no effect, the reset values and
the arithmetic of reached times.
-/

namespace Sys2Proof.Machine
open Sys2Proof.Laws

/-! ## Times of night (R54) -/

theorem reached_iff (c : Clock) (t : Nat) :
    c.reached t = true ↔ c.unset = false ∧ (c.count + 864000 - t) % 864000 < 432000 := by
  rw [Clock.reached, Bool.and_eq_true, Bool.not_eq_true', decide_eq_true_iff]
  exact Iff.rfl

/-- Settles O49: the horizon is half the day, so the distance from the time to the count decides. -/
theorem timesAreReachedUnderTheHorizon : Obligations.TimesAreReachedUnderTheHorizon := by
  unfold Obligations.TimesAreReachedUnderTheHorizon
  intro c t hc ht
  simp only [← Bool.not_eq_true, reached_iff]
  refine ⟨fun hu => by simp [hu], fun hu => ?_, fun n hu hn h => ?_, fun n h1 hn h => ?_, fun n hu h1 hn h => ?_⟩
  · have hz : ((c.count : Int) - t) % 864000 = ((c.count + 864000 - t) % 864000 : Nat) := by omega
    rw [hz]
    exact ⟨fun h => Int.ofNat_lt.2 h.2, fun h => ⟨hu, Int.ofNat_lt.1 h⟩⟩
  · exact ⟨hu, by omega⟩
  · rintro ⟨_, hr⟩
    omega
  · exact ⟨hu, by omega⟩

/-! ## Power-on (section 10.5) -/

/-- Settles O4. -/
theorem powerOnLeavesTheResetValues : Obligations.PowerOnLeavesTheResetValues := by
  unfold Obligations.PowerOnLeavesTheResetValues
  refine ⟨fun _ => rfl, rfl, rfl, rfl, rfl, rfl, ?_, ⟨rfl, rfl, rfl, rfl⟩, by decide +kernel, by decide +kernel, rfl,
    by decide +kernel, by decide +kernel, ?_⟩
  · decide +kernel
  · intro i
    refine ⟨⟨?_, ?_, ?_⟩, ?_, ?_, ?_, ?_, ?_⟩ <;> (revert i; decide +kernel)

/-! ## Command frames -/

theorem halvesBytes_length (hs : List Half) : (halvesBytes hs).length = 2 * hs.length := by
  induction hs with
  | nil => rfl
  | cons h hs ih =>
    rw [halvesBytes, List.flatMap_cons, List.length_append, ← halvesBytes, ih]
    simp only [halfBytes, List.length_cons, List.length_nil]
    omega

theorem encode_length {c : Command} (hc : c.isFormed = true) : c.encode.length < 65536 := by
  cases c <;>
    simp [Command.encode, Command.fields, KeyField.bytes, halfBytes, wordBytes, halvesBytes_length] at hc ⊢

/-- The code of a command read from a payload is the payload's first byte, 0 for an empty one (R196). -/
theorem parseCommand_code (p : List Byte) : (parseCommand p).code = p.headD 0 := by
  cases p with
  | nil => rfl
  | cons code r =>
    simp only [parseCommand, List.headD_cons]
    cases hr : readFields code r with
    | none => rfl
    | some c =>
      obtain ⟨_, hcode, _⟩ := readFields_spelt hr
      exact hcode

theorem commandPasses_iff (f : FeedFrame) : commandPasses f = true ↔
    f.kind = 0x02 ∧ f.length.toNat = f.payload.length ∧
      f.crc = crc32 (f.kind :: f.tag :: (halfBytes f.length ++ f.payload)) := by
  simp [commandPasses, frameWhole]

theorem execCommandFrame_of_passes {f : FeedFrame} (h : commandPasses f = true) (s : State) :
    execCommandFrame f s = onCommand f.tag (parseCommand f.payload) s := by
  simp only [execCommandFrame, onCommand, onDevice, h, if_true]

theorem execCommandFrame_of_fails {f : FeedFrame} (h : commandPasses f = false) (s : State) :
    execCommandFrame f s = .next s := by
  simp only [execCommandFrame, onDevice, h, Bool.false_eq_true, if_false]

/-- The well-formed frame of a command is that command's row. -/
theorem onCommand_eq_frame {c : Command} (hc : c.isFormed = true) {tag : Byte} {f : FeedFrame}
    (hf : f = { kind := 0x02, tag := tag, length := BitVec.ofNat 16 c.encode.length, payload := c.encode,
                crc := crc32 (0x02 :: tag :: (halfBytes (BitVec.ofNat 16 c.encode.length) ++ c.encode)) })
    (s : State) : onCommand tag c s = execCommandFrame f s := by
  have hp : commandPasses f = true := by
    rw [commandPasses_iff, hf]
    refine ⟨rfl, ?_, rfl⟩
    rw [BitVec.toNat_ofNat]
    exact Nat.mod_eq_of_lt (encode_length hc)
  rw [execCommandFrame_of_passes hp, hf]
  simp only [parseCommand_encode hc]

theorem submit_linkDown {d : Device} (h : d.feed.linkUp = false) (q : QueuedCommand) : submit q d = d := by
  simp [submit, h]

/-- With the link up a command joins the queue, whose head is taken when the reply queue has room (R193, R195). -/
theorem submit_joins {d : Device} (hl : d.feed.linkUp = true) (hc : d.feed.cmds.length < 16) (q : QueuedCommand) :
    submit q d = takeCommand { d with feed := { d.feed with cmds := d.feed.cmds ++ [q] } } := by
  simp [submit, hl, Config.commandCapacity, hc]

theorem submit_full {d : Device} (hl : d.feed.linkUp = true) (hc : 16 ≤ d.feed.cmds.length) (q : QueuedCommand) :
    submit q d = overrun 0x02 q.tag .queueFull d := by
  simp [submit, hl, Config.commandCapacity, Nat.not_lt.2 hc]

theorem takeCommand_cons {d : Device} {q : QueuedCommand} {qs : List QueuedCommand} (h : d.feed.cmds = q :: qs)
    (hr : d.feed.replies.length < 16) :
    takeCommand d = answerCommand q { d with feed := { d.feed with cmds := qs } } := by
  simp [takeCommand, h, Config.replyCapacity, hr]

theorem takeCommand_full {d : Device} (hr : 16 ≤ d.feed.replies.length) : takeCommand d = d := by
  unfold takeCommand
  split
  · simp [Config.replyCapacity, Nat.not_lt.2 hr]
  · rfl

theorem takeCommand_nil {d : Device} (h : d.feed.cmds = []) : takeCommand d = d := by
  simp [takeCommand, h]

/-- What a command frame that passes does (R193, R195), by what waits and what the reply queue holds. -/
theorem onCommand_outcome (tag : Byte) (c : Command) (s : State) (hl : s.dev.feed.linkUp = true) :
    (∀ (q : QueuedCommand) (qs : List QueuedCommand) (d : Device), s.dev.feed.cmds = q :: qs →
      s.dev.feed.cmds.length < 16 → s.dev.feed.replies.length < 16 →
      d = { s.dev with feed := { s.dev.feed with cmds := qs ++ [{ tag := tag, cmd := c }] } } →
      onCommand tag c s = .next { s with dev := ((applyCommand q.cmd d).1.reply
        { tag := q.tag, code := q.cmd.code, answer := (applyCommand q.cmd d).2 }) }) ∧
    (s.dev.feed.cmds.length < 16 → 16 ≤ s.dev.feed.replies.length →
      onCommand tag c s = .next { s with dev := ({ s.dev with feed := { s.dev.feed with
        cmds := s.dev.feed.cmds ++ [{ tag := tag, cmd := c }] } }) }) ∧
    (16 ≤ s.dev.feed.cmds.length →
      onCommand tag c s = .next { s with dev :=
        (({ s.dev with feed := { s.dev.feed with overrun := min (s.dev.feed.overrun + 1) 65535 } } : Device).event
          (.feedOverrun 0x02 tag .queueFull)) }) := by
  refine ⟨fun q qs d hq hc hr hd => ?_, fun hc hr => ?_, fun hc => ?_⟩
  · rw [onCommand, onDevice, submit_joins hl hc, hq, List.cons_append, takeCommand_cons (by exact rfl) (by exact hr),
      hd]
    rfl
  · rw [onCommand, onDevice, submit_joins hl hc, takeCommand_full (by exact hr)]
  · rw [onCommand, onDevice, submit_full hl hc]
    rfl

/-- Settles O2: a frame that passes is the row of the command it spells, and each row is its frame. -/
theorem commandFrameIsTakenQueuedOrLost : Obligations.CommandFrameIsTakenQueuedOrLost := by
  unfold Obligations.CommandFrameIsTakenQueuedOrLost
  refine ⟨fun f s => ⟨fun hl => ?_, fun hp => ?_, fun hl hk hn hcrc => ?_⟩, fun s tag frame hf => ?_,
    fun _ _ => rfl⟩
  · show execCommandFrame f s = _
    rcases hp : commandPasses f with _ | _
    · exact execCommandFrame_of_fails hp s
    · rw [execCommandFrame_of_passes hp, onCommand, onDevice, submit_linkDown hl]
  · rw [← commandPasses_iff, Bool.not_eq_true] at hp
    exact execCommandFrame_of_fails hp s
  · have hp : execCommandFrame f s = onCommand f.tag (parseCommand f.payload) s :=
      execCommandFrame_of_passes ((commandPasses_iff f).2 ⟨hk, hn, hcrc⟩) s
    have hx : exec (.commandFrame f) s = onCommand f.tag (parseCommand f.payload) s := hp
    rw [hx]
    refine ⟨fun hc hr => ?_, onCommand_outcome f.tag _ s hl⟩
    rw [onCommand_ready ⟨hl, hc, hr⟩, parseCommand_code]
  · exact ⟨fun a => onCommand_eq_frame rfl (hf _) s, fun a => onCommand_eq_frame rfl (hf _) s,
      fun k x => onCommand_eq_frame rfl (hf _) s, fun k => onCommand_eq_frame rfl (hf _) s,
      fun k x => onCommand_eq_frame rfl (hf _) s, fun x y => onCommand_eq_frame rfl (hf _) s,
      fun x => onCommand_eq_frame rfl (hf _) s, fun x => onCommand_eq_frame rfl (hf _) s,
      fun x => onCommand_eq_frame rfl (hf _) s, fun a => onCommand_eq_frame rfl (hf _) s,
      fun a => onCommand_eq_frame rfl (hf _) s, fun x => onCommand_eq_frame rfl (hf _) s,
      fun x => onCommand_eq_frame rfl (hf _) s, fun x => onCommand_eq_frame rfl (hf _) s,
      fun x y => onCommand_eq_frame rfl (hf _) s, fun x y => onCommand_eq_frame rfl (hf _) s,
      fun x y z => onCommand_eq_frame rfl (hf _) s, fun x y z => onCommand_eq_frame rfl (hf _) s,
      fun a => onCommand_eq_frame rfl (hf _) s, fun a => onCommand_eq_frame rfl (hf _) s,
      onCommand_eq_frame rfl (hf _) s, onCommand_eq_frame rfl (hf _) s, onCommand_eq_frame rfl (hf _) s,
      fun k => onCommand_eq_frame rfl (hf _) s, fun x => onCommand_eq_frame rfl (hf _) s,
      fun x => onCommand_eq_frame rfl (hf _) s, onCommand_eq_frame rfl (hf _) s,
      fun x => onCommand_eq_frame rfl (hf _) s⟩

/-! ## The feed transmitter -/

theorem feedAsk_reply {f : Feed} {r : Reply} {rs : List Reply} (hl : f.linkUp = true) (ht : f.tx = none)
    (hr : f.replies = r :: rs) : feedAsk f = { f with tx := some { source := .reply, bytes := r.frame } } := by
  simp [feedAsk, hl, ht, hr]

theorem feedAsk_event {f : Feed} {e : QueuedEvent} {es : List QueuedEvent} (hl : f.linkUp = true) (ht : f.tx = none)
    (hr : f.replies = []) (he : f.events = e :: es) :
    feedAsk f = { f with
      events := { e with mark := e.mark || f.overflow } :: es, overflow := false
      tx := some { source := .event, bytes := ({ e with mark := e.mark || f.overflow } : QueuedEvent).frame } } := by
  simp [feedAsk, hl, ht, hr, he]

theorem feedAsk_empty {f : Feed} (hr : f.replies = []) (he : f.events = []) : feedAsk f = f := by
  unfold feedAsk
  split <;> simp [hr, he]

theorem feedAsk_idle {f : Feed} (h : f.linkUp = false ∨ f.tx ≠ none) : feedAsk f = f := by
  have hn : (f.linkUp && f.tx.isNone) = false := by
    rcases h with h | h
    · simp [h]
    · simp [Option.ne_none_iff_isSome.1 h]
  simp [feedAsk, hn]

/-- The transmitter changes no event, only the overflow mark of the first. -/
theorem feedAsk_events (f : Feed) : (feedAsk f).events.map QueuedEvent.event = f.events.map QueuedEvent.event := by
  unfold feedAsk
  split
  case isFalse => rfl
  case isTrue =>
    split
    · rfl
    · split
      next e es he => simp [he]
      · rfl

theorem joinEvent_room {f : Feed} (h : f.events.length < 32) (e : Event) :
    joinEvent e f = feedAsk { f with events := f.events ++ [{ event := e, mark := false }] } := by
  simp [joinEvent, Config.eventCapacity, h]

theorem joinEvent_full {f : Feed} (h : 32 ≤ f.events.length) (e : Event) :
    joinEvent e f = { f with overflow := true } := by
  simp [joinEvent, Config.eventCapacity, Nat.not_lt.2 h]

theorem execFeedFrameSent_some {s : State} {t : FeedTx} (h : s.dev.feed.tx = some t) :
    execFeedFrameSent s = .next { s with dev := (finishSent t s.dev) } := by
  simp [execFeedFrameSent, h]

theorem finishSent_reply {bytes : List Byte} (d : Device) :
    finishSent { source := .reply, bytes := bytes } d =
      { takeCommand { d with feed := { d.feed with tx := none, replies := d.feed.replies.tail } } with
        feed := feedAsk (takeCommand
          { d with feed := { d.feed with tx := none, replies := d.feed.replies.tail } }).feed } := rfl

/-- Settles O14. -/
theorem feedTransmitterSendsRepliesFirst : Obligations.FeedTransmitterSendsRepliesFirst := by
  unfold Obligations.FeedTransmitterSendsRepliesFirst
  refine ⟨fun s f => ⟨rfl, rfl, fun ht => ?_, fun bytes ht => ?_, fun bytes ht hc => ?_, fun bytes ht => ?_,
    fun bytes q qs d e ht hc hr hd he => ?_, fun hl ht => ⟨fun r rs => feedAsk_reply hl ht,
      fun e es => feedAsk_event hl ht, feedAsk_empty⟩, feedAsk_idle⟩, fun d r e => ⟨rfl, fun hn => ?_, rfl, rfl, ?_,
    fun hn => ?_, fun hn => ?_, fun ht hn => ⟨?_, ?_⟩⟩⟩
  · show execFeedFrameSent s = _
    simp [execFeedFrameSent, ht]
  · exact execFeedFrameSent_some ht
  · refine (execFeedFrameSent_some ht).trans ?_
    rw [finishSent_reply, takeCommand_nil (by exact hc)]
  · exact execFeedFrameSent_some ht
  · refine (execFeedFrameSent_some ht).trans ?_
    have hroom : s.dev.feed.replies.tail.length < 16 := by rw [List.length_tail]; omega
    rw [finishSent_reply, takeCommand_cons (by exact hc) (by exact hroom), he, hd]
    rfl
  · rw [Device.event, joinEvent_room hn]
  · exact (feedAsk_keeps _).2.2.2.1
  · rw [Device.event, joinEvent_room hn]
    exact (feedAsk_events _).trans (by simp)
  · rw [Device.event, joinEvent_full hn]
  · rw [Device.reply, joinReply, feedAsk_idle (by exact .inr ht)]
  · rw [Device.event, joinEvent_room hn, feedAsk_idle (by exact .inr ht)]

/-! ## Return frames with no effect (R151, R152) -/

theorem onDevice_same {f : Device → Device} {s : State} (h : f s.dev = s.dev) : onDevice f s = .next s := by
  rw [onDevice_next, h]

theorem absent_iff (st : Site) : st.absent = true ↔ st.win.link = .disabled ∨ st.win.closing = true := by
  simp [Site.absent]

theorem absent_eq_false (st : Site) : st.absent = false ↔ st.win.link ≠ .disabled ∧ st.win.closing = false := by
  simp [Site.absent]

theorem returnPasses_eq_false {f : ReturnFrame} {kind : Byte} {len : Nat}
    (h : f.kind ≠ kind ∨ f.length.toNat ≠ len ∨ f.fields.length ≠ len ∨
      f.crc ≠ crc32 (f.kind :: f.length :: (halfBytes f.code ++ f.fields))) : returnPasses f kind len = false := by
  rcases h with h | h | h | h <;> simp [returnPasses, h]

theorem siteOff_none {d : Device} {p : PortId} {code : Half} (h : ∀ i : SiteId, (d.site i).cfg.code ≠ code) :
    d.siteOff p code = none := by
  rw [Device.siteOff, List.find?_eq_none]
  intro i _
  simp [h i]

/-- A frame that fails its check, or is demultiplexed to no site or to one that takes none, changes nothing. -/
theorem takeReturn_same {kind : Byte} {len : Nat} {p : PortId} {f : ReturnFrame} {d : Device}
    (act : SiteId → Device → Device)
    (h : returnPasses f kind len = false ∨ d.siteOn p f.code = none ∨
      ∃ i : SiteId, d.siteOn p f.code = some i ∧ (d.site i).takesFrames = false) :
    takeReturn kind len p f act d = d := by
  unfold takeReturn
  split
  case isFalse => rfl
  case isTrue hp =>
    rcases h with h | h | ⟨i, h, ht⟩
    · rw [hp] at h; cases h
    · rw [h]
    · rw [h]
      simp only [takeFrame, ht, Bool.false_eq_true, if_false]

/-- The same of a HELLO, which raises PORT_MISMATCH where another port's site has the code (R152). -/
theorem execHello_same {p : PortId} {f : ReturnFrame} {s : State}
    (h : returnPasses f 0x05 1 = false ∨ (s.dev.siteOn p f.code = none ∧ s.dev.siteOff p f.code = none) ∨
      ∃ i : SiteId, s.dev.siteOn p f.code = some i ∧ (s.dev.site i).absent = true) :
    execHello p f s = .next s := by
  refine onDevice_same ?_
  split
  case isFalse => rfl
  case isTrue hp =>
    rcases h with h | ⟨h, ho⟩ | ⟨i, h, ha⟩
    · rw [hp] at h; cases h
    · rw [h]
      simp only [strayHello, ho]
    · rw [h]
      simp only [takeHello, ha, if_true]

/-- The rows of the return frames: all but HELLO are taken by `takeReturn`. -/
theorem returnRow_cases {p : PortId} {f : ReturnFrame} {s : State} {c : Instr} {kind : Byte} {len : Nat}
    (h : (kind, len, c) = (0x01, 2, .ack p f) ∨ (kind, len, c) = (0x02, 2, .miss p f) ∨
      (kind, len, c) = (0x03, 0, .pause p f) ∨ (kind, len, c) = (0x04, 0, .resumeFrame p f) ∨
      (kind, len, c) = (0x05, 1, .hello p f) ∨ (kind, len, c) = (0x06, 4, .remake p f)) :
    (kind ≠ 0x05 ∧ ∃ act : SiteId → Device → Device, exec c s = onDevice (takeReturn kind len p f act) s) ∨
      (kind = 0x05 ∧ len = 1 ∧ exec c s = execHello p f s) := by
  simp only [Prod.mk.injEq] at h
  rcases h with ⟨rfl, rfl, rfl⟩ | ⟨rfl, rfl, rfl⟩ | ⟨rfl, rfl, rfl⟩ | ⟨rfl, rfl, rfl⟩ | ⟨rfl, rfl, rfl⟩ |
    ⟨rfl, rfl, rfl⟩
  · exact .inl ⟨by decide, takeAck (returnNumber f), rfl⟩
  · exact .inl ⟨by decide, takeMiss (returnNumber f), rfl⟩
  · exact .inl ⟨by decide, setReady false, rfl⟩
  · exact .inl ⟨by decide, setReady true, rfl⟩
  · exact .inr ⟨rfl, rfl, rfl⟩
  · exact .inl ⟨by decide, takeRemake (returnRemake f).1 (returnRemake f).2, rfl⟩

/-- Settles O28. -/
theorem returnFramesAreOtherwiseDiscarded : Obligations.ReturnFramesAreOtherwiseDiscarded := by
  unfold Obligations.ReturnFramesAreOtherwiseDiscarded
  intro p f s c kind len hrow
  rcases returnRow_cases (s := s) hrow with ⟨hk, act, hx⟩ | ⟨hk, hl, hx⟩ <;> rw [hx]
  · refine ⟨fun hf => ?_, fun i hi => ⟨fun ha => ?_, fun hw _ => ?_⟩, fun hn _ => ?_, fun hn => ?_⟩
    · exact onDevice_same (takeReturn_same act (.inl (returnPasses_eq_false hf)))
    · refine onDevice_same (takeReturn_same act (.inr (.inr ⟨i, siteOn_of hi, ?_⟩)))
      simp [Site.takesFrames, (absent_iff _).2 ha]
    · refine onDevice_same (takeReturn_same act (.inr (.inr ⟨i, siteOn_of hi, ?_⟩)))
      simp [Site.takesFrames, hw]
    · exact onDevice_same (takeReturn_same act (.inr (.inl (siteOn_none hn))))
    · exact onDevice_same (takeReturn_same act (.inr (.inl (siteOn_none fun i _ => hn i))))
  · subst hk hl
    refine ⟨fun hf => ?_, fun i hi => ⟨fun ha => ?_, fun _ hk => absurd rfl hk⟩, fun _ hk => absurd rfl hk,
      fun hn => ?_⟩
    · exact execHello_same (.inl (returnPasses_eq_false hf))
    · exact execHello_same (.inr (.inr ⟨i, siteOn_of hi, (absent_iff _).2 ha⟩))
    · exact execHello_same (.inr (.inl ⟨siteOn_none fun i _ => hn i, siteOff_none hn⟩))

/-! ## Refusals (R196) -/

/-- An answer that is not OK leaves the device as it was. -/
def RefusalKeeps (d : Device) (p : Device × Answer) : Prop := p.2.result ≠ .ok → p.1 = d

theorem refusalKeeps_same (d : Device) (a : Answer) : RefusalKeeps d (d, a) := fun _ => rfl

theorem refusalKeeps_refuse (r : Result) (d : Device) : RefusalKeeps d (refuse r d) := fun _ => rfl

theorem refusalKeeps_ok {d e : Device} {a : Answer} (h : a.result = .ok) : RefusalKeeps d (e, a) :=
  fun hn => absurd h hn

theorem refusalKeeps_okay (d e : Device) (data : List Byte) : RefusalKeeps d (okay e data) := refusalKeeps_ok rfl

theorem refusalKeeps_openPage (a : OpenPageArgs) (d : Device) : RefusalKeeps d (applyOpenPage a d) := by
  unfold applyOpenPage
  split
  · exact refusalKeeps_refuse _ d
  · split
    · exact refusalKeeps_refuse _ d
    · split
      · exact refusalKeeps_same d _
      · split
        · exact refusalKeeps_refuse _ d
        · unfold openWithRoom
          split
          · exact refusalKeeps_ok rfl
          · split
            · exact refusalKeeps_ok rfl
            · exact refusalKeeps_refuse _ d

theorem refusalKeeps_approve (a : ApproveArgs) (d : Device) : RefusalKeeps d (applyApprove a d) := by
  unfold applyApprove
  split
  · exact refusalKeeps_refuse _ d
  · split
    · exact refusalKeeps_refuse _ d
    · next v _ =>
      unfold approveVersion
      cases v.state with
      | filling => exact refusalKeeps_ok rfl
      | held =>
        dsimp only
        split
        · exact refusalKeeps_okay d _ _
        · exact refusalKeeps_same d _
      | approved => exact refusalKeeps_refuse _ d
      | released => exact refusalKeeps_refuse _ d
      | delivered => exact refusalKeeps_refuse _ d
      | superseded => exact refusalKeeps_refuse _ d
      | withdrawn => exact refusalKeeps_refuse _ d

theorem refusalKeeps_withdraw (key : KeyField) (flags : Byte) (d : Device) :
    RefusalKeeps d (applyWithdraw key flags d) := by
  unfold applyWithdraw
  split
  · exact refusalKeeps_refuse _ d
  · split
    · exact refusalKeeps_okay d _ _
    · exact refusalKeeps_refuse _ d

theorem refusalKeeps_purge (key : KeyField) (d : Device) : RefusalKeeps d (applyPurge key d) := by
  unfold applyPurge
  split
  · exact refusalKeeps_refuse _ d
  · split
    · exact refusalKeeps_okay d _ _
    · exact refusalKeeps_refuse _ d

theorem refusalKeeps_sendPage (key : KeyField) (site : Byte) (d : Device) :
    RefusalKeeps d (applySendPage key site d) := by
  unfold applySendPage
  split
  · exact refusalKeeps_refuse _ d
  · split
    · exact refusalKeeps_refuse _ d
    · split
      · exact refusalKeeps_refuse _ d
      · unfold sendVersion
        split
        · exact refusalKeeps_refuse _ d
        · split
          · exact refusalKeeps_refuse _ d
          · split
            · exact refusalKeeps_same d _
            · exact refusalKeeps_okay d _ _

theorem refusalKeeps_setPlan (edition : Byte) (entries : Vector Byte 8) (d : Device) :
    RefusalKeeps d (applySetPlan edition entries d) := by
  unfold applySetPlan
  split
  · exact refusalKeeps_refuse _ d
  · split
    · exact refusalKeeps_okay d _ _
    · exact refusalKeeps_refuse _ d

theorem refusalKeeps_holdEdition (edition : Byte) (d : Device) : RefusalKeeps d (applyHoldEdition edition d) := by
  unfold applyHoldEdition
  split
  · exact refusalKeeps_refuse _ d
  · exact refusalKeeps_okay d _ _

theorem refusalKeeps_openEdition (edition : Byte) (d : Device) : RefusalKeeps d (applyOpenEdition edition d) := by
  unfold applyOpenEdition
  split
  · exact refusalKeeps_refuse _ d
  · exact refusalKeeps_okay d _ _

theorem refusalKeeps_setClock (count : Word) (d : Device) : RefusalKeeps d (applySetClock count d) := by
  unfold applySetClock
  split
  · exact refusalKeeps_refuse _ d
  · exact refusalKeeps_okay d _ _

theorem refusalKeeps_defineArea (a : DefineAreaArgs) (d : Device) : RefusalKeeps d (applyDefineArea a d) := by
  unfold applyDefineArea
  split
  · exact refusalKeeps_refuse _ d
  · dsimp only
    split
    · exact refusalKeeps_refuse _ d
    · split
      · exact refusalKeeps_refuse _ d
      · split
        · exact refusalKeeps_refuse _ d
        · exact refusalKeeps_okay d _ _

theorem refusalKeeps_setSite (a : SetSiteArgs) (d : Device) : RefusalKeeps d (applySetSite a d) := by
  unfold applySetSite
  split
  · split
    · exact refusalKeeps_refuse _ d
    · exact refusalKeeps_ok rfl
  · exact refusalKeeps_refuse _ d

theorem refusalKeeps_enableSite (site : Byte) (d : Device) : RefusalKeeps d (applyEnableSite site d) := by
  unfold applyEnableSite
  split
  · exact refusalKeeps_refuse _ d
  · split
    · exact refusalKeeps_ok rfl
    · exact refusalKeeps_okay d _ _

theorem refusalKeeps_disableSite (site : Byte) (d : Device) : RefusalKeeps d (applyDisableSite site d) := by
  unfold applyDisableSite
  split
  · exact refusalKeeps_refuse _ d
  · split
    · exact refusalKeeps_okay d _ _
    · exact refusalKeeps_okay d _ _

theorem refusalKeeps_resumeSite (site : Byte) (d : Device) : RefusalKeeps d (applyResumeSite site d) := by
  unfold applyResumeSite
  split
  · exact refusalKeeps_refuse _ d
  · split
    · exact refusalKeeps_okay d _ _
    · split
      · exact refusalKeeps_okay d _ _
      · exact refusalKeeps_ok rfl

theorem refusalKeeps_setAllotment (site : Byte) (w : Word) (d : Device) :
    RefusalKeeps d (applySetAllotment site w d) := by
  unfold applySetAllotment
  split
  · exact refusalKeeps_refuse _ d
  · exact refusalKeeps_ok rfl

theorem refusalKeeps_setPort (port : Byte) (h : Half) (d : Device) : RefusalKeeps d (applySetPort port h d) := by
  unfold applySetPort
  split
  · exact refusalKeeps_refuse _ d
  · exact refusalKeeps_ok rfl

theorem refusalKeeps_loadCurve (site sep : Byte) (knots : Vector Half 17) (d : Device) :
    RefusalKeeps d (applyLoadCurve site sep knots d) := by
  unfold applyLoadCurve
  split
  · split
    · exact refusalKeeps_same d _
    · exact refusalKeeps_ok rfl
  · exact refusalKeeps_refuse _ d

theorem refusalKeeps_armCurves (site stock flags : Byte) (d : Device) :
    RefusalKeeps d (applyArmCurves site stock flags d) := by
  unfold applyArmCurves
  split
  · dsimp only
    split
    · exact refusalKeeps_okay d _ _
    · split
      · exact refusalKeeps_refuse _ d
      · exact refusalKeeps_okay d _ _
  · exact refusalKeeps_refuse _ d

theorem refusalKeeps_setGroupTarget (a : SetGroupTargetArgs) (d : Device) :
    RefusalKeeps d (applySetGroupTarget a d) := by
  unfold applySetGroupTarget
  split
  · exact refusalKeeps_refuse _ d
  · exact refusalKeeps_ok rfl

theorem refusalKeeps_setSiteTarget (a : SetSiteTargetArgs) (d : Device) :
    RefusalKeeps d (applySetSiteTarget a d) := by
  unfold applySetSiteTarget
  split
  · exact refusalKeeps_ok rfl
  · exact refusalKeeps_refuse _ d

theorem refusalKeeps_resume (d : Device) : RefusalKeeps d (applyResume d) := by
  unfold applyResume
  split
  · exact refusalKeeps_ok rfl
  · exact refusalKeeps_okay d _ _

theorem refusalKeeps_applyCommand (c : Command) (d : Device) : RefusalKeeps d (applyCommand c d) := by
  cases c with
  | openPage a => exact refusalKeeps_openPage a d
  | approve a => exact refusalKeeps_approve a d
  | withdraw key flags => exact refusalKeeps_withdraw key flags d
  | purge key => exact refusalKeeps_purge key d
  | sendPage key site => exact refusalKeeps_sendPage key site d
  | setPlan edition entries => exact refusalKeeps_setPlan edition entries d
  | holdEdition edition => exact refusalKeeps_holdEdition edition d
  | openEdition edition => exact refusalKeeps_openEdition edition d
  | setClock count => exact refusalKeeps_setClock count d
  | defineArea a => exact refusalKeeps_defineArea a d
  | setSite a => exact refusalKeeps_setSite a d
  | enableSite site => exact refusalKeeps_enableSite site d
  | disableSite site => exact refusalKeeps_disableSite site d
  | resumeSite site => exact refusalKeeps_resumeSite site d
  | setAllotment site allotment => exact refusalKeeps_setAllotment site allotment d
  | setPort port period => exact refusalKeeps_setPort port period d
  | loadCurve site sep knots => exact refusalKeeps_loadCurve site sep knots d
  | armCurves site stock flags => exact refusalKeeps_armCurves site stock flags d
  | setGroupTarget a => exact refusalKeeps_setGroupTarget a d
  | setSiteTarget a => exact refusalKeeps_setSiteTarget a d
  | quiesce => exact refusalKeeps_ok rfl
  | resume => exact refusalKeeps_resume d
  | dayReset => exact refusalKeeps_okay d _ _
  | queryPage key => exact fun _ => (query_unchanged d 0 0 key).1
  | querySite site => exact fun _ => (query_unchanged d site 0 ⟨0, 0, 0, 0, 0⟩).2.1
  | queryArea area => exact fun _ => (query_unchanged d 0 area ⟨0, 0, 0, 0, 0⟩).2.2.1
  | queryDevice => exact fun _ => rfl
  | readCurve site => exact fun _ => (query_unchanged d site 0 ⟨0, 0, 0, 0, 0⟩).2.2.2.2
  | malformed code => exact refusalKeeps_refuse _ d

/-! ## Operands out of range -/

theorem applySetSite_refused {a : SetSiteArgs} (d : Device)
    (h : eightOf a.site = none ∨ portOf a.port = none ∨ flowOf a.flow = none ∨ haltMaskOf a.haltMask = none ∨
      boolOf a.solidHold = none) : applySetSite a d = refuse .range d := by
  unfold applySetSite
  split
  case h_1 hi hp hf hm hs => rw [hi, hp, hf, hm, hs] at h; simp at h
  case h_2 => rfl

theorem applyLoadCurve_refused {site sep : Byte} (knots : Vector Half 17) (d : Device)
    (h : eightOf site = none ∨ fourOf sep = none) : applyLoadCurve site sep knots d = refuse .range d := by
  unfold applyLoadCurve
  split
  case h_1 hi hk => rw [hi, hk] at h; simp at h
  case h_2 => rfl

theorem applyArmCurves_refused {site stock : Byte} (flags : Byte) (d : Device)
    (h : eightOf site = none ∨ fourOf stock = none) : applyArmCurves site stock flags d = refuse .range d := by
  unfold applyArmCurves
  split
  case h_1 hi hk => rw [hi, hk] at h; simp at h
  case h_2 => rfl

theorem applySetSiteTarget_refused {a : SetSiteTargetArgs} (d : Device)
    (h : eightOf a.site = none ∨ fourOf a.stock = none) : applySetSiteTarget a d = refuse .range d := by
  unfold applySetSiteTarget
  split
  case h_1 hi hk => rw [hi, hk] at h; simp at h
  case h_2 => rfl

theorem flowOf_none {b : Byte} (h : 4 ≤ b.toNat) : flowOf b = none := by
  have ne : ∀ c : Byte, c.toNat < 4 → b ≠ c := fun c hc e => by subst e; omega
  rw [flowOf, if_neg (ne 0 (by decide)), if_neg (ne 1 (by decide)), if_neg (ne 2 (by decide)),
    if_neg (ne 3 (by decide))]

theorem boolOf_none {b : Byte} (h : 2 ≤ b.toNat) : boolOf b = none := by
  have ne : ∀ c : Byte, c.toNat < 2 → b ≠ c := fun c hc e => by subst e; omega
  rw [boolOf, if_neg (ne 0 (by decide)), if_neg (ne 1 (by decide))]

theorem portOf_none {h : Half} (hp : 4 ≤ h.toNat) : portOf h = none := dif_neg (by omega)

theorem haltMaskOf_none {b : Byte} (h : b.getLsbD 7 = true) : haltMaskOf b = none := if_pos h

/-- The commands of a site or an area refuse one above seven. -/
theorem applyCommand_site_range {b : Byte} (hb : 8 ≤ b.toNat) (d : Device) (x y : Byte) (w : Word)
    (knots : Vector Half 17) (key : KeyField) (da : DefineAreaArgs) (ss : SetSiteArgs) (st : SetSiteTargetArgs)
    (k : Command)
    (hk : k ∈ [Command.sendPage key b, .defineArea { da with area := b }, .setSite { ss with site := b },
      .enableSite b, .disableSite b, .resumeSite b, .setAllotment b w, .loadCurve b x knots, .armCurves b x y,
      .setSiteTarget { st with site := b }, .querySite b, .queryArea b, .readCurve b]) :
    (applyCommand k d).2.result = .range := by
  have hn := eightOf_none hb
  simp only [List.mem_cons, List.not_mem_nil, or_false] at hk
  rcases hk with rfl | rfl | rfl | rfl | rfl | rfl | rfl | rfl | rfl | rfl | rfl | rfl | rfl <;>
    simp only [applyCommand]
  · simp only [applySendPage, hn, refuse]
  · simp only [applyDefineArea, hn, refuse]
  · rw [applySetSite_refused d (.inl hn)]; rfl
  · simp only [applyEnableSite, hn, refuse]
  · simp only [applyDisableSite, hn, refuse]
  · simp only [applyResumeSite, hn, refuse]
  · simp only [applySetAllotment, hn, refuse]
  · rw [applyLoadCurve_refused knots d (.inl hn)]; rfl
  · rw [applyArmCurves_refused y d (.inl hn)]; rfl
  · rw [applySetSiteTarget_refused d (.inl hn)]; rfl
  · simp only [applyQuerySite, hn, refuse]
  · simp only [applyQueryArea, hn, refuse]
  · simp only [applyReadCurve, hn, refuse]

/-- The commands of a port, a stock, a separation or a flow mode refuse one above three. -/
theorem applyCommand_four_range {b : Byte} (hb : 4 ≤ b.toNat) (d : Device) (x y : Byte) (h : Half)
    (knots : Vector Half 17) (ss : SetSiteArgs) (sg : SetGroupTargetArgs) (st : SetSiteTargetArgs) (k : Command)
    (hk : k ∈ [Command.setPort b h, .loadCurve x b knots, .armCurves x b y, .setGroupTarget { sg with stock := b },
      .setSiteTarget { st with stock := b }, .setSite { ss with flow := b }]) :
    (applyCommand k d).2.result = .range := by
  have hn := fourOf_none hb
  simp only [List.mem_cons, List.not_mem_nil, or_false] at hk
  rcases hk with rfl | rfl | rfl | rfl | rfl | rfl <;> simp only [applyCommand]
  · simp only [applySetPort, hn, refuse]
  · rw [applyLoadCurve_refused knots d (.inr hn)]; rfl
  · rw [applyArmCurves_refused y d (.inr hn)]; rfl
  · simp only [applySetGroupTarget, hn, refuse]
  · rw [applySetSiteTarget_refused d (.inr hn)]; rfl
  · rw [applySetSite_refused d (.inr (.inr (.inl (flowOf_none hb))))]; rfl

/-- Settles O29. -/
theorem refusedCommandChangesNothing : Obligations.RefusedCommandChangesNothing := by
  unfold Obligations.RefusedCommandChangesNothing
  intro d c b x y h w knots key ap da ss sg st
  refine ⟨refusalKeeps_applyCommand c d, fun hb => applyCommand_site_range hb d x y w knots key da ss st,
    fun hb => applyCommand_four_range hb d x y h knots ss sg st, fun hs => ?_, fun hl => ⟨?_, ?_, fun hk hb => ?_⟩,
    fun hl h1 h63 => ?_⟩
  · have hn : applySetSite ss d = refuse .range d := applySetSite_refused d <| by
      rcases hs with hs | hs | hs
      · exact .inr (.inl (portOf_none hs))
      · exact .inr (.inr (.inr (.inl (haltMaskOf_none hs))))
      · exact .inr (.inr (.inr (.inr (boolOf_none hs))))
    simp only [applyCommand, hn, refuse]
  · simp only [applyCommand, applyWithdraw, hl, refuse]
  · simp only [applyCommand, applyPurge, hl, refuse]
  · have hi : eightOf b = some ⟨b.toNat, hb⟩ := eightOf_of rfl
    simp only [applyCommand, applySendPage, hi, hk, hl, refuse, Bool.true_eq_false, if_false]
  · have hs : ¬(ap.station.toNat = 0 ∨ 63 < ap.station.toNat) := by omega
    simp only [applyCommand, applyApprove, hs, hl, refuse, if_false]

end Sys2Proof.Machine
end

section
/-!
SUPPORT. The commands that set plans, areas, sites, ports and targets: what each leaves, in the reply's device.
-/

namespace Sys2Proof.Machine
open Sys2Proof.Laws

/-! ## Rows and tables -/

/-- The row of a command with the command unit ready: the command's effect with its reply (R193, R195, R196). -/
theorem onCommand_answer {s : State} (h : s.dev.feed.Ready) {tag : Byte} {c : Command} {e : Device} {a : Answer}
    (hx : applyCommand c s.dev = (e, a)) :
    onCommand tag c s = .next { s with dev := (e.reply { tag := tag, code := c.code, answer := a }) } := by
  rw [onCommand_ready h, hx]

theorem entryOf_map {α β : Type} {n : Nat} (t : Vector α n) (f : α → β) (i : Fin n) :
    entryOf (t.map f) i = f (entryOf t i) := Vector.getElem_map f i.isLt

theorem mem_toList_iff {α : Type} {n : Nat} {t : Vector α n} {a : α} :
    a ∈ t.toList ↔ ∃ i : Fin n, entryOf t i = a := by
  rw [Vector.mem_toList_iff, Vector.mem_iff_getElem]
  exact ⟨fun ⟨i, hi, h⟩ => ⟨⟨i, hi⟩, h⟩, fun ⟨i, h⟩ => ⟨i.val, i.isLt, h⟩⟩

/-! ## Plans and the night clock (R53, R57 to R59) -/

theorem planEntryOf_isSome (b : Byte) : (planEntryOf b).isSome = true ↔ b.toNat ≤ 7 ∨ b = 0xFF := by
  unfold planEntryOf
  split
  case isTrue h => simp [h]
  case isFalse h => split <;> simp_all

theorem planEntryOf_getD {b : Byte} (h : b.toNat ≤ 7 ∨ b = 0xFF) :
    (planEntryOf b).getD none = if b = 0xFF then none else some b.toNat := by
  unfold planEntryOf
  split
  · rfl
  next hb => rw [if_pos (h.resolve_right hb)]; rfl

theorem applySetPlan_valid {b : Byte} {e : Fin 16} (hb : b.toNat = e.val) {entries : Vector Byte 8}
    (h : ∀ k : Fin 8, (entryOf entries k).toNat ≤ 7 ∨ entryOf entries k = 0xFF) (d : Device) :
    applySetPlan b entries d = (d.onPlan e fun p => { p with
      entries := entries.map fun x => if x = 0xFF then none else some x.toNat },
      { result := .ok, data := (entryOf d.base.plans e).bytes }) := by
  have hall : (entries.toList.all fun x => (planEntryOf x).isSome) = true := by
    rw [List.all_eq_true]
    intro x hx
    obtain ⟨k, rfl⟩ := mem_toList_iff.1 hx
    exact (planEntryOf_isSome _).2 (h k)
  have hmap : (entries.map fun x => (planEntryOf x).getD none) =
      entries.map fun x => if x = 0xFF then none else some x.toNat :=
    table_ext fun k => by rw [entryOf_map, entryOf_map, planEntryOf_getD (h k)]
  simp only [applySetPlan, editionOf_of hb, hall, if_true, okay, hmap]

theorem applySetPlan_bad {b : Byte} {e : Fin 16} (hb : b.toNat = e.val) {entries : Vector Byte 8}
    (h : ∃ k : Fin 8, 7 < (entryOf entries k).toNat ∧ entryOf entries k ≠ 0xFF) (d : Device) :
    applySetPlan b entries d = refuse .range d := by
  have hall : (entries.toList.all fun x => (planEntryOf x).isSome) = false := by
    obtain ⟨k, h7, hff⟩ := h
    refine List.all_eq_false.2 ⟨_, mem_toList_iff.2 ⟨k, rfl⟩, fun hs => ?_⟩
    rcases (planEntryOf_isSome _).1 hs with hs | hs
    · omega
    · exact hff hs
  simp only [applySetPlan, editionOf_of hb, hall, Bool.false_eq_true, if_false]

/-- Settles O36. -/
theorem plansAndTheNightClockAreSet : Obligations.PlansAndTheNightClockAreSet := by
  unfold Obligations.PlansAndTheNightClockAreSet
  refine ⟨fun s tag b e entries hr => ⟨fun hb => ⟨fun h => ?_, fun h => ?_, ?_, ?_⟩, fun hb => ⟨?_, ?_, ?_⟩⟩,
    fun s tag count hr => ⟨fun hc => ?_, fun hc => ?_⟩⟩
  · exact onCommand_answer hr (applySetPlan_valid hb h s.dev)
  · exact onCommand_answer hr (applySetPlan_bad hb h s.dev)
  · refine onCommand_answer (c := .holdEdition b) hr ?_
    simp only [applyCommand, applyHoldEdition, editionOf_of hb, okay]
    rfl
  · refine onCommand_answer (c := .openEdition b) hr ?_
    simp only [applyCommand, applyOpenEdition, editionOf_of hb, okay]
    rfl
  · refine onCommand_answer (c := .setPlan b entries) hr ?_
    simp only [applyCommand, applySetPlan, editionOf_none hb, refuse]
  · refine onCommand_answer (c := .holdEdition b) hr ?_
    simp only [applyCommand, applyHoldEdition, editionOf_none hb, refuse]
  · refine onCommand_answer (c := .openEdition b) hr ?_
    simp only [applyCommand, applyOpenEdition, editionOf_none hb, refuse]
  · refine onCommand_answer (c := .setClock count) hr ?_
    have hn : ¬ Config.dayUnits ≤ count.toNat := Nat.not_le.2 (Nat.lt_succ_of_le hc)
    simp only [applyCommand, applySetClock, hn, if_false, okay]
    rfl
  · refine onCommand_answer (c := .setClock count) hr ?_
    have hn : Config.dayUnits ≤ count.toNat := hc
    simp only [applyCommand, applySetClock, hn, if_true, refuse]

/-! ## Store areas (R33, R34) -/

theorem referring_pos (d : Device) (n : Fin 8) : 0 < d.referring n ↔ ∃ v ∈ d.table, v.area = n := by
  simp only [Device.referring, List.length_pos_iff_exists_mem, List.mem_filter, decide_eq_true_eq]

theorem heldIn_pos (d : Device) (a : Area) : 0 < d.heldIn a ↔
    ∃ (b : Fin 4) (w : BandWrite), entryOf d.feed.buffers b = .writing w ∧ a.base ≤ w.cell ∧
      w.cell < a.base + a.length := by
  simp only [Device.heldIn, List.length_pos_iff_exists_mem, List.mem_filter, mem_toList_iff]
  constructor
  · rintro ⟨x, ⟨b, rfl⟩, hx⟩
    split at hx
    · next w hw =>
      simp only [Bool.and_eq_true, decide_eq_true_eq] at hx
      exact ⟨b, w, hw, hx⟩
    · cases hx
  · rintro ⟨b, w, hw, h1, h2⟩
    exact ⟨_, ⟨b, hw⟩, by simp [h1, h2]⟩

theorem areaBusy_iff (d : Device) (n : Fin 8) : d.areaBusy n = true ↔
    (∃ v ∈ d.table, v.area = n) ∨ (entryOf d.base.areas n).enabled = true ∧
      ∃ (b : Fin 4) (w : BandWrite), entryOf d.feed.buffers b = .writing w ∧
        (entryOf d.base.areas n).base ≤ w.cell ∧
        w.cell < (entryOf d.base.areas n).base + (entryOf d.base.areas n).length := by
  simp only [Device.areaBusy, Bool.or_eq_true, Bool.and_eq_true, decide_eq_true_eq, referring_pos, heldIn_pos]

theorem areaOverlaps_iff (d : Device) (n : Fin 8) (a : Area) : d.areaOverlaps n a = true ↔
    ∃ k : Fin 8, k ≠ n ∧ (entryOf d.base.areas k).enabled = true ∧
      a.base < (entryOf d.base.areas k).base + (entryOf d.base.areas k).length ∧
      (entryOf d.base.areas k).base < a.base + a.length := by
  have hmem : ∀ k : Fin 8, k ∈ [0, 1, 2, 3, 4, 5, 6, 7] := by decide
  simp only [Device.areaOverlaps, List.any_eq_true, Area.shares, Bool.and_eq_true, decide_eq_true_eq, hmem, true_and,
    and_assoc]

theorem area_bad_iff (x : Area) : (x.enabled && !x.inRange) = true ↔
    x.enabled = true ∧ (x.length = 0 ∨ 32639 < x.base ∨ 32640 < x.base + x.length) := by
  have hcells : Config.bandCells = 32640 := rfl
  simp only [Area.inRange, Bool.and_eq_true, Bool.not_eq_true', Bool.and_eq_false_iff, decide_eq_false_iff_not,
    or_assoc]
  refine and_congr_right fun _ => ?_
  omega

/-- Settles O37. -/
theorem defineAreaChecksInOrder : Obligations.DefineAreaChecksInOrder := by
  unfold Obligations.DefineAreaChecksInOrder
  intro s tag a n x bad busy shared hr ha hx hbad hbusy hshared
  rw [← area_bad_iff] at hbad
  rw [← areaBusy_iff] at hbusy
  rw [← areaOverlaps_iff, ← Bool.and_eq_true] at hshared
  have happly : applyCommand (.defineArea a) s.dev =
      if x.enabled && !x.inRange then refuse .range s.dev
      else if s.dev.areaBusy n then refuse .areaBusy s.dev
      else if x.enabled && s.dev.areaOverlaps n x then refuse .areaOverlap s.dev
      else okay { s.dev with base := { s.dev.base with areas := modifyAt s.dev.base.areas n fun _ => x } }
        (halfN (if x.enabled then x.length else 0)) := by
    simp only [applyCommand, applyDefineArea, eightOf_of ha, hx]
    rfl
  refine ⟨fun h1 => ?_, fun h1 h2 => ?_, fun h1 h2 h3 => ?_, fun h1 h2 h3 => ?_⟩ <;>
    refine onCommand_answer (c := .defineArea a) hr (happly.trans ?_)
  · rw [if_pos (hbad.1 h1)]; rfl
  · rw [if_neg (mt hbad.2 h1), if_pos (hbusy.1 h2)]; rfl
  · rw [if_neg (mt hbad.2 h1), if_neg (mt hbusy.2 h2), if_pos (hshared.1 h3)]; rfl
  · rw [if_neg (mt hbad.2 h1), if_neg (mt hbusy.2 h2), if_neg (mt hshared.2 h3)]; rfl

/-! ## Sites and ports -/

theorem produceEnabled_eq (i : SiteId) (d : Device) : produceEnabled i d =
    (d.site i).tone.arm.elim (produce i (d.site i).tone.active.stock d) fun a =>
      if a.stock = (d.site i).tone.active.stock then produce i (d.site i).tone.active.stock d
      else produce i a.stock (produce i (d.site i).tone.active.stock d) := by
  unfold produceEnabled
  dsimp only
  cases (d.site i).tone.arm <;> rfl

/-- Settles O39. -/
theorem enableSiteGoesToWaiting : Obligations.EnableSiteGoesToWaiting := by
  unfold Obligations.EnableSiteGoesToWaiting
  intro s tag b i hr hb
  refine ⟨fun hl => ?_, fun d hl hd => ?_⟩ <;> refine onCommand_answer (c := .enableSite b) hr ?_
  · simp only [applyCommand, applyEnableSite, eightOf_of hb, hl, if_false, okay]
  · simp only [applyCommand, applyEnableSite, eightOf_of hb, hl, if_true, produceEnabled_eq, enableSite,
      site_onSite_same, hd]
    rfl

/-- Settles O41. -/
theorem resumeSiteLeavesTheHalt : Obligations.ResumeSiteLeavesTheHalt := by
  unfold Obligations.ResumeSiteLeavesTheHalt
  intro s tag b i h hr hb
  refine ⟨fun hl => ?_, fun hl hc hh => ?_⟩ <;> refine onCommand_answer (c := .resumeSite b) hr ?_
  · simp only [applyCommand, applyResumeSite, eightOf_of hb, ne_eq, hl, if_true, okay]
  · have hn : ¬((s.dev.site i).win.link ≠ .halted ∨ (s.dev.site i).win.closing = true) := by simp [hl, hc]
    simp only [applyCommand, applyResumeSite, eightOf_of hb, hn, if_false, hh, resumeHalted, Pacer.refillGap]

/-- Settles O42. -/
theorem allotmentsAndPeriodsAreStaged : Obligations.AllotmentsAndPeriodsAreStaged := by
  unfold Obligations.AllotmentsAndPeriodsAreStaged
  intro s tag b i p allotment period hr
  refine ⟨fun hb => ?_, fun hb => ?_, fun hb => ?_, fun hb => ?_⟩
  · refine onCommand_answer (c := .setAllotment b allotment) hr ?_
    simp only [applyCommand, applySetAllotment, eightOf_of hb]
    rfl
  · refine onCommand_answer (c := .setAllotment b allotment) hr ?_
    simp only [applyCommand, applySetAllotment, eightOf_none hb, refuse]
  · refine onCommand_answer (c := .setPort b period) hr ?_
    have hclamped : decide (clamp 1 1000 period.toNat ≠ period.toNat) =
        decide (period.toNat = 0 ∨ 1000 < period.toNat) := by
      refine decide_eq_decide.2 ?_
      unfold clamp
      omega
    simp only [applyCommand, applySetPort, fourOf_of hb, hclamped]
    rfl
  · refine onCommand_answer (c := .setPort b period) hr ?_
    simp only [applyCommand, applySetPort, fourOf_none hb, refuse]

/-! ## SET SITE (R197) -/

theorem flowOf_of {b : Byte} {flow : FlowMode}
    (h : b = 0 ∧ flow = .obey ∨ b = 1 ∧ flow = .ignore ∨ b = 2 ∧ flow = .gap ∨ b = 3 ∧ flow = .gapObey) :
    flowOf b = some flow := by
  rcases h with ⟨rfl, rfl⟩ | ⟨rfl, rfl⟩ | ⟨rfl, rfl⟩ | ⟨rfl, rfl⟩ <;> rfl

theorem boolOf_of {b : Byte} (h : b = 0 ∨ b = 1) : boolOf b = some (decide (b = 1)) := by
  rcases h with rfl | rfl <;> rfl

theorem haltMaskOf_of {b : Byte} (h : b.getLsbD 7 = false) : haltMaskOf b = some (b.setWidth 7) := by
  rw [haltMaskOf, h]; rfl

theorem codeTaken_iff (d : Device) (i : SiteId) (code : Half) :
    d.codeTaken i code = true ↔ ∃ k : SiteId, k ≠ i ∧ (d.site k).cfg.code = code := by
  have hmem : ∀ k : SiteId, k ∈ allSites := by decide
  simp only [Device.codeTaken, List.any_eq_true, Bool.and_eq_true, decide_eq_true_eq, hmem, true_and]

theorem table_ne_iff {α : Type} {n : Nat} {t u : Vector α n} : t ≠ u ↔ ∃ k : Fin n, entryOf t k ≠ entryOf u k := by
  constructor
  · intro h
    exact Classical.byContradiction fun hn => h (table_ext fun k => Classical.byContradiction fun hk => hn ⟨k, hk⟩)
  · rintro ⟨k, hk⟩ rfl
    exact hk rfl

theorem wasClamped_iff (a : SetSiteArgs) (c : Settings) : wasClamped a c = true ↔
    c.gapLength ≠ a.gapLength.toNat ∨ c.ackTimeout ≠ a.ackTimeout.toNat ∨ c.retryLimit ≠ a.retryLimit.toNat ∨
      c.highMark ≠ a.highMark.toNat ∨ c.lowMark ≠ a.lowMark.toNat ∨ c.gateTimeout ≠ a.gateTimeout.toNat ∨
      (∃ k : Fin 4, entryOf c.gains k ≠ (entryOf a.gains k).toNat) ∨ c.minDot ≠ a.minDot.toNat ∨
      c.maxDot ≠ a.maxDot.toNat := by
  simp only [wasClamped, Bool.or_eq_true, decide_eq_true_eq, table_ne_iff, entryOf_map, or_assoc]

/-- The settings of SET SITE, field by field. -/
theorem settingsOf_eq {a : SetSiteArgs} {port : PortId} {flow : FlowMode} {high low : Nat}
    (hh : high = min (max a.highMark.toNat 1) 63) (hl : low = min (min a.lowMark.toNat 62) (high - 1)) :
    settingsOf a port flow (a.haltMask.setWidth 7) (decide (a.solidHold = 1)) =
      { code := a.code, port := port, flow := flow, gapLength := min a.gapLength.toNat 255,
        ackTimeout := min (max a.ackTimeout.toNat 1) 255, retryLimit := min (max a.retryLimit.toNat 1) 15,
        highMark := high, lowMark := low, gateTimeout := min (max a.gateTimeout.toNat 1) 255,
        haltMask := a.haltMask.setWidth 7, gains := a.gains.map fun g => min (max g.toNat 224) 288,
        minDot := min a.minDot.toNat 31, maxDot := min (max a.maxDot.toNat 224) 255,
        solidHold := decide (a.solidHold = 1) } := by
  subst hl hh
  simp only [settingsOf, highMarkOf, lowMarkOf, clamp, Nat.max_zero]

/-- What SET SITE installs, with the pacer's two fields apart (R172, R174). -/
theorem installSettings_eq (i : SiteId) (c : Settings) (d : Device) :
    installSettings i c d = d.onSite i fun st => { st with
      cfg := c
      pace := { st.pace with
        ready := if c.flow = st.cfg.flow then st.pace.ready else true
        gap := if c.flow ≠ st.cfg.flow ∧ (c.flow = .obey ∨ c.flow = .ignore) then none else st.pace.gap } } := by
  unfold installSettings
  refine onSite_congr ?_
  dsimp only
  by_cases hf : c.flow = (d.site i).cfg.flow
  · simp only [hf, if_true, ne_eq, not_true_eq_false, false_and, if_false]
  · cases hc : c.flow <;> simp_all [FlowMode.hasGap]

/-- Settles O38. -/
theorem setSiteClampsAndInstalls : Obligations.SetSiteClampsAndInstalls := by
  unfold Obligations.SetSiteClampsAndInstalls
  intro s tag a i port flow high low cfg hr hi hp hf hm hs hhigh hlow hcfg
  have hset : settingsOf a port flow (a.haltMask.setWidth 7) (decide (a.solidHold = 1)) = cfg :=
    (settingsOf_eq hhigh hlow).trans hcfg.symm
  have happly : applyCommand (.setSite a) s.dev =
      if s.dev.codeTaken i a.code then refuse .range s.dev else takeSettings i a cfg s.dev := by
    simp only [applyCommand, applySetSite, eightOf_of hi, portOf_of hp, flowOf_of hf, haltMaskOf_of hm, boolOf_of hs,
      hset]
  refine ⟨fun hk => ?_, fun hk => ⟨wasClamped a cfg, ?_, ?_⟩⟩
  · refine onCommand_answer (c := .setSite a) hr (happly.trans ?_)
    rw [if_pos ((codeTaken_iff _ _ _).2 hk)]; rfl
  · rw [wasClamped_iff, hcfg]
  · refine onCommand_answer (c := .setSite a) hr (happly.trans ?_)
    have hn : ¬ s.dev.codeTaken i a.code = true := fun h => by
      obtain ⟨k, hki, hkc⟩ := (codeTaken_iff _ _ _).1 h
      exact hk k hki hkc
    have hflow : cfg.flow = flow := by rw [hcfg]
    rw [if_neg hn, takeSettings, installSettings_eq, hflow]

end Sys2Proof.Machine
end

section
/-!
SUPPORT. The commands of targets, pages and deliveries: productions, ARM CURVES, SEND PAGE, OPEN PAGE and APPROVE.
-/

namespace Sys2Proof.Machine
open Sys2Proof.Laws

/-! ## Productions (R104 to R106) -/

theorem modifyAt_modifyAt {α : Type} {n : Nat} (t : Vector α n) (i : Fin n) (f g : α → α) :
    modifyAt (modifyAt t i f) i g = modifyAt t i fun x => g (f x) := by
  unfold modifyAt
  simp

theorem onTarget_onTarget (d : Device) (i : SiteId) (k : Stock) (f g : TargetRecord → TargetRecord) :
    (d.onTarget i k f).onTarget i k g = d.onTarget i k fun r => g (f r) := by
  unfold Device.onTarget Device.onTgt
  rw [onSite_onSite]
  refine onSite_congr ?_
  dsimp only
  rw [modifyAt_modifyAt]

@[simp] theorem onTarget_q (d : Device) (i j : SiteId) (k : Stock) (f : TargetRecord → TargetRecord) :
    ((d.onTarget i k f).site j).q = (d.site j).q := onTgt_q d i j _

@[simp] theorem onTarget_tone (d : Device) (i j : SiteId) (k : Stock) (f : TargetRecord → TargetRecord) :
    ((d.onTarget i k f).site j).tone = (d.site j).tone := onTgt_tone d i j _

theorem siteTarget_eq {g aims : Aims} {o : SiteOffsets}
    (hd : ∀ s : Sep, entryOf aims.density s =
      (min (max (((entryOf g.density s : Nat) : Int) + entryOf o.density s) (o.low : Int)) (o.high : Int)).toNat)
    (ht : ∀ j : Fin 8, entryOf aims.tvi j =
      (min (max (((entryOf g.tvi j : Nat) : Int) + entryOf o.tvi j) 0) 50).toNat) : siteTarget g o = aims := by
  have hdensity : (siteTarget g o).density = aims.density := table_ext fun s => by
    rw [hd]; exact Vector.getElem_zipWith ..
  have htvi : (siteTarget g o).tvi = aims.tvi := table_ext fun j => by
    rw [ht]; exact Vector.getElem_zipWith ..
  exact congr (congrArg Aims.mk hdensity) htvi

theorem produce_passed {i : SiteId} {k : Stock} {d : Device}
    (h : (d.site i).win.link = .disabled ∨ (d.site i).win.closing = true ∨ (entryOf d.base.groups k).set = false) :
    produce i k d = d := by
  have hskip : ((d.site i).absent || !(entryOf d.base.groups k).set) = true := by
    rw [← or_assoc, ← absent_iff] at h
    rcases h with h | h <;> simp [h]
  simp only [produce, hskip, if_true]

theorem produce_made {i : SiteId} {k : Stock} {d : Device} (hl : (d.site i).win.link ≠ .disabled)
    (hc : (d.site i).win.closing = false) (hs : (entryOf d.base.groups k).set = true) :
    produce i k d = postProduced i k (((d.site i).target k).latestGen + 1)
      (siteTarget (entryOf d.base.groups k).aims (entryOf (d.site i).tgt.offsets k))
      (d.onTarget i k fun r => { r with
        aims := some (siteTarget (entryOf d.base.groups k).aims (entryOf (d.site i).tgt.offsets k))
        latestGen := ((d.site i).target k).latestGen + 1 }) := by
  have hmade : ((d.site i).absent || !(entryOf d.base.groups k).set) = false := by
    simp [(absent_eq_false _).2 ⟨hl, hc⟩, hs]
  simp only [produce, hmade, Bool.false_eq_true, if_false]

section
variable {i : SiteId} {k : Stock} {gen : Byte} {aims : Aims} {d : Device}

theorem postProduced_append (hn : ∀ e ∈ (d.site i).q.control, e.isTarget k = false)
    (hr : (d.site i).q.control.length < 16) : postProduced i k gen aims d =
      (d.onTarget i k fun r => { r with owed := false }).onQueue i fun q =>
        { q with control := q.control ++ [.target k gen aims] } := by
  have hnone : (d.site i).q.control.any (·.isTarget k) = false :=
    List.any_eq_false.2 fun e he => by simp [hn e he]
  simp only [postProduced, hnone, Bool.false_eq_true, if_false, (controlRoom_iff _).2 hr, if_true, appendControl]

theorem postProduced_owed (hn : ∀ e ∈ (d.site i).q.control, e.isTarget k = false)
    (hr : 16 ≤ (d.site i).q.control.length) :
    postProduced i k gen aims d = d.onTarget i k fun r => { r with owed := true } := by
  have hnone : (d.site i).q.control.any (·.isTarget k) = false :=
    List.any_eq_false.2 fun e he => by simp [hn e he]
  simp only [postProduced, hnone, Bool.false_eq_true, if_false, mt (controlRoom_iff _).1 (Nat.not_lt.2 hr)]

/-- Replacing the TARGET of a stock in a list that holds it once. -/
theorem map_replace_target {pre post : List ControlEntry} {x y : ControlEntry} (hx : x.isTarget k = true)
    (hn : ∀ e ∈ pre ++ post, e.isTarget k = false) :
    (pre ++ x :: post).map (fun e => if e.isTarget k then y else e) = pre ++ y :: post := by
  have hsame : ∀ l : List ControlEntry, (∀ e ∈ l, e.isTarget k = false) →
      l.map (fun e => if e.isTarget k then y else e) = l := fun l hl =>
    (List.map_congr_left fun e he => by simp [hl e he]).trans (List.map_id l)
  rw [List.map_append, List.map_cons, hsame pre fun e he => hn e (List.mem_append_left _ he),
    hsame post fun e he => hn e (List.mem_append_right _ he), if_pos hx]

theorem postProduced_replace {pre post : List ControlEntry} {oldGen : Byte} {old : Aims}
    (hc : (d.site i).q.control = pre ++ .target k oldGen old :: post)
    (hn : ∀ e ∈ pre ++ post, e.isTarget k = false) : postProduced i k gen aims d =
      (d.onQueue i fun q => { q with control := pre ++ .target k gen aims :: post }).markIf fun p =>
        p.makesTarget i k := by
  have hany : (d.site i).q.control.any (·.isTarget k) = true := by simp [hc]
  simp only [postProduced, hany, if_true]
  congr 1
  refine onSite_congr ?_
  dsimp only
  rw [hc, map_replace_target (by simp) hn]
end

/-- Settles O45. -/
theorem productionMakesAndPostsTheSiteTarget : Obligations.ProductionMakesAndPostsTheSiteTarget := by
  unfold Obligations.ProductionMakesAndPostsTheSiteTarget
  intro i k d aims gen o g ho hg hd ht hgen
  refine ⟨produce_passed, fun hl hc hs => ?_⟩
  have haims : siteTarget (entryOf d.base.groups k).aims (entryOf (d.site i).tgt.offsets k) = aims := by
    rw [← ho, ← hg]; exact siteTarget_eq hd ht
  have hmade := produce_made hl hc hs
  rw [haims, ← hgen] at hmade
  refine ⟨fun hn hr => ?_, fun hn hr => ?_, fun pre post oldGen old hctl hn => ?_⟩ <;> rw [hmade]
  · rw [postProduced_append (by simpa using hn) (by simpa using hr), onTarget_onTarget]
  · rw [postProduced_owed (by simpa using hn) (by simpa using hr), onTarget_onTarget]
  · rw [postProduced_replace (by simpa using hctl) hn]

/-! ## ARM CURVES (R79, R80) -/

theorem armBytes_eq (a : Option Arm) :
    armBytes a = a.elim [0] fun x => [1, byteN x.stock.val, if x.gated = true then 1 else 0] := by
  cases a <;> rfl

theorem cancelArm_eq (i : SiteId) (d : Device) : cancelArm i d = d.onSite i fun st => { st with
    tone := { st.tone with pending := st.tone.active, arm := none }
    tgt := { st.tgt with gate := .idle } } := by
  unfold cancelArm setGate Device.onTgt Device.onTone
  rw [onSite_onSite]

theorem armSite_eq (i : SiteId) (a : Arm) {d e : Device}
    (he : e = d.onSite i fun st => { st with
      tone := { st.tone with pending := { st.tone.pending with stock := a.stock }, arm := some a }
      tgt := { st.tgt with gate := .idle } }) :
    armSite i a d = if (d.site i).tone.active.stock = a.stock then e else produce i a.stock e := by
  subst he
  unfold armSite setGate Device.onTgt Device.onTone
  rw [onSite_onSite]
  simp only [site_onSite_same]

/-- Settles O44. -/
theorem armCurvesArmsOrCancels : Obligations.ArmCurvesArmsOrCancels := by
  unfold Obligations.ArmCurvesArmsOrCancels
  intro s tag b c flags i k before d hr hb hc hbefore hd
  rw [← armBytes_eq] at hbefore
  have happly : applyCommand (.armCurves b c flags) s.dev =
      if flags.getLsbD 1 then okay (arbitrate (lookPageStart i (cancelArm i s.dev))) before
      else if flags.getLsbD 0 ∧ (entryOf s.dev.base.groups k).set = false then refuse .noTarget s.dev
      else okay (arbitrate (lookPageStart i (armSite i { stock := k, gated := flags.getLsbD 0 } s.dev))) before := by
    rw [hbefore]
    simp only [applyCommand, applyArmCurves, eightOf_of hb, fourOf_of hc]
    rfl
  refine ⟨fun h1 => ?_, fun h1 h0 hs => ?_, fun h1 h0 => ?_⟩ <;>
    refine onCommand_answer (c := .armCurves b c flags) hr (happly.trans ?_)
  · rw [if_pos h1, cancelArm_eq]; rfl
  · rw [if_neg (by simp only [h1, Bool.false_eq_true, not_false_eq_true]), if_pos ⟨h0, hs⟩]; rfl
  · have hn : ¬(flags.getLsbD 0 = true ∧ (entryOf s.dev.base.groups k).set = false) := by
      rintro ⟨hg, hs⟩
      rcases h0 with h0 | h0
      · rw [h0] at hg; cases hg
      · rw [h0] at hs; cases hs
    rw [if_neg (by simp only [h1, Bool.false_eq_true, not_false_eq_true]), if_neg hn, armSite_eq i _ hd]; rfl

/-! ## SET GROUP TARGET and SET SITE TARGET (R100 to R103) -/

/-- One thing done at the sites of a list that pass a guard, where doing it at one leaves the guards of the others. -/
theorem foldl_guard {β : Type} {l : List SiteId} (hl : l.Nodup) {guard : β → SiteId → Bool} {f : β → SiteId → β}
    (hg : ∀ (x : β) (i j : SiteId), j ≠ i → guard (f x i) j = guard x j) (x : β) :
    l.foldl (fun x i => if guard x i then f x i else x) x = (l.filter (guard x)).foldl f x := by
  induction l generalizing x with
  | nil => rfl
  | cons i l ih =>
    obtain ⟨hi, hl⟩ := List.nodup_cons.1 hl
    have hsame : l.filter (guard (f x i)) = l.filter (guard x) :=
      List.filter_congr fun j hj => hg x i j fun e => hi (e ▸ hj)
    rw [List.foldl_cons, ih hl]
    cases hx : guard x i <;> simp [hx, hsame]

theorem usesStock_iff (st : Site) (k : Stock) :
    st.usesStock k = true ↔ st.tone.active.stock = k ∨ ∃ a : Arm, st.tone.arm = some a ∧ a.stock = k := by
  unfold Site.usesStock
  cases st.tone.arm <;> simp

theorem postProduced_tone (i j : SiteId) (k : Stock) (gen : Byte) (aims : Aims) (d : Device) :
    ((postProduced i k gen aims d).site j).tone = (d.site j).tone := by
  unfold postProduced
  dsimp only
  split
  · simp
  · split <;> simp [appendControl]

theorem produce_tone (i j : SiteId) (k : Stock) (d : Device) :
    ((produce i k d).site j).tone = (d.site j).tone := by
  unfold produce
  dsimp only
  split
  · rfl
  · rw [postProduced_tone, onTarget_tone]

theorem produce_usesStock (i j : SiteId) (k : Stock) (d : Device) :
    ((produce i k d).site j).usesStock k = (d.site j).usesStock k := by
  simp only [Site.usesStock, produce_tone]

theorem mem_allSites (i : SiteId) : i ∈ allSites := by revert i; decide

/-- A list of sites in ascending index is the sublist of the eight that it holds. -/
theorem ascending_eq_filter {l : List SiteId} (hl : l.Pairwise (fun i j => i < j)) {test : SiteId → Bool}
    (ht : ∀ i : SiteId, i ∈ l ↔ test i = true) : l = allSites.filter test := by
  have hall : allSites.Pairwise (fun i j => i < j) := by decide
  refine eq_of_ascending (fun _ _ => Fin.lt_asymm) hl (hall.filter test) fun i => ?_
  rw [ht, List.mem_filter]
  exact ⟨fun h => ⟨mem_allSites i, h⟩, fun h => h.2⟩

theorem forSites_produceIfUsed (k : Stock) (d : Device) : forSites (produceIfUsed k) d =
    (allSites.filter fun i => (d.site i).usesStock k).foldl (fun x i => produce i k x) d := by
  have hg : ∀ (x : Device) (i j : SiteId), j ≠ i →
      ((produce i k x).site j).usesStock k = (x.site j).usesStock k := fun x i j _ => produce_usesStock i j k x
  rw [← foldl_guard (guard := fun x i => (x.site i).usesStock k) (f := fun x i => produce i k x) allSites_nodup hg]
  rfl

theorem groupClamped_iff (g : SetGroupTargetArgs) : groupClamped g = true ↔
    (∃ j : Fin 4, 250 < (entryOf g.density j).toNat) ∨ ∃ j : Fin 8, 50 < (entryOf g.tvi j).toNat := by
  simp [groupClamped, Vector.any_eq_true, entryOf, Fin.exists_iff]

theorem offsetsClamped_iff (a : SetSiteTargetArgs) : offsetsClamped a = true ↔
    (∃ j : Fin 4, (entryOf a.density j).toInt < -30 ∨ 30 < (entryOf a.density j).toInt) ∨
      (∃ j : Fin 8, (entryOf a.tvi j).toInt < -10 ∨ 10 < (entryOf a.tvi j).toInt) ∨
      250 < a.low.toNat ∨ 250 < a.high.toNat := by
  have hc : ∀ m x : Int, 0 ≤ m → (clampInt m x ≠ x ↔ x < -m ∨ m < x) := fun m x hm => by
    unfold clampInt
    omega
  have hany : ∀ {n : Nat} (t : Vector Half n) (p : Half → Bool),
      t.toList.any p = true ↔ ∃ j : Fin n, p (entryOf t j) = true := fun t p => by
    simp only [List.any_eq_true, mem_toList_iff]
    exact ⟨fun ⟨_, ⟨j, hj⟩, hp⟩ => ⟨j, hj ▸ hp⟩, fun ⟨j, hp⟩ => ⟨_, ⟨j, rfl⟩, hp⟩⟩
  simp only [offsetsClamped, Bool.or_eq_true, hany, decide_eq_true_eq, hc 30 _ (by decide), hc 10 _ (by decide),
    or_assoc]

/-- Settles O46. -/
theorem targetCommandsHoldClampedValues : Obligations.TargetCommandsHoldClampedValues := by
  unfold Obligations.TargetCommandsHoldClampedValues
  refine ⟨usesStock_iff, fun d k sites hs hm => ?_, fun s tag g a i k d e lo hi hr hd hlo hhi he => ⟨fun hk => ?_,
    fun hn => ?_, fun hi hk => ⟨offsetsClamped a, ?_, offsetsClamped_iff a⟩⟩⟩
  · rw [forSites_produceIfUsed, ascending_eq_filter hs fun i => (hm i).trans (usesStock_iff _ _).symm]
  · refine onCommand_answer (c := .setGroupTarget g) hr ?_
    have hclamped : groupClamped g = decide ((∃ j : Fin 4, 250 < (entryOf g.density j).toNat) ∨
        ∃ j : Fin 8, 50 < (entryOf g.tvi j).toNat) := by
      rw [Bool.eq_iff_iff, decide_eq_true_iff, groupClamped_iff]
    simp only [applyCommand, applySetGroupTarget, fourOf_of hk, hclamped, hd]
    rfl
  · have hnone : (allSites.filter fun j => (d.site j).usesStock k) = [] :=
      List.filter_eq_nil_iff.2 fun j _ => by
        rw [Bool.not_eq_true, hd]; exact hn j
    rw [forSites_produceIfUsed, hnone]; rfl
  · refine onCommand_answer (c := .setSiteTarget a) hr ?_
    have hset : s.dev.setOffsets i k (offsetsOf a) = e := by rw [he, hlo, hhi]; rfl
    have huses : (e.site i).usesStock k = (s.dev.site i).usesStock k := by
      rw [he]; simp only [Site.usesStock, onTgt_tone]
    simp only [applyCommand, applySetSiteTarget, eightOf_of hi, fourOf_of hk, hset, produceIfUsed, huses, hlo, hhi]
    rfl

/-! ## SEND PAGE (R71, R72) -/

theorem lookup_out (v : PageVersion) : v.out = true ↔ v.state = .released ∨ v.state = .delivered := by
  simp [PageVersion.out]

/-- An entry joins behind the entries of its own and higher classes (R116). -/
theorem insertEntry_append {e : QueueEntry} {pre post : List QueueEntry}
    (hpre : ∀ x ∈ pre, x.cls.rank ≤ e.cls.rank) (hpost : ∀ x ∈ post, e.cls.rank < x.cls.rank) :
    insertEntry e (pre ++ post) = pre ++ e :: post := by
  induction pre with
  | nil =>
    cases post with
    | nil => rfl
    | cons y ys => simp [insertEntry, hpost y List.mem_cons_self]
  | cons x xs ih =>
    have hx : ¬ e.cls.rank < x.cls.rank := Nat.not_lt.2 (hpre x List.mem_cons_self)
    simp only [List.cons_append, insertEntry, hx, if_false, ih fun y hy => hpre y (List.mem_cons_of_mem _ hy)]

/-- The effect of an enqueue whose place in the queue is known. -/
theorem enqueue_at {i : SiteId} {ref : PageRef} {cls : DeliveryClass} {seps : SepSet} {d : Device}
    {pre post : List QueueEntry} (hq : (d.site i).q.queue = pre ++ post)
    (hpre : ∀ x ∈ pre, x.cls.rank ≤ cls.rank) (hpost : ∀ x ∈ post, cls.rank < x.cls.rank) :
    enqueue i ref cls seps d = lookPageStart i
      ((({ d with orderCounter := d.orderCounter + 1 } : Device).onQueue i fun q => { q with
        queue := pre ++ { ref := ref, cls := cls, seps := seps, order := d.orderCounter } :: post }).onDelivery
        ref.uid i fun r => { r with state := .queued, cause := none }) := by
  have hins : ∀ e : QueueEntry, e.cls = cls → insertEntry e (d.site i).q.queue = pre ++ e :: post := fun e he => by
    rw [hq]; exact insertEntry_append (he ▸ hpre) (he ▸ hpost)
  unfold enqueue
  dsimp only
  congr 2
  refine onSite_congr ?_
  exact congrArg (fun l => { d.site i with q := { (d.site i).q with queue := l } })
    (hins { ref := ref, cls := cls, seps := seps, order := d.orderCounter } rfl)

/-- Settles O34. -/
theorem sendPageEnqueuesAtTheSite : Obligations.SendPageEnqueuesAtTheSite := by
  unfold Obligations.SendPageEnqueuesAtTheSite
  intro s tag b i key v pre post hr hb hk hv
  have happly : applyCommand (.sendPage key b) s.dev = sendVersion v i s.dev := by
    simp only [applyCommand, applySendPage, eightOf_of hb, hk, hv, Bool.true_eq_false, if_false]
  refine ⟨fun h1 h2 => ?_, fun hout => ⟨fun ha => ?_, fun hl hc => ⟨fun hp => ?_, fun hp hq hpre hpost => ?_⟩⟩⟩ <;>
    refine onCommand_answer (c := .sendPage key b) hr (happly.trans ?_)
  · have hn : v.out = false := by
      rw [← Bool.not_eq_true, lookup_out, not_or]; exact ⟨h1, h2⟩
    simp only [sendVersion, hn, if_true, refuse]
  · simp only [sendVersion, (lookup_out v).2 hout, (absent_iff _).2 ha, Bool.true_eq_false, if_false, if_true, refuse]
  · simp only [sendVersion, (lookup_out v).2 hout, (absent_eq_false _).2 ⟨hl, hc⟩, hp, Bool.true_eq_false,
      Bool.false_eq_true, if_false, if_true]
  · simp only [sendVersion, (lookup_out v).2 hout, (absent_eq_false _).2 ⟨hl, hc⟩, hp, Bool.true_eq_false,
      Bool.false_eq_true, if_false]
    rw [enqueue_at hq]
    · rfl
    · intro x hx
      cases hcls : x.cls with
      | first => exact absurd hcls (hpre x hx)
      | replate => exact Nat.le_refl _
      | remake => exact Nat.zero_le _
    · intro x hx
      rw [hpost x hx]
      decide

end Sys2Proof.Machine
end

section
/-!
SUPPORT. OPEN PAGE, APPROVE, WITHDRAW and PURGE: the searches of the page table they rest on, and what each leaves.
-/

namespace Sys2Proof.Machine
open Sys2Proof.Laws

/-! ## Searches -/

/-- In a list in ascending order the first that passes is the least that passes. -/
theorem find?_of_ascending {n : Nat} {l : List (Fin n)} (hl : l.Pairwise (fun i j => i < j)) {test : Fin n → Bool}
    {i : Fin n} (hi : i ∈ l) (ht : test i = true) (hb : ∀ j : Fin n, j < i → test j = false) :
    l.find? test = some i := by
  induction l with
  | nil => cases hi
  | cons a l ih =>
    obtain ⟨ha, hl⟩ := List.pairwise_cons.1 hl
    rcases List.mem_cons.1 hi with rfl | hm
    · exact List.find?_cons_of_pos ht
    · rw [List.find?_cons_of_neg (by simp [hb a (ha i hm)])]
      exact ih hl hm

/-- The higher of two, over a list whose highest is one of its members (R130). -/
theorem foldl_higher_of {l : List PageVersion} {b : Option PageVersion} {c : PageVersion}
    (hl : ∀ x ∈ l, x = c ∨ x.version < c.version) (hb : ∀ y ∈ b, y = c ∨ y.version < c.version)
    (hc : c ∈ l ∨ b = some c) : l.foldl higher b = some c := by
  induction l generalizing b with
  | nil => exact hc.resolve_left (by simp)
  | cons x l ih =>
    have hx := hl x List.mem_cons_self
    refine ih (fun y hy => hl y (List.mem_cons_of_mem _ hy)) (fun y hy => ?_) ?_
    · cases b with
      | none => cases hy; exact hx
      | some z =>
        simp only [higher] at hy
        split at hy <;> cases hy
        · exact hx
        · exact hb _ rfl
    · by_cases hxc : x = c
      · right
        subst hxc
        cases b with
        | none => rfl
        | some z =>
          simp only [higher]
          split
          · rfl
          next hlt => rw [(hb z rfl).resolve_right hlt]
      · rcases hc with hc | hc
        · exact .inl ((List.mem_cons.1 hc).resolve_left fun e => hxc e.symm)
        · right
          subst hc
          simp only [higher, if_neg (Nat.not_lt.2 (Nat.le_of_lt (hx.resolve_left hxc)))]

theorem highest_of {d : Device} {test : PageVersion → Bool} {c : PageVersion} (hm : c ∈ d.table) (hc : test c = true)
    (hl : ∀ x ∈ d.table, test x = true → x = c ∨ x.version < c.version) : d.highest test = some c :=
  foldl_higher_of (fun x hx => hl x (List.mem_filter.1 hx).1 (List.mem_filter.1 hx).2) (fun _ hy => by cases hy)
    (.inl (List.mem_filter.2 ⟨hm, hc⟩))

theorem highest_none {d : Device} {test : PageVersion → Bool} (h : ∀ v ∈ d.table, test v = false) :
    d.highest test = none := by
  have hnil : d.table.filter test = [] := List.filter_eq_nil_iff.2 fun v hv => by simp [h v hv]
  rw [Device.highest, hnil]; rfl

/-! ## Areas and reclaimable versions (R23, R24, R32) -/

theorem takes_iff (a : Area) (e : BitVec 4) :
    a.takes e = true ↔ a.enabled = true ∧ e &&& a.mask = a.mtch &&& a.mask := by
  simp [Area.takes]

theorem resolveArea_of {d : Device} {e : BitVec 4} {n : Fin 8} (hn : n.val < 7)
    (ht : (entryOf d.base.areas n).takes e = true)
    (hb : ∀ m : Fin 8, m < n → (entryOf d.base.areas m).takes e = false) : d.resolveArea e = some n := by
  have hsorted : [0, 1, 2, 3, 4, 5, (6 : Fin 8)].Pairwise (fun i j => i < j) := by decide
  have hmem : ∀ m : Fin 8, m.val < 7 → m ∈ [0, 1, 2, 3, 4, 5, (6 : Fin 8)] := by decide
  rw [Device.resolveArea, find?_of_ascending hsorted (hmem n hn) ht hb]

theorem resolveArea_last {d : Device} {e : BitVec 4}
    (h : ∀ n : Fin 8, n.val < 7 → (entryOf d.base.areas n).takes e = false) :
    d.resolveArea e = if (entryOf d.base.areas 7).enabled = true then some 7 else none := by
  have hbelow : ∀ n ∈ [0, 1, 2, 3, 4, 5, (6 : Fin 8)], n.val < 7 := by decide
  have hnone : [0, 1, 2, 3, 4, 5, (6 : Fin 8)].find? (fun n => (entryOf d.base.areas n).takes e) = none :=
    List.find?_eq_none.2 fun n hn => by simp [h n (hbelow n hn)]
  rw [Device.resolveArea, hnone]

theorem holds_eq_false (st : Site) (u : Nat) : st.holds u = false ↔
    (∀ e ∈ st.q.queue, e.ref.uid ≠ u) ∧ ∀ c : Delivery, st.q.current = some c → c.ref.uid ≠ u := by
  unfold Site.holds
  cases st.q.current <;> simp

theorem preparesVersion_eq_false (d : Device) (u : Nat) : d.preparesVersion u = false ↔
    ∀ p : Preparation, d.builder.inFlight = some p → (∀ j : PlateJob, p.job = .plate j → j.ref.uid ≠ u) ∧
      ∀ (id : Nat) (ref : PageRef) (ident : Ident) (payload : List Byte), p.job = .pageEnd id ref ident payload →
        ref.uid ≠ u := by
  unfold Device.preparesVersion
  cases d.builder.inFlight with
  | none => simp
  | some p =>
    obtain ⟨site, slot, job, discard⟩ := p
    cases job with
    | plate j => simp [Job.ref]
    | pageEnd id ref ident payload =>
      constructor
      · intro h p hp
        cases hp
        refine ⟨fun j hj => (by cases hj), fun id ref ident payload hj => ?_⟩
        cases hj
        exact of_decide_eq_false h
      · intro h
        exact decide_eq_false ((h _ rfl).2 id ref ident payload rfl)
    | control e => simp [Job.ref]

theorem reclaimable_iff (d : Device) (v : PageVersion) : d.reclaimable v = true ↔ v.uid ∈ d.retained ∧
    (v.state = .delivered ∨ v.state = .superseded ∨ v.state = .withdrawn) ∧
    (∀ i : SiteId, (d.site i).holds v.uid = false) ∧ d.preparesVersion v.uid = false := by
  simp [Device.reclaimable, mem_allSites, or_assoc, and_assoc]

theorem candidate_of {d : Device} {test : PageVersion → Bool} {pre post : List Nat} {y : PageVersion}
    (hl : d.retained = pre ++ y.uid :: post) (hy : d.record y.uid = some y) (hr : d.reclaimable y = true)
    (ht : test y = true)
    (hpre : ∀ u ∈ pre, ∀ z : PageVersion, d.record u = some z → (d.reclaimable z && test z) = false) :
    d.candidate test = some y := by
  have hnone : pre.findSome? (fun u => (d.record u).filter fun v => d.reclaimable v && test v) = none := by
    rw [List.findSome?_eq_none_iff]
    intro u hu
    rw [Option.filter_eq_none_iff]
    intro z hz
    simp [hpre u hu z hz]
  rw [Device.candidate, hl, List.findSome?_append, hnone, Option.none_or, List.findSome?_cons, hy]
  simp [Option.filter, hr, ht]

theorem candidate_none {d : Device} {test : PageVersion → Bool}
    (h : ∀ u ∈ d.retained, ∀ z : PageVersion, d.record u = some z → (d.reclaimable z && test z) = false) :
    d.candidate test = none := by
  rw [Device.candidate, List.findSome?_eq_none_iff]
  intro u hu
  rw [Option.filter_eq_none_iff]
  intro z hz
  simp [h u hu z hz]

/-! ## OPEN PAGE (R4 to R8) -/

theorem timeInRange_timeOf (b : Bool) (w : Word) :
    timeInRange (timeOf b w) = true ↔ (b = true → w.toNat < 864000) := by
  cases b
  · simp [timeOf, timeInRange]
  · simp only [timeOf, timeInRange, if_true, decide_eq_true_eq, true_imp_iff]; rfl

theorem keyInRange_iff (k : KeyField) : keyInRange k = true ↔
    k.sect.toNat ≤ 7 ∧ 1 ≤ k.page.toNat ∧ k.page.toNat ≤ 96 ∧ k.zone.toNat ≤ 7 := by
  simp only [keyInRange, placeInRange, Bool.and_eq_true, decide_eq_true_eq, and_assoc]

theorem openInRange_iff (a : OpenPageArgs) : openInRange a = true ↔
    a.key.sect.toNat ≤ 7 ∧ 1 ≤ a.key.page.toNat ∧ a.key.page.toNat ≤ 96 ∧ a.key.zone.toNat ≤ 7 ∧
    versionOf a.key ≠ 0 ∧ 1 ≤ a.width.toNat ∧ a.width.toNat ≤ 8192 ∧ 1 ≤ a.height.toNat ∧ a.height.toNat ≤ 8192 ∧
    (a.flags.getLsbD 0 = true → a.releaseAt.toNat < 864000) ∧
    (a.flags.getLsbD 1 = true → a.latest.toNat < 864000) := by
  simp only [openInRange, Bool.and_eq_true, keyInRange_iff, timeInRange_timeOf, decide_eq_true_eq, and_assoc]
  exact Iff.rfl

theorem sepsOf_of {b : Byte} (h : b.toNat < 16) : sepsOf b = some (b.setWidth 4) := if_pos h

theorem setWidth_four_eq_zero {b : Byte} (h : b.toNat < 16) : b.setWidth 4 = 0 ↔ b.toNat = 0 := by
  rw [← BitVec.toNat_inj, BitVec.toNat_setWidth, Nat.mod_eq_of_lt (by omega)]
  rfl

theorem applyOpenPage_range {a : OpenPageArgs} (h : openInRange a = false ∨ a.seps.toNat = 0 ∨ 16 ≤ a.seps.toNat)
    (d : Device) : applyOpenPage a d = refuse .range d := by
  by_cases h16 : a.seps.toNat < 16
  · have hbad : openInRange a = false ∨ a.seps.setWidth 4 = 0 := by
      rw [setWidth_four_eq_zero h16]
      exact h.imp_right fun h => h.resolve_right (Nat.not_le.2 h16)
    simp only [applyOpenPage, sepsOf_of h16, hbad, if_true]
  · simp only [applyOpenPage, sepsOf, h16, if_false]

section
variable {a : OpenPageArgs} {d : Device} (hr : openInRange a = true) (h0 : a.seps.toNat ≠ 0) (h16 : a.seps.toNat < 16)
include hr h0 h16

theorem openPage_fieldsPass : ¬(openInRange a = false ∨ a.seps.setWidth 4 = 0) := by
  rw [setWidth_four_eq_zero h16]
  simp [hr, h0]

theorem applyOpenPage_stale {x : PageVersion} (hx : d.highestPresent (keyOf a.key) = some x)
    (hv : versionOf a.key ≤ x.version) :
    applyOpenPage a d = (d, { result := .staleVersion, data := [byteN x.version] }) := by
  simp only [applyOpenPage, sepsOf_of h16, openPage_fieldsPass hr h0 h16, if_false, hx, Option.filter,
    decide_eq_true hv, if_true]

/-- A version above every present one of its key is not stale (R5). -/
theorem applyOpenPage_above (h : ∀ v ∈ d.table, v.key = keyOf a.key → v.version < versionOf a.key) :
    (d.resolveArea a.key.edition = none → applyOpenPage a d = refuse .noArea d) ∧
      ∀ n : Fin 8, d.resolveArea a.key.edition = some n →
        applyOpenPage a d = openWithRoom a (a.seps.setWidth 4) n d := by
  have hnone : ((d.highestPresent (keyOf a.key)).filter fun v => decide (versionOf a.key ≤ v.version)) = none := by
    rw [Option.filter_eq_none_iff]
    intro v hv
    obtain ⟨hm, hk⟩ := highest_some hv
    have hlt := h v hm (of_decide_eq_true hk)
    simp [Nat.not_le.2 hlt]
  refine ⟨fun hn => ?_, fun n hn => ?_⟩
  · simp only [applyOpenPage, sepsOf_of h16, openPage_fieldsPass hr h0 h16, if_false, hnone, hn]
  · simp only [applyOpenPage, sepsOf_of h16, openPage_fieldsPass hr h0 h16, if_false, hnone, hn]
end

theorem newVersion_eq (u : Nat) (a : OpenPageArgs) (n : Fin 8) : newVersion u a (a.seps.setWidth 4) n =
    { uid := u, key := keyOf a.key, version := versionOf a.key, width := a.width.toNat, height := a.height.toNat,
      seps := a.seps.setWidth 4,
      bands := Vector.ofFn fun k : Fin 4 => if a.seps.getLsbD k.val = true
        then List.replicate ((a.height.toNat + 127) / 128) none else [],
      area := n, digest := 0,
      releaseAt := if a.flags.getLsbD 0 = true then some a.releaseAt.toNat else none,
      latest := if a.flags.getLsbD 1 = true then some a.latest.toNat else none,
      approval := none, state := .filling,
      records := Vector.replicate 8 { state := .none, late := false, cause := none }, retained := none } := by
  have hbit : ∀ k : Fin 4, SepSet.has (a.seps.setWidth 4) k = a.seps.getLsbD k.val := fun k => by
    simp [SepSet.has]
  simp only [newVersion, hbit]
  rfl

/-- Settles O31. -/
theorem openPageCreatesAFillingVersion : Obligations.OpenPageCreatesAFillingVersion := by
  unfold Obligations.OpenPageCreatesAFillingVersion
  refine ⟨openInRange_iff, fun d key x hx hk hy => ?_, fun d e fits hfits => ⟨fun n hn hb => ?_, fun hn => ?_⟩,
    fun d v => ?_, fun d => ⟨fun pre post y hl hy hr hp => ?_, fun h => ?_⟩, fun s tag a n x hr =>
      ⟨fun h => ?_, fun hin h0 h16 => ⟨fun hx hv => ?_, fun hv => ⟨fun hn => ?_, fun hn hf hc => ?_, fun hn hf => ?_,
        fun y e hn hf hc he => ?_⟩⟩⟩⟩
  · exact highest_of hx (by simpa using hk) fun y hm ht => hy y hm (of_decide_eq_true ht)
  · obtain ⟨h7, ht⟩ := (hfits n).1 hn
    refine resolveArea_of h7 ((takes_iff _ _).2 ht) fun m hm => ?_
    rw [← Bool.not_eq_true, takes_iff]
    exact fun ht => hb m hm ((hfits m).2 ⟨Nat.lt_trans hm h7, ht⟩)
  · refine resolveArea_last fun m h7 => ?_
    rw [← Bool.not_eq_true, takes_iff]
    exact fun ht => hn m ((hfits m).2 ⟨h7, ht⟩)
  · simp only [reclaimable_iff, holds_eq_false, preparesVersion_eq_false]
  · exact candidate_of hl hy hr rfl fun u hu z hz => by simp [hp u hu z hz]
  · exact candidate_none fun u hu z hz => by simp [h u hu z hz]
  · exact onCommand_answer (c := .openPage a) hr (applyOpenPage_range h s.dev)
  · exact onCommand_answer (c := .openPage a) hr (applyOpenPage_stale hin h0 h16 hx hv)
  · exact onCommand_answer (c := .openPage a) hr ((applyOpenPage_above hin h0 h16 hv).1 hn)
  · refine onCommand_answer (c := .openPage a) hr (((applyOpenPage_above hin h0 h16 hv).2 n hn).trans ?_)
    have hfull : ¬ s.dev.table.length < Config.tableCapacity := Nat.not_lt.2 hf
    simp only [openWithRoom, hfull, if_false, hc, refuse]
  · refine onCommand_answer (c := .openPage a) hr (((applyOpenPage_above hin h0 h16 hv).2 n hn).trans ?_)
    have hroom : s.dev.table.length < Config.tableCapacity := hf
    simp only [openWithRoom, hroom, if_true, createVersion, newVersion_eq]
    rfl
  · refine onCommand_answer (c := .openPage a) hr (((applyOpenPage_above hin h0 h16 hv).2 n hn).trans ?_)
    have hfull : ¬ s.dev.table.length < Config.tableCapacity := Nat.not_lt.2 hf
    simp only [openWithRoom, hfull, if_false, hc, createVersion, he]
    rfl

/-! ## APPROVE (R11 to R13) -/

/-- Settles O32. -/
theorem approveRecordsOrChecks : Obligations.ApproveRecordsOrChecks := by
  unfold Obligations.ApproveRecordsOrChecks
  intro s tag a v time hr htime
  have htime : s.dev.time = time := htime.symm
  refine ⟨fun h => ?_, fun h1 h63 hv => ?_⟩
  · refine onCommand_answer (c := .approve a) hr ?_
    simp only [applyCommand, applyApprove, h, if_true, refuse]
  · have hn : ¬(a.station.toNat = 0 ∨ 63 < a.station.toNat) := by omega
    have happly : applyCommand (.approve a) s.dev = approveVersion v
        { station := a.station.toNat, expected := a.expected, approvedAt := time, checked := false } s.dev := by
      simp only [applyCommand, applyApprove, hn, if_false, hv, htime]
    refine ⟨fun hs => ?_, fun hs he => ?_, fun hs he => ?_, fun hf hh => ?_⟩ <;>
      refine onCommand_answer (c := .approve a) hr (happly.trans ?_)
    · simp only [approveVersion, hs]
    · simp only [approveVersion, hs, he, if_true, okay, evaluateOne]
    · simp only [approveVersion, hs, he, if_false]
    · cases hs : v.state with
      | filling => exact absurd hs hf
      | held => exact absurd hs hh
      | approved => simp only [approveVersion, hs, refuse]
      | released => simp only [approveVersion, hs, refuse]
      | delivered => simp only [approveVersion, hs, refuse]
      | superseded => simp only [approveVersion, hs, refuse]
      | withdrawn => simp only [approveVersion, hs, refuse]

end Sys2Proof.Machine
end

section
/-!
SUPPORT. WITHDRAW and PURGE: the recall, the zone revert and the parts of the device a condition leaves alone.
-/

namespace Sys2Proof.Machine
open Sys2Proof.Laws

/-! ## What a condition and a posting leave alone -/

/-- A raised condition changes the site and the feed port only. -/
theorem raise_rest (i : SiteId) (det : CondDetails) (d : Device) :
    { raise i det d with sites := d.sites, feed := d.feed } = d := by
  unfold raise
  dsimp only
  split
  · rfl
  · rw [haltSite_eq]; rfl
  · rfl
  · rfl

@[simp] theorem raise_table (i : SiteId) (det : CondDetails) (d : Device) : (raise i det d).table = d.table := by
  have h := congrArg Device.table (raise_rest i det d)
  exact h

@[simp] theorem raise_record (i : SiteId) (det : CondDetails) (d : Device) (u : Nat) :
    (raise i det d).record u = d.record u := by
  simp only [Device.record, raise_table]

@[simp] theorem postCancel_table (i : SiteId) (key : PageKey) (n : Nat) (r : CancelReason) (d : Device) :
    (postCancel i key n r d).table = d.table := by
  unfold postCancel
  split
  · rfl
  · split
    · rfl
    · exact raise_table i _ d

@[simp] theorem postCancel_record (i : SiteId) (key : PageKey) (n : Nat) (r : CancelReason) (d : Device) (u : Nat) :
    (postCancel i key n r d).record u = d.record u := by
  simp only [Device.record, postCancel_table]

theorem postCancel_absent {i : SiteId} {d : Device} (h : (d.site i).absent = true) (key : PageKey) (n : Nat)
    (r : CancelReason) : postCancel i key n r d = d := by
  simp only [postCancel, h, if_true]

theorem postCancel_room {i : SiteId} {d : Device} (h : (d.site i).absent = false)
    (hr : (d.site i).q.control.length < 16) (key : PageKey) (n : Nat) (r : CancelReason) :
    postCancel i key n r d = d.onQueue i fun q => { q with control := q.control ++ [.cancel key n r] } := by
  simp only [postCancel, h, Bool.false_eq_true, if_false, (controlRoom_iff _).2 hr, if_true, appendControl]

theorem postCancel_full {i : SiteId} {d : Device} (h : (d.site i).absent = false)
    (hr : 16 ≤ (d.site i).q.control.length) (key : PageKey) (n : Nat) (r : CancelReason) :
    postCancel i key n r d = raise i (.overflowCancel key n) d := by
  simp only [postCancel, h, Bool.false_eq_true, if_false, mt (controlRoom_iff _).1 (Nat.not_lt.2 hr)]

/-! ## Records -/

theorem onRecord_onRecord (d : Device) {u : Nat} {f : PageVersion → PageVersion} (hf : ∀ v, (f v).uid = v.uid)
    (g : PageVersion → PageVersion) : (d.onRecord u f).onRecord u g = d.onRecord u fun v => g (f v) := by
  unfold Device.onRecord
  simp only [List.map_map, Device.mk.injEq, true_and, and_true]
  refine List.map_congr_left fun v _ => ?_
  simp only [Function.comp_apply]
  by_cases h : v.uid = u
  · rw [if_pos h, if_pos h, if_pos ((hf v).trans h)]
  · rw [if_neg h, if_neg h, if_neg h]

theorem retain_new {u : Nat} {d : Device} (h : u ∉ d.retained) : retain u d =
    { d.onRecord u (fun v => { v with retained := some d.retainedCount }) with
      retained := d.retained ++ [u], retainedCount := d.retainedCount + 1 } := if_neg h

theorem toList_eq_map {α : Type} (t : Vector α 8) : t.toList = allSites.map (entryOf t) := by
  have hall : allSites = List.finRange 8 := by decide
  rw [hall]
  exact List.ext_getElem (by simp) fun k h1 h2 => by simp [entryOf]

/-- The unfinished deliveries of a version, counted site by site. -/
theorem unfinished_eq (v : PageVersion) : v.unfinished =
    (allSites.filter fun i => decide ((v.at i).state = .queued ∨ (v.at i).state = .sending)).length := by
  have hfinal : ∀ s : DeliveryState, (!s.final) = decide (s = .queued ∨ s = .sending) := by
    intro s; cases s <;> rfl
  rw [PageVersion.unfinished, toList_eq_map, List.filter_map, List.length_map]
  exact congrArg List.length (List.filter_congr fun i _ => hfinal (v.at i).state)

theorem live_eq_false (v : PageVersion) : v.live = false ↔ v.state = .superseded ∨ v.state = .withdrawn := by
  unfold PageVersion.live; cases v.state <;> simp

theorem live_iff (v : PageVersion) : v.live = true ↔ v.state ≠ .superseded ∧ v.state ≠ .withdrawn := by
  rw [← Bool.not_eq_false, live_eq_false, not_or]

/-! ## The recall (R21, R128) -/

/-- The sites the recall of version `v` posts at. -/
def Device.recalls (d : Device) (v : PageVersion) (i : SiteId) : Bool :=
  decide ((v.at i).state = .acked) && !(d.site i).absent

theorem recallVersion_fold {l : List SiteId} (hl : l.Nodup) {v : PageVersion} (d : Device) (n : Nat) :
    l.foldl (fun (p : Device × Nat) i =>
      (postCancel i v.key v.version .recalled p.1, p.2 + if (p.1.site i).controlRoom then 1 else 0)) (d, n) =
      (l.foldl (fun e i => postCancel i v.key v.version .recalled e) d,
        n + (l.filter fun i => (d.site i).controlRoom).length) := by
  induction l generalizing d n with
  | nil => rfl
  | cons i l ih =>
    obtain ⟨hi, hl⟩ := List.nodup_cons.1 hl
    have hsame : (l.filter fun j => ((postCancel i v.key v.version .recalled d).site j).controlRoom) =
        l.filter fun j => (d.site j).controlRoom :=
      List.filter_congr fun j hj => by rw [site_postCancel_ne fun e : j = i => hi (e ▸ hj)]
    rw [List.foldl_cons, List.foldl_cons, ih hl, hsame, List.filter_cons]
    split <;> simp [Nat.add_assoc, Nat.add_comm 1]

/-- One site's turn of the recall, as `recallVersion` folds it. -/
def recallAt (u : Nat) (p : Device × Nat) (i : SiteId) : Device × Nat :=
  match p.1.record u with
  | some v =>
    if (v.at i).state = .acked ∧ ¬ (p.1.site i).absent then
      (postCancel i v.key v.version .recalled p.1, p.2 + if (p.1.site i).controlRoom then 1 else 0)
    else p
  | none => p

theorem recallVersion_eq_foldl (u : Nat) (d : Device) : recallVersion u d = allSites.foldl (recallAt u) (d, 0) := rfl

theorem recallAt_eq {p : Device × Nat} {v : PageVersion} (hp : p.1.record v.uid = some v) (i : SiteId) :
    recallAt v.uid p i = if p.1.recalls v i then
      (postCancel i v.key v.version .recalled p.1, p.2 + if (p.1.site i).controlRoom then 1 else 0) else p := by
  simp [recallAt, hp, Device.recalls]

theorem foldl_recallAt {v : PageVersion} (l : List SiteId) (p : Device × Nat) (hp : p.1.record v.uid = some v) :
    l.foldl (recallAt v.uid) p = l.foldl (fun p i => if p.1.recalls v i then
      (postCancel i v.key v.version .recalled p.1, p.2 + if (p.1.site i).controlRoom then 1 else 0) else p) p := by
  induction l generalizing p with
  | nil => rfl
  | cons i l ih =>
    rw [List.foldl_cons, List.foldl_cons, ← recallAt_eq hp]
    refine ih _ ?_
    rw [recallAt_eq hp]
    split
    · simpa using hp
    · exact hp

theorem recallVersion_eq {d : Device} {v : PageVersion} (hv : d.record v.uid = some v) :
    recallVersion v.uid d =
      ((allSites.filter (d.recalls v)).foldl (fun e i => postCancel i v.key v.version .recalled e) d,
        ((allSites.filter (d.recalls v)).filter fun i => (d.site i).controlRoom).length) := by
  have hguard : ∀ (p : Device × Nat) (i j : SiteId), j ≠ i →
      (postCancel i v.key v.version .recalled p.1).recalls v j = p.1.recalls v j := fun p i j hj => by
    simp only [Device.recalls, site_postCancel_ne hj]
  rw [recallVersion_eq_foldl, foldl_recallAt _ _ hv,
    foldl_guard (guard := fun (p : Device × Nat) i => p.1.recalls v i)
      (f := fun (p : Device × Nat) i =>
        (postCancel i v.key v.version .recalled p.1, p.2 + if (p.1.site i).controlRoom then 1 else 0))
      allSites_nodup hguard, recallVersion_fold (allSites_nodup.filter _), Nat.zero_add]

/-! ## Zone revert (R69, R70) -/

theorem foldl_higher_isSome (l : List PageVersion) {b : Option PageVersion} (h : l ≠ [] ∨ b.isSome = true) :
    (l.foldl higher b).isSome = true := by
  induction l generalizing b with
  | nil => exact h.resolve_left fun hn => hn rfl
  | cons x l ih =>
    refine ih (.inr ?_)
    cases b with
    | none => rfl
    | some y => simp only [higher]; split <;> rfl

theorem highest_isSome {d : Device} {test : PageVersion → Bool} :
    (d.highest test).isSome = true ↔ ∃ v ∈ d.table, test v = true := by
  constructor
  · intro h
    obtain ⟨v, hv⟩ := Option.isSome_iff_exists.1 h
    exact ⟨v, highest_some hv⟩
  · rintro ⟨v, hm, hv⟩
    exact foldl_higher_isSome _ (.inl (List.ne_nil_of_mem (List.mem_filter.2 ⟨hm, hv⟩)))

theorem highestLive_isSome (d : Device) (key : PageKey) : (d.highestLive key).isSome = true ↔
    ∃ v ∈ d.table, v.key = key ∧ v.state ≠ .superseded ∧ v.state ≠ .withdrawn := by
  rw [Device.highestLive, highest_isSome]
  simp only [Bool.and_eq_true, decide_eq_true_eq, live_iff]

theorem planIndex_of {n : Nat} {e : Fin 16} (h : e.val = n) : planIndex n = some e := by
  subst h
  exact dif_pos e.isLt

theorem planEntry_of {d : Device} {n : Nat} {e : Fin 16} (h : e.val = n) (i : SiteId) :
    d.planEntry i n = entryOf (entryOf d.base.plans e).entries i := by
  rw [Device.planEntry, planIndex_of h]

theorem zoneRevert_none {d : Device} {w : PageVersion}
    (h : w.key.zone = 0 ∨ ∃ v ∈ d.table, v.key = w.key ∧ v.state ≠ .superseded ∧ v.state ≠ .withdrawn) :
    zoneRevert w d = d := by
  rw [← highestLive_isSome] at h
  simp only [zoneRevert, h, if_true]

/-- Zone revert with no live version of the zone's key left. -/
theorem zoneRevert_applies {d : Device} {w : PageVersion} (hz : w.key.zone ≠ 0)
    (hl : ∀ v ∈ d.table, v.key = w.key → v.state = .superseded ∨ v.state = .withdrawn) :
    (d.highest (fun v => decide (v.key = { w.key with zone := 0 }) && v.out) = none →
      zoneRevert w d = d.event (.zoneReverted w.key.pos w.key.zone w.version none 0)) ∧
    ∀ c : PageVersion, d.highest (fun v => decide (v.key = { w.key with zone := 0 }) && v.out) = some c →
      zoneRevert w d = ((allSites.filter (d.revertsAt c w.key.zone)).foldl
        (fun d i => enqueue i c.ref .replate c.seps d) d).event
        (.zoneReverted w.key.pos w.key.zone w.version (some c.version)
          (siteFlags (allSites.filter (d.revertsAt c w.key.zone)))) := by
  have hn : ¬(w.key.zone = 0 ∨ (d.highestLive w.key).isSome = true) := by
    rw [highestLive_isSome]
    rintro (h | ⟨v, hm, hk, h1, h2⟩)
    · exact hz h
    · exact (hl v hm hk).elim h1 h2
  refine ⟨fun h => ?_, fun c h => ?_⟩ <;> simp only [zoneRevert, hn, if_false, h]

/-! ## The commands -/

theorem applyWithdraw_live {key : KeyField} {v : PageVersion} {d : Device}
    (hv : d.lookup (keyOf key) (versionOf key) = some v) (hl : v.live = true) (flags : Byte) :
    applyWithdraw key flags d = withdrawVersion v (flags.getLsbD 0) d := by
  simp only [applyWithdraw, hv, hl, if_true, optionFlag]

theorem withdraw_retained {d : Device} {v : PageVersion} (h : v.uid ∉ d.retained) :
    retain v.uid (d.onRecord v.uid fun y => { y with state := .withdrawn }) =
      { d with
        table := d.table.map fun y => if y.uid = v.uid
          then { y with state := .withdrawn, retained := some d.retainedCount } else y
        retained := d.retained ++ [v.uid], retainedCount := d.retainedCount + 1 } := by
  rw [retain_new (by exact h), onRecord_onRecord d (f := fun y => { y with state := .withdrawn }) fun _ => rfl]
  rfl

theorem applyPurge_found {key : KeyField} {v : PageVersion} {d : Device}
    (hv : d.lookup (keyOf key) (versionOf key) = some v) : applyPurge key d =
      if d.reclaimable v then okay (removeVersion v .purge d) (halfN v.entries.length) else refuse .state d := by
  simp only [applyPurge, hv]

/-- Settles O33. -/
theorem withdrawRetainsAndPurgeReclaims : Obligations.WithdrawRetainsAndPurgeReclaims := by
  unfold Obligations.WithdrawRetainsAndPurgeReclaims
  refine ⟨fun s tag flags key v hr hv hrec => ⟨fun hs => ?_, fun h1 h2 hz hf hn => ?_, fun d e n h1 h2 hd he => ?_⟩,
    fun d v sites hv hs => ?_, fun d i key version reason => ⟨fun ha => ?_, fun hl hc => ⟨fun hn => ?_, fun hn => ?_⟩⟩,
    fun d w e he => ⟨zoneRevert_none, fun hz hl => ⟨fun hn => ?_, fun c sites hm hk ho hx hs => ?_⟩⟩,
    fun s tag key v hr hv => ⟨fun h => ?_, fun hret hs hh hp => ?_⟩⟩
  · refine onCommand_answer (c := .withdraw key flags) hr ?_
    simp only [applyCommand, applyWithdraw, hv, (live_eq_false v).2 hs, Bool.false_eq_true, if_false, refuse]
  · refine onCommand_answer (c := .withdraw key flags) hr
      ((applyWithdraw_live hv ((live_iff v).2 ⟨h1, h2⟩) flags).trans ?_)
    simp only [withdrawVersion, hf, recallIf, Bool.false_eq_true, if_false, zoneRevert_none (.inl hz), okay,
      unfinished_eq, withdraw_retained hn]
  · refine onCommand_answer (c := .withdraw key flags) hr
      ((applyWithdraw_live hv ((live_iff v).2 ⟨h1, h2⟩) flags).trans ?_)
    have hrecall : recallIf (flags.getLsbD 0) v.uid d = (e, n) := he.symm
    simp only [withdrawVersion, ← hd, hrecall, okay, unfinished_eq]
  · have hsites : allSites.filter (d.recalls v) = sites := by
      rw [hs]
      refine List.filter_congr fun i _ => ?_
      rw [Bool.eq_iff_iff, decide_eq_true_iff, Device.recalls, Bool.and_eq_true, decide_eq_true_iff, Bool.not_eq_true',
        absent_eq_false]
    rw [recallVersion_eq hv, hsites]
    rfl
  · exact postCancel_absent ((absent_iff _).2 ha) key version reason
  · exact postCancel_room ((absent_eq_false _).2 ⟨hl, hc⟩) hn key version reason
  · exact postCancel_full ((absent_eq_false _).2 ⟨hl, hc⟩) hn key version reason
  · refine (zoneRevert_applies hz hl).1 (highest_none fun v hm => ?_)
    rw [← Bool.not_eq_true, Bool.and_eq_true, decide_eq_true_iff, lookup_out]
    rintro ⟨hk, ho⟩
    exact ho.elim (hn v hm hk).1 (hn v hm hk).2
  · have hhigh : d.highest (fun v => decide (v.key = { w.key with zone := 0 }) && v.out) = some c := by
      refine highest_of hm ?_ fun x hxm ht => ?_
      · rw [Bool.and_eq_true, decide_eq_true_iff, lookup_out]; exact ⟨hk, ho⟩
      · rw [Bool.and_eq_true, decide_eq_true_iff, lookup_out] at ht
        exact hx x hxm (ht.1.trans hk.symm) ht.2
    have hpos : c.key.pos = w.key.pos := by rw [hk]
    have hsites : allSites.filter (d.revertsAt c w.key.zone) = sites := by
      rw [hs]
      refine List.filter_congr fun i _ => ?_
      rw [Bool.eq_iff_iff, decide_eq_true_iff]
      simp only [Device.revertsAt, hpos, planEntry_of he, Bool.and_eq_true, Bool.not_eq_true', absent_eq_false,
        decide_eq_true_eq, and_assoc]
    rw [(zoneRevert_applies hz hl).2 c hhigh, hsites]
    rfl
  · refine onCommand_answer (c := .purge key) hr ((applyPurge_found hv).trans ?_)
    have hn : ¬ s.dev.reclaimable v = true := by
      rw [reclaimable_iff]
      rintro ⟨hret, hst, hh, hp⟩
      rcases h with h | h | h | h | h | ⟨i, h⟩ | h
      · exact h hret
      · rw [h] at hst; simp at hst
      · rw [h] at hst; simp at hst
      · rw [h] at hst; simp at hst
      · rw [h] at hst; simp at hst
      · rw [hh i] at h; cases h
      · rw [hp] at h; cases h
    rw [if_neg hn]; rfl
  · refine onCommand_answer (c := .purge key) hr ((applyPurge_found hv).trans ?_)
    rw [if_pos ((reclaimable_iff _ _).2 ⟨hret, hs, hh, hp⟩)]; rfl

end Sys2Proof.Machine
end

section
/-!
SUPPORT. PERIOD_END and the expiries of the gap, ack, probe and gate timers: what one raised condition makes of its
site, and every outcome of a look for a page start.
-/

namespace Sys2Proof.Machine
open Sys2Proof.Laws

/-! ## A change of every site -/

theorem foldl_onSite_rest (f : SiteId → Site → Site) (l : List SiteId) (d : Device) :
    { l.foldl (fun d i => d.onSite i (f i)) d with sites := d.sites } = d := by
  induction l generalizing d with
  | nil => rfl
  | cons i l ih => exact congrArg (fun e : Device => { e with sites := d.sites }) (ih (d.onSite i (f i)))

theorem foldl_onSite_site (f : SiteId → Site → Site) {l : List SiteId} (hl : l.Nodup) (d : Device) (j : SiteId) :
    (l.foldl (fun d i => d.onSite i (f i)) d).site j = if j ∈ l then f j (d.site j) else d.site j := by
  induction l generalizing d with
  | nil => rfl
  | cons i l ih =>
    obtain ⟨hi, hl⟩ := List.nodup_cons.1 hl
    rw [List.foldl_cons, ih hl]
    by_cases hj : j = i
    · subst hj
      rw [if_neg hi, if_pos List.mem_cons_self, site_onSite_same]
    · simp only [site_onSite_ne d hj, List.mem_cons, hj, false_or]

theorem forSites_onSite_rest (f : SiteId → Site → Site) (d : Device) :
    { forSites (fun i d => d.onSite i (f i)) d with sites := d.sites } = d := foldl_onSite_rest f allSites d

theorem forSites_onSite_site (f : SiteId → Site → Site) (d : Device) (j : SiteId) :
    (forSites (fun i d => d.onSite i (f i)) d).site j = f j (d.site j) :=
  (foldl_onSite_site f allSites_nodup d j).trans (if_pos (mem_allSites j))

/-- A port at its period end: the staged value applied, the count started (R161). -/
def Port.restarted (x : Port) : Port :=
  { x with active := x.staged.getD x.active, staged := none, remaining := x.staged.getD x.active }

/-- What the end of port `p`'s period makes of a site (R165). -/
def Site.periodEnded (p : PortId) (st : Site) : Site := if st.cfg.port = p then refill st else st

theorem endPeriod_eq (p : PortId) (d : Device) :
    endPeriod p d = forSites (fun i d => d.onSite i (Site.periodEnded p)) (d.onPort p Port.restarted) := rfl

theorem endPeriod_rest (p : PortId) (d : Device) :
    { endPeriod p d with sites := d.sites } = d.onPort p Port.restarted := by
  rw [endPeriod_eq]
  exact forSites_onSite_rest (fun _ => Site.periodEnded p) (d.onPort p Port.restarted)

theorem endPeriod_site (p : PortId) (d : Device) (i : SiteId) :
    (endPeriod p d).site i = (d.site i).periodEnded p := by
  rw [endPeriod_eq]
  exact forSites_onSite_site (fun _ => Site.periodEnded p) (d.onPort p Port.restarted) i

theorem endPeriod_ports (p : PortId) (d : Device) : (endPeriod p d).ports = (d.onPort p Port.restarted).ports := by
  rw [← endPeriod_rest]

theorem endPeriod_port (p : PortId) (d : Device) : (endPeriod p d).port p = (d.port p).restarted := by
  rw [Device.port, endPeriod_ports]
  exact port_onPort_same d p _

theorem endPeriod_port_ne {p q : PortId} (h : q ≠ p) (d : Device) : (endPeriod p d).port q = d.port q := by
  rw [Device.port, endPeriod_ports]
  exact port_onPort_ne d h _

theorem execPeriodEnd_next (p : PortId) (s : State) :
    exec (.periodEnd p) s = .next { s with dev := arbitrate (endPeriod p s.dev) } := rfl

/-- Settles O8. -/
theorem periodEndRefillsTheSitesOfThePort : Obligations.PeriodEndRefillsTheSitesOfThePort := by
  unfold Obligations.PeriodEndRefillsTheSitesOfThePort
  intro p s
  refine ⟨endPeriod p s.dev, execPeriodEnd_next p s, ?_, endPeriod_port p s.dev,
    fun q hq => endPeriod_port_ne hq s.dev, fun i hi => ?_, fun i a e hi ha he => ?_⟩
  · have hrest := endPeriod_rest p s.dev
    generalize endPeriod p s.dev = x at hrest ⊢
    exact congrArg (fun d : Device => { d with ports := s.dev.ports }) hrest
  · rw [endPeriod_site, Site.periodEnded, if_neg hi]
  · rw [endPeriod_site, Site.periodEnded, if_pos hi]
    simp only [refill, ← ha, he, effective, absent_iff]

/-! ## A look for a page start (R81, R112, R123) -/

theorem startReady_iff (st : Site) : st.startReady = true ↔ st.win.link = .active ∧ st.win.closing = false ∧
    st.q.current = none ∧ st.q.control = [] ∧ st.q.queue ≠ [] ∧ st.pace.gap = none ∧ st.win.count < 16 := by
  have hcap : Config.windowCapacity = 16 := rfl
  simp only [Site.startReady, hcap, Bool.and_eq_true, decide_eq_true_eq, Bool.not_eq_true', Option.isNone_iff_eq_none,
    List.isEmpty_iff, List.isEmpty_eq_false_iff, and_assoc]

theorem lookPageStart_same {i : SiteId} {d : Device} (h : (d.site i).q.current ≠ none ∨ (d.site i).q.control ≠ [] ∨
    (d.site i).q.queue = [] ∨ (d.site i).pace.gap ≠ none ∨ (d.site i).win.link ≠ .active ∨
    (d.site i).win.closing = true ∨ 16 ≤ (d.site i).win.count) : lookPageStart i d = d := by
  have hn : ¬(d.site i).startReady = true := by
    rw [startReady_iff]
    rintro ⟨hl, hc, hcur, hctl, hq, hg, hw⟩
    rcases h with h | h | h | h | h | h | h
    · exact h hcur
    · exact h hctl
    · exact hq h
    · exact h hg
    · exact h hl
    · rw [hc] at h; cases h
    · omega
  exact if_neg hn

section
variable {i : SiteId} {d : Device} {e : QueueEntry} {rest : List QueueEntry}

theorem takeHead_cons (hq : (d.site i).q.queue = e :: rest) : takeHead i d =
    ({ d with serial := d.serial + 1 }.onQueue i fun q => { q with
      queue := rest
      current := some
        { id := d.serial, ref := e.ref, cls := e.cls, seps := e.seps,
          cursor := e.seps.list.head?.map fun k => (k, 0), sent := 0, pageEnd := false } }).onDelivery
      e.ref.uid i fun r => { r with state := .sending } := by
  simp only [takeHead, hq, firstCursor]

theorem switchCurves_cons (hq : (d.site i).q.queue = e :: rest) (a : Arm) (bypassed : Bool) :
    switchCurves i a bypassed d = (d.onTone i fun w => { w with active := w.pending, arm := none }).event
      (.curvesSwitched i (d.site i).tone.active.stock (d.site i).tone.pending.stock a.gated bypassed e.ref.key
        e.ref.version) := by
  simp only [switchCurves, hq]

theorem switchCurves_queue (a : Arm) (bypassed : Bool) :
    ((switchCurves i a bypassed d).site i).q = (d.site i).q := by
  unfold switchCurves
  dsimp only
  split <;> simp

theorem lookPageStart_unarmed (h : (d.site i).startReady = true) (ha : (d.site i).tone.arm = none) :
    lookPageStart i d = takeHead i d := by
  simp only [lookPageStart, h, ha, if_true]

theorem lookPageStart_ungated {a : Arm} (h : (d.site i).startReady = true) (ha : (d.site i).tone.arm = some a)
    (hg : a.gated = false) : lookPageStart i d = takeHead i (switchCurves i a false d) := by
  simp only [lookPageStart, h, ha, hg, if_true, Bool.false_eq_true, if_false]

theorem lookPageStart_acked {a : Arm} (h : (d.site i).startReady = true) (ha : (d.site i).tone.arm = some a)
    (hg : a.gated = true) (hk : ((d.site i).target a.stock).ackedGen = ((d.site i).target a.stock).latestGen) :
    lookPageStart i d = takeHead i (switchCurves i a false (setGate i .idle d)) := by
  simp only [lookPageStart, h, ha, hg, hk, if_true]

theorem lookPageStart_gated {a : Arm} (h : (d.site i).startReady = true) (ha : (d.site i).tone.arm = some a)
    (hg : a.gated = true) (hk : ((d.site i).target a.stock).ackedGen ≠ ((d.site i).target a.stock).latestGen) :
    ((d.site i).tgt.gate = .idle →
      lookPageStart i d = setGate i (.wait (10 * (d.site i).cfg.gateTimeout)) d) ∧
    (∀ n : Nat, (d.site i).tgt.gate = .wait n → lookPageStart i d = d) ∧
    ((d.site i).tgt.gate = .bypass →
      lookPageStart i d = takeHead i (switchCurves i a true (setGate i .idle d))) := by
  refine ⟨fun ht => ?_, fun n ht => ?_, fun ht => ?_⟩ <;>
    simp only [lookPageStart, h, ha, hg, hk, ht, if_true, if_false]

end

theorem execGapTimerExpiry_of {i : SiteId} {s : State} (hg : (s.dev.site i).pace.gap ≠ none)
    (hq : s.dev.base.quiesced = false) (hl : (s.dev.site i).win.link ≠ .halted) :
    exec (.gapTimerExpiry i) s = .next { s with dev := arbitrate (expireGap i s.dev) } := by
  have hc : (s.dev.site i).pace.gap.isSome ∧ ¬ s.dev.base.quiesced = true ∧ (s.dev.site i).win.link ≠ .halted :=
    ⟨Option.isSome_iff_ne_none.2 hg, by simp [hq], hl⟩
  exact congrArg (fun d => Host.Outcome.next { s with dev := d }) (if_pos hc)

/-- Settles O9. -/
theorem gapExpiryAllowsThePageStart : Obligations.GapExpiryAllowsThePageStart := by
  unfold Obligations.GapExpiryAllowsThePageStart
  intro i s
  refine ⟨fun h => onDevice_same (if_neg ?_), fun hg hq hl => ⟨execGapTimerExpiry_of hg hq hl, ?_⟩,
    fun d => ⟨lookPageStart_same, ?_⟩⟩
  · rintro ⟨hg, hq, hl⟩
    rcases h with h | h | h
    · rw [h] at hg; cases hg
    · exact hq h
    · exact hl h
  · intro e rest hqueue hcur hctl hlink hclosing hcount harm
    have hready : ((s.dev.onPace i fun p => { p with gap := none }).site i).startReady = true := by
      rw [startReady_iff, site_onPace_same]
      exact ⟨hlink, hclosing, hcur, hctl, hqueue ▸ List.cons_ne_nil e rest, rfl, hcount⟩
    rw [lookPageStart_unarmed hready (by rw [site_onPace_same]; exact harm),
      takeHead_cons (e := e) (rest := rest) (by rw [site_onPace_same]; exact hqueue)]
    refine congrArg (fun x : Device => x.onDelivery e.ref.uid i fun r => { r with state := .sending }) ?_
    exact onSite_onSite { s.dev with serial := s.dev.serial + 1 } i
      (fun st => { st with pace := { st.pace with gap := none } }) (fun st => { st with q := { st.q with
        queue := rest
        current := some
          { id := s.dev.serial, ref := e.ref, cls := e.cls, seps := e.seps,
            cursor := e.seps.list.head?.map fun k => (k, 0), sent := 0, pageEnd := false } } })
  · intro e rest start idle switched hqueue hcur hctl hgap hlink hclosing hcount hstart hidle hswitched
    have hready : (d.site i).startReady = true :=
      (startReady_iff _).2 ⟨hlink, hclosing, hcur, hctl, hqueue ▸ List.cons_ne_nil e rest, hgap, hcount⟩
    have htake : ∀ x : Device, (x.site i).q = (d.site i).q → takeHead i x = start x := fun x hx =>
      (takeHead_cons (by rw [hx, hqueue])).trans (hstart x).symm
    have hidle' : setGate i .idle d = idle d := (hidle d).symm
    have hsw : ∀ (a : Arm) (b : Bool), switchCurves i a b d = switched a b d := fun a b =>
      (switchCurves_cons hqueue a b).trans (hswitched a b d).symm
    have hswIdle : ∀ (a : Arm) (b : Bool), switchCurves i a b (setGate i .idle d) = switched a b (idle d) := by
      intro a b
      rw [switchCurves_cons (e := e) (rest := rest) (by simpa [setGate] using hqueue), hidle', hswitched, hidle]
      simp only [onTgt_tone]
    have hq0 : ∀ (a : Arm) (b : Bool), ((switched a b d).site i).q = (d.site i).q := fun a b => by
      rw [← hsw, switchCurves_queue]
    have hq1 : ∀ (a : Arm) (b : Bool), ((switched a b (idle d)).site i).q = (d.site i).q := fun a b => by
      rw [← hswIdle, switchCurves_queue]; simp [setGate]
    refine ⟨fun ha => (lookPageStart_unarmed hready ha).trans (htake d rfl), fun a ha =>
      ⟨fun hg => ?_, fun hg hk => ?_, fun hg hk => ?_⟩⟩
    · rw [lookPageStart_ungated hready ha hg, hsw, htake _ (hq0 a _)]
    · rw [lookPageStart_acked hready ha hg hk, hswIdle, htake _ (hq1 a _)]
    · obtain ⟨h1, h2, h3⟩ := lookPageStart_gated hready ha hg hk
      exact ⟨h1, h2, fun ht => by rw [h3 ht, hswIdle, htake _ (hq1 a _)]⟩

/-! ## What a raised condition makes of its site (R179, R180, R182) -/

section
variable {i : SiteId} {det : CondDetails} {d : Device}

theorem raise_of_action (ha : (d.site i).absent = false)
    (hs : (d.site i).cfg.haltMask.getLsbD det.condition.bit = false) :
    outcomeOf (d.site i) det.condition = .action ∧ raise i det d = d.event (.condition i (d.site i).win.link .action
      (if det.condition = .linkLost then .linkLost else (d.site i).win.link) det) := by
  have ho : outcomeOf (d.site i) det.condition = .action := by
    simp only [outcomeOf, ha, Site.selects, hs, Bool.false_eq_true, if_false]
  exact ⟨ho, by simp only [raise, ho, stateAfter]⟩

theorem raise_of_halt (ha : (d.site i).absent = false)
    (hs : (d.site i).cfg.haltMask.getLsbD det.condition.bit = true) (hl : (d.site i).win.link ≠ .halted) :
    outcomeOf (d.site i) det.condition = .halt ∧ raise i det d =
      (d.event (.condition i (d.site i).win.link .halt .halted det)).onSite i fun st =>
        st.halted { details := det, clock := d.time, resume := resumeStateOf st.win.link } := by
  have ho : outcomeOf (d.site i) det.condition = .halt := by
    simp only [outcomeOf, ha, Site.selects, hs, hl, Bool.false_eq_true, if_false, if_true]
  exact ⟨ho, by simp only [raise, ho, stateAfter, haltSite_eq]; rfl⟩

theorem raise_of_halted (ha : (d.site i).absent = false)
    (hs : (d.site i).cfg.haltMask.getLsbD det.condition.bit = true) (hl : (d.site i).win.link = .halted) :
    outcomeOf (d.site i) det.condition = .alreadyHalted ∧ raise i det d =
      d.event (.condition i .halted .alreadyHalted .halted det) := by
  have ho : outcomeOf (d.site i) det.condition = .alreadyHalted := by
    simp only [outcomeOf, ha, Site.selects, hs, hl, Bool.false_eq_true, if_false, if_true]
  exact ⟨ho, by simp only [raise, ho, stateAfter, hl]⟩

theorem raise_of_absent (ha : (d.site i).absent = true) :
    outcomeOf (d.site i) det.condition = .dropped ∧ raise i det d = d := by
  have ho : outcomeOf (d.site i) det.condition = .dropped := by simp only [outcomeOf, ha, if_true]
  exact ⟨ho, by simp only [raise, ho]⟩

end

/-! ## The ack and probe timers (R147 to R149) -/

theorem markFirst_cons {w : Window} {r : Rank} {rs : List Rank} (h : w.ranks = r :: rs) :
    w.markFirst = { w with ranks := { r with pending := true } :: rs } := by
  simp only [Window.markFirst, h, List.modify_zero_cons]

section
variable {i : SiteId} {d : Device}

/-- An ack expiry below the retry limit. -/
theorem expireAck_below (h : ((d.onWin i fun w =>
      { w.markFirst with retry := min (w.retry + 1) 15, ackTimer := .held }).site i).win.retry <
      (d.site i).cfg.retryLimit) :
    expireAck i d = d.onWin i fun w => { w.markFirst with retry := min (w.retry + 1) 15, ackTimer := .held } := by
  unfold expireAck
  exact if_neg (Nat.not_le.2 (by simpa using h))

/-- An ack expiry at the retry limit, of what the marking made of the device. -/
theorem expireAck_limit {e : Device}
    (he : e = d.onWin i fun w => { w.markFirst with retry := min (w.retry + 1) 15, ackTimer := .held })
    (h : (e.site i).cfg.retryLimit ≤ (e.site i).win.retry) :
    expireAck i d =
      if outcomeOf (e.site i) .linkLost = .action then
        syncTimers i ((raise i (.linkLost (e.site i).win.retry (e.site i).win.first) e).onWin i fun w =>
          { w with link := .linkLost })
      else raise i (.linkLost (e.site i).win.retry (e.site i).win.first) e := by
  subst he
  exact if_pos h

end

/-- The event sent first: it touches the feed port only. -/
theorem onSite_event (d : Device) (i : SiteId) (f : Site → Site) (e : Event) :
    (d.onSite i f).event e = (d.event e).onSite i f := rfl

/-- Settles O10. -/
theorem ackAndProbeExpiriesMarkRankOne : Obligations.AckAndProbeExpiriesMarkRankOne := by
  unfold Obligations.AckAndProbeExpiriesMarkRankOne
  intro i s r rs n retry w hr hretry hw
  have hmark : s.dev.onWin i (fun w => { w.markFirst with retry := min (w.retry + 1) 15, ackTimer := .held }) =
      s.dev.onWin i fun _ => w := onSite_congr <| by
    simp only [hw, markFirst_cons hr, hretry]
  have hexec : (s.dev.site i).win.ackTimer = .running n →
      exec (.ackTimerExpiry i) s = .next { s with dev := arbitrate (expireAck i s.dev) } := fun ht => by
    refine congrArg (fun d => Host.Outcome.next { s with dev := d }) (if_pos ?_)
    rw [ht]; rfl
  have hsite : (s.dev.onWin i fun _ => w).site i = { s.dev.site i with win := w } := site_onWin_same _ _ _
  refine ⟨fun ht hlt => ?_, fun ht hle hlink hclosing hprobe => ?_, fun ht => ?_⟩
  · rw [hexec ht, expireAck_below (by rw [hmark, hsite, hw]; exact hlt), hmark]
  · have hexp := expireAck_limit (i := i) hmark.symm (by rw [hsite, hw]; exact hle)
    have hretry' : w.retry = retry := by rw [hw]
    have hfirst : w.first = r.seq := by rw [hw]; rfl
    have hlink' : w.link = .active := by rw [hw]; exact hlink
    have habsent : (({ s.dev.site i with win := w } : Site)).absent = false :=
      (absent_eq_false _).2 ⟨by rw [hlink']; simp, by rw [hw]; exact hclosing⟩
    simp only [hsite, hretry', hfirst] at hexp
    have hdet : (CondDetails.linkLost retry r.seq).condition = .linkLost := rfl
    refine ⟨fun hs => ?_, fun hs => ?_⟩
    · obtain ⟨ho, he⟩ := raise_of_action (i := i) (det := .linkLost retry r.seq)
        (d := s.dev.onWin i fun _ => w) (by rw [hsite]; exact habsent) (by rw [hsite]; exact hs)
      rw [hexec ht, hexp, if_pos (by rw [← hsite]; exact ho), he, hsite]
      simp only [hlink', hdet, if_true]
      refine congrArg (fun d => Host.Outcome.next { s with dev := arbitrate d }) ?_
      simp only [Device.onWin, syncTimers, onSite_event, onSite_onSite]
      refine onSite_congr ?_
      simp [syncAck, syncProbe, ackMayRun, hw, probeFull, hclosing, hprobe]
      cases s.dev.base.quiesced <;> rfl
    · obtain ⟨ho, he⟩ := raise_of_halt (i := i) (det := .linkLost retry r.seq)
        (d := s.dev.onWin i fun _ => w) (by rw [hsite]; exact habsent) (by rw [hsite]; exact hs)
        (by rw [hsite, hlink']; simp)
      have hnot : ¬outcomeOf { s.dev.site i with win := w } .linkLost = .action := by
        rw [← hsite]; rw [hdet] at ho; rw [ho]; simp
      rw [hexec ht, hexp, if_neg hnot, he, hsite]
      refine congrArg (fun d => Host.Outcome.next { s with dev := arbitrate d }) ?_
      simp only [hlink', Device.onWin, onSite_event, onSite_onSite]
      refine onSite_congr ?_
      simp [Site.halted, resumeStateOf, hw, hprobe]
      rfl
  · have hrun : exec (.probeTimerExpiry i) s = .next { s with dev := arbitrate (expireProbe i s.dev) } := by
      refine congrArg (fun d => Host.Outcome.next { s with dev := d }) (if_pos ?_)
      rw [ht]; rfl
    rw [hrun]
    refine congrArg (fun d => Host.Outcome.next { s with dev := arbitrate d }) (onSite_congr ?_)
    rw [markFirst_cons hr]; rfl

/-- Settles O11. -/
theorem gateExpiryRaisesTargetTimeout : Obligations.GateExpiryRaisesTargetTimeout := by
  unfold Obligations.GateExpiryRaisesTargetTimeout
  intro i s n a det hgate harm hq hhalted hdisabled hclosing hdet
  have hexec : exec (.gateTimerExpiry i) s = .next { s with dev := arbitrate (expireGate i s.dev) } := by
    refine congrArg (fun d => Host.Outcome.next { s with dev := d }) (if_pos ?_)
    exact ⟨by rw [hgate]; rfl, by simp [hq], hhalted⟩
  have habsent : (s.dev.site i).absent = false := (absent_eq_false _).2 ⟨hdisabled, hclosing⟩
  have hcond : det.condition = .targetTimeout := by rw [hdet]; rfl
  have hexp : expireGate i s.dev = if outcomeOf (s.dev.site i) .targetTimeout = .action
      then lookPageStart i (setGate i .bypass (raise i det s.dev)) else setGate i .idle (raise i det s.dev) := by
    simp only [expireGate, harm, hdet]
  refine ⟨fun hs => ?_, fun hs => ?_⟩
  · obtain ⟨ho, he⟩ := raise_of_action (i := i) (det := det) habsent (by rw [hcond]; exact hs)
    rw [hexec, hexp, if_pos (hcond ▸ ho), he, hcond]
    rfl
  · obtain ⟨ho, he⟩ := raise_of_halt (i := i) (det := det) habsent (by rw [hcond]; exact hs) hhalted
    have hnot : ¬outcomeOf (s.dev.site i) .targetTimeout = .action := by rw [← hcond, ho]; simp
    rw [hexec, hexp, if_neg hnot, he]
    refine congrArg (fun d => Host.Outcome.next { s with dev := arbitrate d }) ?_
    simp only [setGate, Device.onTgt, onSite_onSite]
    rfl

end Sys2Proof.Machine
end

section
/-!
SUPPORT. Band intake: arrivals, the nine checks of R37 one by one, allocation and the beginning of a band write.
-/

namespace Sys2Proof.Machine
open Sys2Proof.Laws

/-! ## Arrivals (R192) -/

theorem freeBuffer_of {f : Feed} {b : Fin 4} (h : entryOf f.buffers b = .free)
    (hb : ∀ c : Fin 4, c < b → entryOf f.buffers c ≠ .free) : f.freeBuffer = some b := by
  have hfour : allFour.Pairwise (fun i j => i < j) := by decide
  have hmem : ∀ c : Fin 4, c ∈ allFour := by decide
  exact find?_of_ascending hfour (hmem b) (decide_eq_true h) fun c hc => decide_eq_false (hb c hc)

theorem freeBuffer_none {f : Feed} (h : ∀ b : Fin 4, entryOf f.buffers b ≠ .free) : f.freeBuffer = none :=
  List.find?_eq_none.2 fun b _ => by simpa using h b

theorem beginArrival_linkUp (d : Device) : (beginArrival d).feed.linkUp = d.feed.linkUp := by
  unfold beginArrival; split <;> rfl

theorem beginArrival_arrivals (d : Device) :
    ∃ a : Option (Fin 4), (beginArrival d).feed.arrivals = d.feed.arrivals ++ [a] := by
  unfold beginArrival
  split
  · exact ⟨_, rfl⟩
  · exact ⟨_, rfl⟩

theorem beginArrival_free {d : Device} {b : Fin 4} (h : d.feed.freeBuffer = some b) :
    beginArrival d = { d with feed := { d.feed with
      buffers := modifyAt d.feed.buffers b fun _ => .receiving, arrivals := d.feed.arrivals ++ [some b] } } := by
  simp only [beginArrival, h, Device.onBuffer]

theorem beginArrival_full {d : Device} (h : d.feed.freeBuffer = none) :
    beginArrival d = { d with feed := { d.feed with arrivals := d.feed.arrivals ++ [none] } } := by
  simp only [beginArrival, h]

theorem endArrival_cons {d : Device} {a : Option (Fin 4)} {rest : List (Option (Fin 4))}
    (h : d.feed.arrivals = a :: rest) : endArrival d = ({ d with feed := { d.feed with arrivals := rest } }, a) := by
  simp only [endArrival, h]

theorem takeArrival_cons {d : Device} {a : Option (Fin 4)} {rest : List (Option (Fin 4))} (f : FeedFrame)
    (h : d.feed.arrivals = a :: rest) :
    takeArrival f d = bandArrived a f { d with feed := { d.feed with arrivals := rest } } := by
  have hne : d.feed.arrivals.isEmpty = false := by rw [h]; rfl
  simp only [takeArrival, hne, Bool.false_eq_true, if_false, endArrival_cons h]

/-- A frame that arrives whole with none begun begins then (log 15). -/
theorem takeArrival_begins {d : Device} (f : FeedFrame) (h : d.feed.arrivals = []) :
    takeArrival f d = takeArrival f (beginArrival d) := by
  obtain ⟨a, ha⟩ := beginArrival_arrivals d
  rw [h, List.nil_append] at ha
  rw [takeArrival_cons f ha]
  simp only [takeArrival, h, List.isEmpty_nil, if_true, endArrival_cons ha]

theorem execBandFrame_up {s : State} (h : s.dev.feed.linkUp = true) (f : FeedFrame) :
    exec (.bandFrame f) s = .next { s with dev := takeArrival f s.dev } := by
  refine congrArg (fun d => Host.Outcome.next { s with dev := d }) (if_pos ?_)
  exact h

theorem execBandFrame_of {s : State} {a : Option (Fin 4)} {rest : List (Option (Fin 4))}
    (h : s.dev.feed.linkUp = true) (ha : s.dev.feed.arrivals = a :: rest) (f : FeedFrame) :
    exec (.bandFrame f) s = .next { s with dev := (bandArrived a f
      { s.dev with feed := { s.dev.feed with arrivals := rest } }) } := by
  rw [execBandFrame_up h, takeArrival_cons f ha]

theorem execBandFrameArrivalBegins_up {s : State} (h : s.dev.feed.linkUp = true) :
    exec .bandFrameArrivalBegins s = .next { s with dev := beginArrival s.dev } := by
  refine congrArg (fun d => Host.Outcome.next { s with dev := d }) (if_pos ?_)
  exact h

/-! ## The frame and its fields (R191, R206) -/

theorem bandPasses_iff (f : FeedFrame) : bandPasses f = true ↔ f.kind = 0x01 ∧ f.length.toNat = f.payload.length ∧
    f.crc = crc32 (f.kind :: f.tag :: (halfBytes f.length ++ f.payload)) ∧ 10 ≤ f.payload.length := by
  simp only [bandPasses, frameWhole, Bool.and_eq_true, decide_eq_true_eq, and_assoc]

theorem readBand_fields (b : BandFields) :
    readBand (b.key.bytes ++ (b.sep :: b.band :: (wordBytes b.crc ++ b.runs))) = some b := by
  simp [readBand, getByte]

theorem bandFields_length (b : BandFields) :
    10 ≤ (b.key.bytes ++ (b.sep :: b.band :: (wordBytes b.crc ++ b.runs))).length := by
  simp [KeyField.bytes, wordBytes]

theorem bandArrived_fails {f : FeedFrame} (h : ¬bandPasses f = true) (n : Fin 4) (d : Device) :
    bandArrived (some n) f d = d.onBuffer n .free := if_neg h

theorem bandArrived_overrun {f : FeedFrame} (h : bandPasses f = true) (d : Device) :
    bandArrived none f d = overrun f.kind f.tag .noBuffer d := if_pos h

theorem bandArrived_taken {f : FeedFrame} {b : BandFields} (h : bandPasses f = true)
    (hb : readBand f.payload = some b) (n : Fin 4) (d : Device) :
    bandArrived (some n) f d = takeBand n f.tag b d := by
  simp only [bandArrived, h, hb, if_true]

theorem byteN_toNat {n : Nat} (h : n < 256) : (byteN n).toNat = n := by
  rw [byteN, BitVec.toNat_ofNat, Nat.mod_eq_of_lt h]

/-! ## The nine checks (R37) -/

section
variable {d : Device} {b : BandFields} {v : PageVersion} {k : Sep}

theorem bandPlace_range (h : keyInRange b.key = false ∨ versionOf b.key = 0) : d.bandPlace b = .error .range := if_pos h

theorem bandPlace_noPage (h : keyInRange b.key = true) (hv : versionOf b.key ≠ 0)
    (hl : d.lookup (keyOf b.key) (versionOf b.key) = none) : d.bandPlace b = .error .noPage := by
  simp only [Device.bandPlace, h, hv, hl, Bool.true_eq_false, or_self, if_false]

theorem bandPlace_closed (h : keyInRange b.key = true) (hv : versionOf b.key ≠ 0)
    (hl : d.lookup (keyOf b.key) (versionOf b.key) = some v)
    (hs : v.state = .held ∨ v.state = .approved ∨ v.state = .superseded ∨ v.state = .withdrawn) :
    d.bandPlace b = .error .closed := by
  simp only [Device.bandPlace, h, hv, hl, Bool.true_eq_false, or_self, if_false, hs, if_true]

/-- The place of a band frame for a version that takes bands: its separation and band decide. -/
theorem bandPlace_open (h : keyInRange b.key = true) (hv : versionOf b.key ≠ 0)
    (hl : d.lookup (keyOf b.key) (versionOf b.key) = some v)
    (hs : v.state = .filling ∨ v.state = .released ∨ v.state = .delivered) :
    ((v.seps.getLsbD b.sep.toNat = false ∨ v.bandCount ≤ b.band.toNat) → d.bandPlace b = .error .range) ∧
    (b.sep = byteN k.val → v.seps.has k = true → b.band.toNat < v.bandCount → d.bandPlace b = .ok (v, k)) := by
  have hn : ¬(v.state = .held ∨ v.state = .approved ∨ v.state = .superseded ∨ v.state = .withdrawn) := by
    rcases hs with hs | hs | hs <;> rw [hs] <;> simp
  refine ⟨fun hb => ?_, fun hk hsep hband => ?_⟩
  · simp only [Device.bandPlace, h, hv, hl, hn, Bool.true_eq_false, or_self, if_false]
    rcases Nat.lt_or_ge b.sep.toNat 4 with h4 | h4
    · rw [fourOf_of (i := ⟨b.sep.toNat, h4⟩) rfl]
      refine if_neg ?_
      rintro ⟨hsep, hband⟩
      rcases hb with hb | hb
      · rw [SepSet.has, hb] at hsep; cases hsep
      · omega
    · rw [fourOf_none h4]
  · have hfour : fourOf b.sep = some k := fourOf_of (by rw [hk]; exact byteN_toNat (by omega))
    simp only [Device.bandPlace, h, hv, hl, hn, Bool.true_eq_false, or_self, if_false, hfour, hsep, hband, true_and,
      if_true]

theorem checkBand_error {r : RefusedReason} (h : d.bandPlace b = .error r) : d.checkBand b = .error r := by
  simp only [Device.checkBand, h]

/-- Checks 5 to 9 once the place is found. -/
theorem checkBand_placed (h : d.bandPlace b = .ok (v, k)) :
    d.checkBand b =
      if v.repairable k b.band.toNat = false then .error .closed
      else if v.runsPass b = false then .error .runs
      else if v.repairMatches k b = false then .error .repairMismatch
      else .ok (v, k) := by
  simp only [Device.checkBand, h]

theorem out_eq_false (hs : v.state = .filling) : v.out = false := by
  simp [PageVersion.out, hs]

theorem out_of (hs : v.state = .filling ∨ v.state = .released ∨ v.state = .delivered) (h : v.state ≠ .filling) :
    v.out = true := (lookup_out v).2 (hs.resolve_left h)

theorem repairable_eq_false {n : Nat} (ho : v.out = true)
    (he : ∀ e : BandEntry, v.entry k n = some e → e.fault = false) : v.repairable k n = false := by
  unfold PageVersion.repairable
  cases h : v.entry k n with
  | none => simp [ho]
  | some e => simp [ho, he e h]

theorem repairable_of {n : Nat} (h : v.state = .filling ∨ ∃ e : BandEntry, v.entry k n = some e ∧ e.fault = true) :
    v.repairable k n = true := by
  unfold PageVersion.repairable
  rcases h with h | ⟨e, he, hf⟩
  · simp [out_eq_false h]
  · simp [he, hf]

theorem runsPass_iff : v.runsPass b = true ↔ b.runs ≠ [] ∧ b.runs.length % 2 = 0 ∧ b.runs.length ≤ 32768 ∧
    crc32 b.runs = b.crc ∧ runPixels b.runs = v.pixels b.band.toNat := by
  have hcell : Config.cellBytes = 32768 := rfl
  simp only [PageVersion.runsPass, hcell, Bool.and_eq_true, decide_eq_true_eq, and_assoc, ne_eq,
    List.length_eq_zero_iff]

theorem repairMatches_eq_false (ho : v.out = true)
    (he : ∀ e : BandEntry, v.entry k b.band.toNat = some e → e.crc ≠ b.crc) : v.repairMatches k b = false := by
  unfold PageVersion.repairMatches
  cases h : v.entry k b.band.toNat with
  | none => simp [ho]
  | some e => simp [ho, he e h]

theorem repairMatches_of (h : v.state = .filling ∨ ∃ e : BandEntry, v.entry k b.band.toNat = some e ∧ e.crc = b.crc) :
    v.repairMatches k b = true := by
  unfold PageVersion.repairMatches
  rcases h with h | ⟨e, he, hf⟩
  · simp [out_eq_false h]
  · simp [he, hf]

end

theorem takeBand_refused {d : Device} {b : BandFields} {r : RefusedReason} (h : d.checkBand b = .error r) (n : Fin 4)
    (tag : Byte) : takeBand n tag b d = refuseBand n tag b r d := by
  simp only [takeBand, h]

/-- Settles O12. -/
theorem bandFramesTakeAndFreeBuffers : Obligations.BandFramesTakeAndFreeBuffers := by
  unfold Obligations.BandFramesTakeAndFreeBuffers
  refine ⟨fun f s => ⟨fun hd => ⟨?_, ?_⟩, fun t hu ha ht => ?_, fun hu => ⟨fun b hf hb => ?_, fun hf => ?_⟩⟩,
    fun f s n rest d hu hd => ⟨fun ha hp => ?_, fun h1 h2 h3 h4 ha => ?_,
      fun key sep band crc runs ha h1 h2 h3 hpay => ?_⟩⟩
  · exact onDevice_same (if_neg (by simp [hd]))
  · exact onDevice_same (if_neg (by simp [hd]))
  · rw [execBandFrameArrivalBegins_up hu] at ht
    cases ht
    rw [execBandFrame_up hu, execBandFrame_up (s := { s with dev := beginArrival s.dev })
      ((beginArrival_linkUp _).trans hu), ← takeArrival_begins f ha]
  · rw [execBandFrameArrivalBegins_up hu, beginArrival_free (freeBuffer_of hf hb)]
  · rw [execBandFrameArrivalBegins_up hu, beginArrival_full (freeBuffer_none hf)]
  · rw [execBandFrame_of hu ha, bandArrived_fails (mt (bandPasses_iff f).1 hp), hd]
    rfl
  · rw [execBandFrame_of hu ha, bandArrived_overrun ((bandPasses_iff f).2 ⟨h1, h2, h3, h4⟩), h1]
    rfl
  · have hpass : bandPasses f = true := (bandPasses_iff f).2
      ⟨h1, h2, h3, hpay ▸ bandFields_length { key := key, sep := sep, band := band, crc := crc, runs := runs }⟩
    have hread : readBand f.payload = some { key := key, sep := sep, band := band, crc := crc, runs := runs } :=
      hpay ▸ readBand_fields { key := key, sep := sep, band := band, crc := crc, runs := runs }
    have hrefused : ∀ r : RefusedReason,
        s.dev.checkBand { key := key, sep := sep, band := band, crc := crc, runs := runs } = .error r →
        exec (.bandFrame f) s = .next { s with dev := (d.event
          (.bandRefused f.tag (keyOf key) (versionOf key) sep.toNat band.toNat r)) } := fun r hr => by
      rw [execBandFrame_of hu ha, bandArrived_taken hpass hread, takeBand_refused (r := r) (by exact hr), hd]
      rfl
    refine ⟨fun hr => hrefused _ (checkBand_error (bandPlace_range hr)), fun hk hv => ⟨fun hl =>
      hrefused _ (checkBand_error (bandPlace_noPage hk hv hl)), fun v hl => ⟨fun hs =>
      hrefused _ (checkBand_error (bandPlace_closed hk hv hl hs)), fun hs => ⟨fun hr =>
      hrefused _ (checkBand_error ((bandPlace_open (k := 0) hk hv hl hs).1 hr)), fun k hsep hhas hband => ?_⟩⟩⟩⟩
    have hplace := (bandPlace_open (b := { key := key, sep := sep, band := band, crc := crc, runs := runs })
      hk hv hl hs).2 hsep hhas hband
    refine ⟨fun hn he => hrefused _ ?_, fun he => ⟨fun hr => hrefused _ ?_, fun r1 r2 r3 r4 r5 hn hc => hrefused _ ?_⟩⟩
    · rw [checkBand_placed hplace, if_pos (repairable_eq_false (out_of hs hn) he)]
    · have hbad : PageVersion.runsPass v { key := key, sep := sep, band := band, crc := crc, runs := runs } = false :=
      by
        rw [← Bool.not_eq_true, runsPass_iff]
        rintro ⟨r1, r2, r3, r4, r5⟩
        rcases hr with hr | hr | hr | hr | hr
        · exact r1 hr
        · exact absurd r2 (by rw [hr]; decide)
        · exact absurd r3 (Nat.not_le.2 hr)
        · exact hr r4
        · exact hr r5
      rw [checkBand_placed hplace, if_neg (by rw [repairable_of he]; simp), if_pos hbad]
    · rw [checkBand_placed hplace, if_neg (by rw [repairable_of he]; simp),
        if_neg (by rw [runsPass_iff.2 ⟨r1, r2, r3, r4, r5⟩]; simp),
        if_pos (repairMatches_eq_false (out_of hs hn) hc)]

/-! ## Allocation and the beginning of the write (R39, R41) -/

theorem firstCell_of {test : Nat → Bool} {n a c : Nat} (ha : a ≤ c) (hn : c < a + n) (h : test c = true)
    (hb : ∀ x : Nat, x < c → test x = false) : firstCell test a n = some c := by
  induction n generalizing a with
  | zero => omega
  | succ n ih =>
    rcases Nat.eq_or_lt_of_le ha with rfl | hlt
    · simp only [firstCell, h, if_true]
    · simp only [firstCell, hb a hlt, Bool.false_eq_true, if_false]
      exact ih hlt (by omega)

theorem firstCell_none {test : Nat → Bool} (h : ∀ x : Nat, test x = false) (n a : Nat) : firstCell test a n = none := by
  induction n generalizing a with
  | zero => rfl
  | succ n ih => simp only [firstCell, h a, Bool.false_eq_true, if_false, ih]

theorem lowestFree_of {d : Device} {a : Area} {c : Nat} (h : d.cellFree a c = true)
    (hb : ∀ x : Nat, x < c → d.cellFree a x = false) : d.lowestFree a = some c := by
  have hin : a.base ≤ c ∧ c < a.base + a.length := by
    simp only [Device.cellFree, Bool.and_eq_true, decide_eq_true_eq] at h
    exact ⟨h.1.1.1.2, h.1.1.2⟩
  exact firstCell_of hin.1 hin.2 h hb

theorem lowestFree_none {d : Device} {a : Area} (h : ∀ c : Nat, d.cellFree a c = false) : d.lowestFree a = none :=
  firstCell_none h _ _

section
variable {d : Device} {v : PageVersion}

theorem allocate_room {c : Nat} (h : d.lowestFree (entryOf d.base.areas v.area) = some c) :
    allocate v.area v.uid d = (d, some c) := by
  simp only [allocate, h]

theorem allocate_reclaims {x : PageVersion} (h : d.lowestFree (entryOf d.base.areas v.area) = none)
    (hc : d.candidate (fun y => decide (y.area = v.area) && !y.entries.isEmpty && decide (y.uid ≠ v.uid)) = some x) :
    allocate v.area v.uid d = (removeVersion x .area d,
      (removeVersion x .area d).lowestFree (entryOf (removeVersion x .area d).base.areas v.area)) := by
  simp only [allocate, h, reclaimForArea, hc]

theorem allocate_full (h : d.lowestFree (entryOf d.base.areas v.area) = none)
    (hc : d.candidate (fun y => decide (y.area = v.area) && !y.entries.isEmpty && decide (y.uid ≠ v.uid)) = none) :
    allocate v.area v.uid d = (d, none) := by
  simp only [allocate, h, reclaimForArea, hc]

theorem takeBand_full {b : BandFields} {k : Sep} {e : Device} (h : d.checkBand b = .ok (v, k))
    (ha : allocate v.area v.uid d = (e, none)) (n : Fin 4) (tag : Byte) :
    takeBand n tag b d = refuseBand n tag b .areaFull e := by
  simp only [takeBand, h, ha]

theorem takeBand_writes {b : BandFields} {k : Sep} {e : Device} {c : Nat} (h : d.checkBand b = .ok (v, k))
    (ha : allocate v.area v.uid d = (e, some c)) (n : Fin 4) (tag : Byte) :
    takeBand n tag b d = e.onBuffer n (.writing
      { tag := tag, ref := v.ref, sep := k, band := b.band.toNat, crc := b.crc, repair := v.out, cell := c,
        payload := b.runs, ended := false, dayReset := false }) := by
  simp only [takeBand, h, ha]

end

theorem feedAsk_arrivals (f : Feed) (l : List (Option (Fin 4))) :
    feedAsk { f with arrivals := l } = { feedAsk f with arrivals := l } := by
  obtain ⟨buffers, arrivals, cmds, replies, events, overflow, overrun, linkUp, tx⟩ := f
  unfold feedAsk
  dsimp only
  split
  · cases replies with
    | cons r rs => rfl
    | nil => cases events <;> rfl
  · rfl

/-- An event and the list of arrivals are apart. -/
theorem joinEvent_arrivals (e : Event) (f : Feed) (l : List (Option (Fin 4))) :
    joinEvent e { f with arrivals := l } = { joinEvent e f with arrivals := l } := by
  unfold joinEvent
  split
  · exact feedAsk_arrivals { f with events := f.events ++ [{ event := e, mark := false }] } l
  · rfl

/-- Settles O13. -/
theorem acceptedBandFrameBeginsItsWrite : Obligations.AcceptedBandFrameBeginsItsWrite := by
  unfold Obligations.AcceptedBandFrameBeginsItsWrite
  intro f s n rest key sep band crc runs v cell hu ha h1 h2 h3 hpay hkey hver hl hsep hband hstate r1 r2 r3 r4 r5
  have hpass : bandPasses f = true := (bandPasses_iff f).2 ⟨h1, h2, h3, hpay ▸
    bandFields_length { key := key, sep := byteN sep.val, band := band, crc := crc, runs := runs }⟩
  have hread : readBand f.payload = some { key := key, sep := byteN sep.val, band := band, crc := crc, runs := runs } :=
    hpay ▸ readBand_fields { key := key, sep := byteN sep.val, band := band, crc := crc, runs := runs }
  have hs : v.state = .filling ∨ v.state = .released ∨ v.state = .delivered := by
    rcases hstate with h | ⟨h, _⟩
    · exact .inl h
    · exact .inr h
  have hrepair : v.out = decide (v.state ≠ .filling) := by
    rcases hs with h | h | h <;> simp [PageVersion.out, h]
  have hfault : v.state = .filling ∨ ∃ e : BandEntry, v.entry sep band.toNat = some e ∧ e.fault = true := by
    rcases hstate with h | ⟨_, e, he, hf, _⟩
    · exact .inl h
    · exact .inr ⟨e, he, hf⟩
  have hcrc : v.state = .filling ∨ ∃ e : BandEntry, v.entry sep band.toNat = some e ∧ e.crc = crc := by
    rcases hstate with h | ⟨_, e, he, _, hc⟩
    · exact .inl h
    · exact .inr ⟨e, he, hc⟩
  have hplace := (bandPlace_open
    (b := { key := key, sep := byteN sep.val, band := band, crc := crc, runs := runs }) hkey hver hl hs).2 rfl hsep
      hband
  have hcheck : s.dev.checkBand { key := key, sep := byteN sep.val, band := band, crc := crc, runs := runs } =
      .ok (v, sep) := by
    rw [checkBand_placed hplace,
      if_neg (by rw [repairable_of hfault]; simp), if_neg (by rw [runsPass_iff.2 ⟨r1, r2, r3, r4, r5⟩]; simp),
      if_neg (by rw [repairMatches_of hcrc]; simp)]
  have hsepNat : (byteN sep.val).toNat = sep.val := byteN_toNat (by omega)
  refine ⟨fun hfree hc => ?_, fun hfree hbelow => ?_, fun x e hfree hc he hcell hbelow => ?_⟩
  · rw [execBandFrame_of hu ha, bandArrived_taken hpass hread, takeBand_full (by exact hcheck)
      (allocate_full (lowestFree_none (by exact hfree)) (by exact hc)), refuseBand, hsepNat]
    rfl
  · rw [execBandFrame_of hu ha, bandArrived_taken hpass hread, takeBand_writes (by exact hcheck)
      (allocate_room (lowestFree_of (by exact hfree) (by exact hbelow))), hrepair]
    rfl
  · have hremoved : removeVersion x .area { s.dev with feed := { s.dev.feed with arrivals := rest } } =
        { e with feed := { e.feed with arrivals := rest } } := by
      rw [he, removeVersion]
      exact congrArg (fun g : Feed => ({ s.dev with
        table := s.dev.table.filter fun y => decide (y.uid ≠ x.uid)
        retained := s.dev.retained.filter fun u => decide (u ≠ x.uid)
        feed := g } : Device)) (joinEvent_arrivals _ s.dev.feed rest)
    have hlow : (removeVersion x .area { s.dev with feed := { s.dev.feed with arrivals := rest } }).lowestFree
        (entryOf (removeVersion x .area { s.dev with feed := { s.dev.feed with arrivals := rest } }).base.areas
          v.area) =
        some cell := by
      rw [hremoved]
      exact lowestFree_of (by exact hcell) (by exact hbelow)
    rw [execBandFrame_of hu ha, bandArrived_taken hpass hread, takeBand_writes (by exact hcheck)
      ((allocate_reclaims (lowestFree_none (by exact hfree)) (by exact hc)).trans (by rw [hlow])), hrepair, hremoved]
    rfl

end Sys2Proof.Machine
end

section
/-!
SUPPORT. The completions of band writes: a new band recorded or discarded, a repair recorded with its re-queue,
discarded or kept waiting, and what an enqueue leaves of the page table.
-/

namespace Sys2Proof.Machine
open Sys2Proof.Laws

/-! ## New bands (R42 to R44, R9, R10) -/

/-- A version with a new band recorded, its digest less `old`. -/
def PageVersion.withBand (v : PageVersion) (w : BandWrite) (old : Word) : PageVersion :=
  { v.withEntry w.sep w.band { cell := w.cell, crc := w.crc, fault := false } with digest := v.digest - old + w.crc }

theorem recordBand_eq (w : BandWrite) (old : Option BandEntry) (d : Device) :
    recordBand w old d = d.onRecord w.ref.uid fun v => v.withBand w (old.elim 0 fun e => e.crc) := by
  cases old <;> rfl

/-- The device once the payload of a write is in its cell and the buffer free (R29). -/
def Device.landed (d : Device) (n : Fin 4) (w : BandWrite) : Device :=
  { d with
    store := writeBytes d.store (w.cell * 32768) w.payload
    feed := { d.feed with buffers := modifyAt d.feed.buffers n fun _ => .free } }

theorem storePayload_onBuffer (n : Fin 4) (w : BandWrite) (d : Device) :
    (storePayload w.cell w.payload d).onBuffer n .free = d.landed n w := rfl

theorem refuseWrite_closed {w : BandWrite} {d : Device} {v : PageVersion} (h : d.record w.ref.uid = some v) :
    refuseWrite w d = d.event (.bandRefused w.tag w.ref.key w.ref.version w.sep.val w.band .closed) := by
  simp only [refuseWrite, h, Option.isSome_some, if_true]

theorem refuseWrite_noPage {w : BandWrite} {d : Device} (h : d.record w.ref.uid = none) :
    refuseWrite w d = if w.dayReset = true then d
      else d.event (.bandRefused w.tag w.ref.key w.ref.version w.sep.val w.band .noPage) := by
  simp only [refuseWrite, h, Option.isSome_none, Bool.false_eq_true, if_false]

section
variable {n : Fin 4} {w : BandWrite} {d : Device} {v : PageVersion}

theorem finishNewBand_gone (h : d.record w.ref.uid = none) :
    finishNewBand n w d = refuseWrite w (d.landed n w) := by
  have hr : (d.landed n w).record w.ref.uid = none := h
  simp only [finishNewBand, storePayload_onBuffer, hr]

theorem finishNewBand_closed (h : d.record w.ref.uid = some v) (hs : v.state ≠ .filling) :
    finishNewBand n w d = refuseWrite w (d.landed n w) := by
  have hr : (d.landed n w).record w.ref.uid = some v := h
  simp only [finishNewBand, storePayload_onBuffer, hr, hs, if_false]

/-- A new band of a FILLING version is recorded; the version may be complete then. -/
theorem finishNewBand_filling (h : d.record w.ref.uid = some v) (hs : v.state = .filling) {x : PageVersion} {e : Device}
    (hx : x = v.withBand w ((v.entry w.sep w.band).elim 0 fun e => e.crc))
    (he : e = (d.landed n w).onRecord w.ref.uid fun y => y.withBand w ((v.entry w.sep w.band).elim 0 fun e => e.crc)) :
    finishNewBand n w d =
      if v.entry w.sep w.band = none ∧ x.complete = true then completeVersion x e else e := by
  have hr : (d.landed n w).record w.ref.uid = some v := h
  have hrec : e.record w.ref.uid = some x := by
    rw [he, hx]; exact record_onRecord_same (fun _ => rfl) hr
  simp only [finishNewBand, storePayload_onBuffer, hr, hs, if_true, recordBand_eq, ← he, hrec,
    Option.isNone_iff_eq_none]
  by_cases h1 : v.entry w.sep w.band = none <;> by_cases h2 : x.complete = true <;> simp [h1, h2]

end

/-- Settles O15. -/
theorem bandWriteIsRecordedOrDiscarded : Obligations.BandWriteIsRecordedOrDiscarded := by
  unfold Obligations.BandWriteIsRecordedOrDiscarded
  have hexec : ∀ (b : Fin 4) (s : State) (w : BandWrite), entryOf s.dev.feed.buffers b = .writing w →
      w.repair = false → exec (.bandWriteComplete b) s = .next { s with dev := arbitrate (finishNewBand b w s.dev) }
        := by
    intro b s w hb hw
    refine congrArg (fun d => Host.Outcome.next { s with dev := d }) ?_
    simp only [hb, hw, Bool.false_eq_true, if_false]
  refine ⟨fun b s w v x d hb hw hv hs hx hd => ?_, fun b s w d hb hw hd => ⟨fun hv => ⟨fun hday => ?_, fun hday => ?_⟩,
    fun v hv hs => ?_⟩⟩
  · have hu : v.uid = w.ref.uid := (record_some hv).1
    have hfin : finishNewBand b w s.dev =
        if v.entry w.sep w.band = none ∧ x.complete = true then completeVersion x d else d :=
      finishNewBand_filling (n := b) hv hs hx (by rw [hd, hu]; rfl)
    have hkey : x.key = v.key := by rw [hx]; rfl
    have hver : x.version = v.version := by rw [hx]; rfl
    have huid : x.uid = v.uid := by rw [hx]; rfl
    have happ : x.approval = v.approval := by rw [hx]; rfl
    rw [hexec b s w hb hw, hfin]
    refine ⟨fun h => ?_, fun hnone hcomplete => ⟨fun ha => ?_, fun a ha => ⟨fun hne => ?_, fun heq => ?_⟩⟩⟩
    · rw [if_neg]
      rintro ⟨h1, h2⟩
      rcases h with h | h
      · exact h h1
      · rw [h] at h2; cases h2
    · simp only [hnone, hcomplete, and_self, if_true, completeVersion, happ, ha, huid, hkey, hver]
    · simp only [hnone, hcomplete, and_self, if_true, completeVersion, happ, ha, hne, if_false, huid, hkey, hver]
    · simp only [hnone, hcomplete, and_self, if_true, completeVersion, happ, ha, heq, huid, hkey, hver, evaluateOne]
  · have hr : (s.dev.landed b w).record w.ref.uid = none := hv
    rw [hexec b s w hb hw, finishNewBand_gone hv, refuseWrite_noPage hr, if_neg (by simp [hday]), hd]
    rfl
  · have hr : (s.dev.landed b w).record w.ref.uid = none := hv
    rw [hexec b s w hb hw, finishNewBand_gone hv, refuseWrite_noPage hr, if_pos hday, hd]
    rfl
  · have hr : (s.dev.landed b w).record w.ref.uid = some v := hv
    rw [hexec b s w hb hw, finishNewBand_closed hv hs, refuseWrite_closed hr, hd]
    rfl

/-! ## What an enqueue leaves of the page table and the builder -/

/-- A version with its delivery record at a site forgotten. -/
def PageVersion.forgetAt (i : SiteId) (v : PageVersion) : PageVersion :=
  { v with records := modifyAt v.records i fun _ => { state := .none, late := false, cause := none } }

theorem forgetAt_at {i j : SiteId} (h : j ≠ i) (v : PageVersion) : (v.forgetAt i).at j = v.at j := by
  simp only [PageVersion.forgetAt, PageVersion.at]
  rw [entryOf_modifyAt, if_neg h]

theorem onDelivery_forgetAt (d : Device) (u : Nat) (i : SiteId) (f : DeliveryRecord → DeliveryRecord) :
    (d.onDelivery u i f).table.map (PageVersion.forgetAt i) = d.table.map (PageVersion.forgetAt i) := by
  rw [Device.onDelivery, onRecord_table, List.map_map]
  refine List.map_congr_left fun v _ => ?_
  simp only [Function.comp]
  split
  · simp only [PageVersion.forgetAt, modifyAt_modifyAt]
  · rfl

theorem takeHead_forgetAt (i : SiteId) (d : Device) :
    (takeHead i d).table.map (PageVersion.forgetAt i) = d.table.map (PageVersion.forgetAt i) := by
  unfold takeHead
  split
  · exact onDelivery_forgetAt _ _ i _
  · rfl

@[simp] theorem switchCurves_table (i : SiteId) (a : Arm) (b : Bool) (d : Device) :
    (switchCurves i a b d).table = d.table := by
  unfold switchCurves
  dsimp only
  split <;> rfl

/-- Every outcome of a look for a page start: nothing, the gate changed, or the head taken of a device with the page
table and builder as they were. -/
theorem lookPageStart_cases (i : SiteId) (d : Device) : lookPageStart i d = d ∨
    (∃ g, lookPageStart i d = setGate i g d) ∨
    ∃ e : Device, lookPageStart i d = takeHead i e ∧ e.table = d.table ∧ e.builder = d.builder := by
  have hswitch : ∀ (a : Arm) (b : Bool) (x : Device), (switchCurves i a b x).table = x.table ∧
      (switchCurves i a b x).builder = x.builder := fun a b x => by
    refine ⟨switchCurves_table i a b x, ?_⟩
    unfold switchCurves
    dsimp only
    split <;> rfl
  unfold lookPageStart
  dsimp only
  split
  case isFalse => exact .inl rfl
  case isTrue =>
    split
    case h_1 => exact .inr (.inr ⟨d, rfl, rfl, rfl⟩)
    case h_2 a ha =>
      split
      case isFalse => exact .inr (.inr ⟨_, rfl, hswitch a false d⟩)
      case isTrue =>
        split
        case isTrue => exact .inr (.inr ⟨_, rfl, hswitch a false (setGate i .idle d)⟩)
        case isFalse =>
          split
          · exact .inr (.inl ⟨_, rfl⟩)
          · exact .inl rfl
          · exact .inr (.inr ⟨_, rfl, hswitch a true (setGate i .idle d)⟩)

@[simp] theorem takeHead_builder (i : SiteId) (d : Device) : (takeHead i d).builder = d.builder := by
  unfold takeHead; split <;> rfl

@[simp] theorem lookPageStart_builder (i : SiteId) (d : Device) : (lookPageStart i d).builder = d.builder := by
  rcases lookPageStart_cases i d with h | ⟨g, h⟩ | ⟨e, h, -, hb⟩ <;> rw [h]
  · rfl
  · rw [takeHead_builder, hb]

theorem lookPageStart_forgetAt (i : SiteId) (d : Device) :
    (lookPageStart i d).table.map (PageVersion.forgetAt i) = d.table.map (PageVersion.forgetAt i) := by
  rcases lookPageStart_cases i d with h | ⟨g, h⟩ | ⟨e, h, ht, -⟩ <;> rw [h]
  · rfl
  · rw [takeHead_forgetAt, ht]

@[simp] theorem enqueue_builder (i : SiteId) (ref : PageRef) (c : DeliveryClass) (seps : SepSet) (d : Device) :
    (enqueue i ref c seps d).builder = d.builder := by
  unfold enqueue; exact lookPageStart_builder i _

/-- An enqueue at a site changes nothing of the page table but delivery records at that site. -/
theorem enqueue_forgetAt (i : SiteId) (ref : PageRef) (c : DeliveryClass) (seps : SepSet) (d : Device) :
    (enqueue i ref c seps d).table.map (PageVersion.forgetAt i) = d.table.map (PageVersion.forgetAt i) := by
  unfold enqueue
  rw [lookPageStart_forgetAt, onDelivery_forgetAt]
  rfl

/-- Page tables that agree but for the records at a site hold, under each identity, versions that do. -/
theorem record_forgetAt {i : SiteId} {d e : Device}
    (h : e.table.map (PageVersion.forgetAt i) = d.table.map (PageVersion.forgetAt i)) (u : Nat) :
    (e.record u).map (PageVersion.forgetAt i) = (d.record u).map (PageVersion.forgetAt i) := by
  have hfind : ∀ l : List PageVersion, (l.find? fun v => decide (v.uid = u)).map (PageVersion.forgetAt i) =
      (l.map (PageVersion.forgetAt i)).find? fun v => decide (v.uid = u) := fun l => by
    rw [List.find?_map]; rfl
  rw [Device.record, Device.record, hfind, hfind, h]

/-! ## Repairs (R47, R48) -/

/-- The re-queue is asked for at a site, of the version `u`. -/
def Device.requeuesAt (d : Device) (u : Nat) (i : SiteId) : Bool :=
  (d.record u).any fun v => decide (v.faulty = 0) && requeues d v i

/-- What the re-queue reads of a version: its fields but for the delivery records. -/
def PageVersion.SameBand (v w : PageVersion) : Prop := w.ref = v.ref ∧ w.seps = v.seps ∧ w.bands = v.bands

theorem sameBand_of_forgetAt {i : SiteId} {d e : Device} {u : Nat} {v : PageVersion}
    (h : e.table.map (PageVersion.forgetAt i) = d.table.map (PageVersion.forgetAt i)) (hv : d.record u = some v) :
    ∃ w, e.record u = some w ∧ v.SameBand w ∧ w.forgetAt i = v.forgetAt i := by
  have hrec := record_forgetAt h u
  rw [hv, Option.map_some] at hrec
  obtain ⟨w, hw, heq⟩ := Option.map_eq_some_iff.1 hrec
  have href := congrArg PageVersion.ref heq
  have hseps := congrArg PageVersion.seps heq
  have hbands := congrArg PageVersion.bands heq
  exact ⟨w, hw, ⟨href, hseps, hbands⟩, heq⟩

theorem requeuesAt_enqueue {i j : SiteId} (h : j ≠ i) (ref : PageRef) (c : DeliveryClass) (seps : SepSet) (d : Device)
    (u : Nat) : (enqueue i ref c seps d).requeuesAt u j = d.requeuesAt u j := by
  have hread : ∀ (x : Device) (v : PageVersion), x.site j = d.site j →
      (decide ((v.forgetAt i).faulty = 0) && requeues d (v.forgetAt i) j) = (decide (v.faulty = 0) && requeues x v j)
        := by
    intro x v hx
    simp only [requeues, forgetAt_at h, hx]
    rfl
  have hany : ∀ x : Device, x.site j = d.site j → x.requeuesAt u j =
      ((x.record u).map (PageVersion.forgetAt i)).any fun v => decide (v.faulty = 0) && requeues d v j := by
    intro x hx
    unfold Device.requeuesAt
    cases x.record u with
    | none => rfl
    | some v => exact (hread x v hx).symm
  rw [hany _ (site_enqueue_ne h ref c seps d), hany d rfl, record_forgetAt (enqueue_forgetAt i ref c seps d)]

/-- One site's part of the re-queue, of a version known but for its delivery records. -/
theorem requeueAt_eq {v w : PageVersion} {p : Device × Nat} (hw : p.1.record v.uid = some w) (h : v.SameBand w)
    (i : SiteId) : requeueAt v.uid p i =
      if p.1.requeuesAt v.uid i then (enqueue i v.ref .replate v.seps p.1, p.2 + 1) else p := by
  obtain ⟨href, hseps, -⟩ := h
  simp only [requeueAt, hw, Device.requeuesAt, Option.any_some, Bool.and_eq_true, decide_eq_true_eq, href, hseps]

/-- The re-queue keeps what it reads of the version, and is a fold over the sites that ask for it. -/
theorem foldl_requeueAt {v : PageVersion} (l : List SiteId) (p : Device × Nat) {w : PageVersion}
    (hw : p.1.record v.uid = some w) (h : v.SameBand w) :
    l.foldl (requeueAt v.uid) p = l.foldl (fun p i =>
      if p.1.requeuesAt v.uid i then (enqueue i v.ref .replate v.seps p.1, p.2 + 1) else p) p ∧
    ∃ x, (l.foldl (requeueAt v.uid) p).1.record v.uid = some x ∧ v.SameBand x := by
  induction l generalizing p w with
  | nil => exact ⟨rfl, w, hw, h⟩
  | cons i l ih =>
    have hnext : ∃ x, (requeueAt v.uid p i).1.record v.uid = some x ∧ v.SameBand x := by
      rw [requeueAt_eq hw h]
      split
      · obtain ⟨x, hx, ⟨h1, h2, h3⟩, -⟩ := sameBand_of_forgetAt (enqueue_forgetAt i v.ref .replate v.seps p.1) hw
        exact ⟨x, hx, h1.trans h.1, h2.trans h.2.1, h3.trans h.2.2⟩
      · exact ⟨w, hw, h⟩
    obtain ⟨x, hx, hsame⟩ := hnext
    rw [List.foldl_cons, List.foldl_cons, ← requeueAt_eq hw h]
    exact ih _ hx hsame

theorem foldl_counting (g : Device → SiteId → Device) (l : List SiteId) (d : Device) (n : Nat) :
    l.foldl (fun (p : Device × Nat) i => (g p.1 i, p.2 + 1)) (d, n) = (l.foldl g d, n + l.length) := by
  induction l generalizing d n with
  | nil => rfl
  | cons i l ih => rw [List.foldl_cons, ih, List.foldl_cons, List.length_cons, Nat.add_assoc, Nat.add_comm 1]

theorem repairRequeue_of {v : PageVersion} {d : Device} (hv : d.record v.uid = some v) :
    repairRequeue v.uid d = ((allSites.filter (d.requeuesAt v.uid)).foldl
        (fun x i => enqueue i v.ref .replate v.seps x) d, (allSites.filter (d.requeuesAt v.uid)).length) ∧
    ∃ x, (repairRequeue v.uid d).1.record v.uid = some x ∧ v.SameBand x := by
  obtain ⟨hfold, hsame⟩ := foldl_requeueAt allSites (d, 0) hv ⟨rfl, rfl, rfl⟩
  refine ⟨?_, hsame⟩
  have hguard : ∀ (p : Device × Nat) (i j : SiteId), j ≠ i →
      (enqueue i v.ref .replate v.seps p.1).requeuesAt v.uid j = p.1.requeuesAt v.uid j := fun p i j hj =>
    requeuesAt_enqueue hj _ _ _ _ _
  rw [repairRequeue_eq, hfold, foldl_guard (guard := fun (p : Device × Nat) i => p.1.requeuesAt v.uid i)
      (f := fun (p : Device × Nat) i => (enqueue i v.ref .replate v.seps p.1, p.2 + 1)) allSites_nodup hguard,
    foldl_counting (fun x i => enqueue i v.ref .replate v.seps x), Nat.zero_add]

section
variable {n : Fin 4} {w : BandWrite} {d : Device} {v : PageVersion}

theorem finishRepair_gone (h : d.record w.ref.uid = none) :
    finishRepair n w d = refuseWrite w (d.landed n w) := by
  have hr : (d.landed n w).record w.ref.uid = none := h
  simp only [finishRepair, storePayload_onBuffer, hr]

theorem finishRepair_closed (h : d.record w.ref.uid = some v) (hs : v.out = false) :
    finishRepair n w d = refuseWrite w (d.landed n w) := by
  have hr : (d.landed n w).record w.ref.uid = some v := h
  simp only [finishRepair, storePayload_onBuffer, hr, hs, Bool.false_eq_true, if_false]

/-- A repair recorded: its re-queue, and BAND_REPAIRED with the faulty entries left. -/
theorem finishRepair_out (h : d.record w.ref.uid = some v) (hs : v.out = true) {x : PageVersion} {e : Device}
    (hx : x = v.withEntry w.sep w.band { cell := w.cell, crc := w.crc, fault := false })
    (he : e = (d.landed n w).onRecord v.uid fun y =>
      y.withEntry w.sep w.band { cell := w.cell, crc := w.crc, fault := false }) :
    finishRepair n w d = ((allSites.filter (e.requeuesAt v.uid)).foldl
      (fun y i => enqueue i v.ref .replate v.seps y) e).event (.bandRepaired v.key v.version w.sep.val w.band x.faulty
        (allSites.filter (e.requeuesAt v.uid)).length) := by
  have hr : (d.landed n w).record w.ref.uid = some v := h
  have hrv : (d.landed n w).record v.uid = some v := by rw [(record_some h).1]; exact h
  have hrec : e.record x.uid = some x := by
    rw [he, hx]; exact record_onRecord_same (fun _ => rfl) hrv
  obtain ⟨hq, y, hy, -, -, hbands⟩ := repairRequeue_of hrec
  have huid : x.uid = v.uid := by rw [hx]; rfl
  have href : x.ref = v.ref := by rw [hx]; rfl
  have hseps : x.seps = v.seps := by rw [hx]; rfl
  rw [huid] at hy hq
  have hfaulty : y.faulty = x.faulty := by
    simp only [PageVersion.faulty, PageVersion.entries, hbands]
  rw [hq, href, hseps] at hy
  simp only [finishRepair, storePayload_onBuffer, hr, hs, if_true, ← he, hq, href, hseps, hy, hfaulty]

theorem requeuesAt_faulty {x : PageVersion} (hr : d.record x.uid = some x) (h : x.faulty ≠ 0) :
    allSites.filter (d.requeuesAt x.uid) = [] := by
  refine List.filter_eq_nil_iff.2 fun i _ => ?_
  simp [Device.requeuesAt, hr, h]

theorem requeuesAt_iff {x : PageVersion} (hr : d.record x.uid = some x) (h : x.faulty = 0) (i : SiteId) :
    d.requeuesAt x.uid i = true ↔ (x.at i).state = .failed ∧ (x.at i).cause = some .storeError ∧
      (d.site i).win.link ≠ .disabled ∧ (d.site i).win.closing = false ∧ (d.site i).hasPosition x.key.pos = false := by
  simp only [Device.requeuesAt, hr, h, Option.any_some, decide_true, Bool.true_and, requeues, Bool.and_eq_true,
    decide_eq_true_eq, Bool.not_eq_true', absent_eq_false, and_assoc]

/-- The two clauses of a recorded repair. -/
theorem finishRepair_recorded (h : d.record w.ref.uid = some v) (hs : v.state = .released ∨ v.state = .delivered)
    {x : PageVersion} {e : Device}
    (hx : x = v.withEntry w.sep w.band { cell := w.cell, crc := w.crc, fault := false })
    (he : e = (d.landed n w).onRecord v.uid fun y =>
      y.withEntry w.sep w.band { cell := w.cell, crc := w.crc, fault := false }) :
    (x.faulty ≠ 0 → finishRepair n w d = e.event (.bandRepaired v.key v.version w.sep.val w.band x.faulty 0)) ∧
    ∀ sites : List SiteId, x.faulty = 0 →
      sites = allSites.filter (fun i => decide ((v.at i).state = .failed ∧ (v.at i).cause = some .storeError ∧
        (d.site i).win.link ≠ .disabled ∧ (d.site i).win.closing = false ∧
        (d.site i).hasPosition v.key.pos = false)) →
      finishRepair n w d = (sites.foldl (fun y i => enqueue i v.ref .replate v.seps y) e).event
        (.bandRepaired v.key v.version w.sep.val w.band 0 sites.length) := by
  have hrv : (d.landed n w).record v.uid = some v := by rw [(record_some h).1]; exact h
  have hrec : e.record x.uid = some x := by
    rw [he, hx]; exact record_onRecord_same (fun _ => rfl) hrv
  have huid : x.uid = v.uid := by rw [hx]; rfl
  have hfin := finishRepair_out (n := n) h ((lookup_out v).2 hs) hx he
  refine ⟨fun hf => ?_, fun sites hf hsites => ?_⟩
  · have hnil := requeuesAt_faulty hrec hf
    rw [huid] at hnil
    rw [hfin, hnil]
    rfl
  · have hfilter : allSites.filter (e.requeuesAt v.uid) = sites := by
      rw [hsites]
      refine List.filter_congr fun i _ => ?_
      have hat : x.at i = v.at i := by rw [hx]; rfl
      have hkey : x.key = v.key := by rw [hx]; rfl
      have hsite : e.site i = d.site i := by rw [he]; rfl
      have hiff := requeuesAt_iff hrec hf i
      rw [huid, hat, hkey, hsite] at hiff
      rw [Bool.eq_iff_iff, hiff, decide_eq_true_iff]
    rw [hfin, hfilter, hf]

end

/-- Settles O16. -/
theorem repairWriteIsRecordedOrWaits : Obligations.RepairWriteIsRecordedOrWaits := by
  unfold Obligations.RepairWriteIsRecordedOrWaits
  have hout : ∀ v : PageVersion, v.state ≠ .released → v.state ≠ .delivered → v.out = false := fun v h1 h2 => by
    rw [← Bool.not_eq_true, lookup_out]
    rintro (h | h)
    · exact h1 h
    · exact h2 h
  refine ⟨fun b w d e he => ⟨fun v x hv hs hx => ?_, fun v hv h1 h2 => ?_, fun hv => ?_⟩,
    fun b s w d hb hw hended hd => ?_⟩
  · exact finishRepair_recorded hv hs hx (by rw [he]; rfl)
  · rw [finishRepair_closed hv (hout v h1 h2), refuseWrite_closed (v := v) (by exact hv), he]
    rfl
  · rw [finishRepair_gone hv, refuseWrite_noPage (by exact hv), he]
    rfl
  · have hexec : exec (.repairWriteComplete b) s = .next { s with dev := arbitrate (endRepair b w s.dev) } := by
      refine congrArg (fun d => Host.Outcome.next { s with dev := d }) ?_
      simp only [hb, hw, hended, Bool.false_eq_true, not_false_eq_true, and_self, if_true]
    refine ⟨fun hread => ?_, fun hread => ?_⟩
    · rw [hexec, endRepair, if_pos hread]
    · have hend : endRepair b w s.dev = finishRepair b w s.dev := if_neg (by simp [hread])
      refine ⟨fun v x hv hs hx => ?_, fun v hv h1 h2 => ?_, fun hv hday => ?_, fun hv hday => ?_⟩
      · have hrec := finishRepair_recorded (n := b) hv hs hx (e := d.onRecord v.uid fun y =>
          y.withEntry w.sep w.band { cell := w.cell, crc := w.crc, fault := false }) (by rw [hd]; rfl)
        rw [hexec, hend]
        refine ⟨fun hf => by rw [hrec.1 hf], fun sites hf hsites => ?_⟩
        rw [hrec.2 sites hf hsites]
        rfl
      · rw [hexec, hend, finishRepair_closed hv (hout v h1 h2), refuseWrite_closed (v := v) (by exact hv), hd]
        rfl
      · rw [hexec, hend, finishRepair_gone hv, refuseWrite_noPage (by exact hv), if_neg (by simp [hday]), hd]
        rfl
      · rw [hexec, hend, finishRepair_gone hv, refuseWrite_noPage (by exact hv), if_pos hday, hd]
        rfl

end Sys2Proof.Machine
end

section
/-!
SUPPORT. The ends of a preparation: the repair writes that waited for its read, the block left prepared, and the
uncorrectable read.
-/

namespace Sys2Proof.Machine
open Sys2Proof.Laws

/-! ## The repair writes that waited (R47, log 23) -/

/-- One buffer's part of the completion of ended repairs. -/
def finishEndedAt (d : Device) (b : Fin 4) : Device :=
  match entryOf d.feed.buffers b with
  | .writing w => if w.repair ∧ w.ended ∧ ¬ d.reading w then finishRepair b w d else d
  | _ => d

theorem finishEnded_eq (d : Device) : finishEnded d = allFour.foldl finishEndedAt d := rfl

/-- The ended write that a buffer holds, if any. -/
def Device.endedIn (d : Device) (b : Fin 4) : Option (Fin 4 × BandWrite) :=
  match entryOf d.feed.buffers b with
  | .writing w => if w.ended = true then some (b, w) else none
  | _ => none

theorem endedIn_iff (d : Device) (b c : Fin 4) (w : BandWrite) :
    d.endedIn b = some (c, w) ↔ c = b ∧ entryOf d.feed.buffers b = .writing w ∧ w.ended = true := by
  unfold Device.endedIn
  split
  case h_1 x hx =>
    rw [hx]
    by_cases he : x.ended = true
    · simp only [he, if_true, Option.some.injEq, Prod.mk.injEq, Buffer.writing.injEq]
      constructor
      · rintro ⟨rfl, rfl⟩; exact ⟨rfl, rfl, he⟩
      · rintro ⟨rfl, rfl, -⟩; exact ⟨rfl, rfl⟩
    · simp only [he, Bool.false_eq_true, if_false, reduceCtorEq, Buffer.writing.injEq, false_iff]
      rintro ⟨-, rfl, h⟩
      exact he h
  case h_2 hx =>
    simp only [reduceCtorEq, false_iff]
    rintro ⟨-, h, -⟩
    exact hx w h

/-- The ended writes in the order of their buffers are the list that names them so. -/
theorem waiting_eq {d : Device} {waiting : List (Fin 4 × BandWrite)} (hs : waiting.Pairwise fun x y => x.1 < y.1)
    (hm : ∀ (b : Fin 4) (w : BandWrite), (b, w) ∈ waiting ↔ entryOf d.feed.buffers b = .writing w ∧ w.ended = true) :
    allFour.filterMap d.endedIn = waiting := by
  have hfour : allFour.Pairwise fun b c => b < c := by decide
  have hmem : ∀ b : Fin 4, b ∈ allFour := by decide
  refine eq_of_ascending (r := fun x y : Fin 4 × BandWrite => x.1 < y.1) (fun _ _ h => Fin.lt_asymm h)
    (hfour.filterMap _ fun b c hbc x hx y hy => ?_) hs fun ⟨b, w⟩ => ?_
  · obtain ⟨x1, x2⟩ := x
    obtain ⟨y1, y2⟩ := y
    rw [((endedIn_iff d b x1 x2).1 hx).1, ((endedIn_iff d c y1 y2).1 hy).1]
    exact hbc
  · rw [List.mem_filterMap, hm]
    constructor
    · rintro ⟨c, -, hc⟩
      obtain ⟨rfl, h⟩ := (endedIn_iff d c b w).1 hc
      exact h
    · exact fun h => ⟨b, hmem b, (endedIn_iff d b b w).2 ⟨rfl, h⟩⟩

theorem foldl_enqueue_builder (f : Device → SiteId → Device) (hf : ∀ d i, (f d i).builder = d.builder) (l : List SiteId)
    (d : Device) : (l.foldl f d).builder = d.builder := by
  induction l generalizing d with
  | nil => rfl
  | cons i l ih => rw [List.foldl_cons, ih, hf]

/-- A completed repair leaves the builder and the other buffers. -/
theorem finishRepair_keeps (b : Fin 4) (w : BandWrite) (d : Device) : (finishRepair b w d).builder = d.builder ∧
    ∀ c : Fin 4, c ≠ b → entryOf (finishRepair b w d).feed.buffers c = entryOf d.feed.buffers c := by
  have hlanded : ∀ c : Fin 4, c ≠ b → entryOf (d.landed b w).feed.buffers c = entryOf d.feed.buffers c := fun c hc => by
    simp only [Device.landed]
    rw [entryOf_modifyAt, if_neg hc]
  have hrefuse : (refuseWrite w (d.landed b w)).builder = d.builder ∧
      (refuseWrite w (d.landed b w)).feed.buffers = (d.landed b w).feed.buffers := by
    unfold refuseWrite
    split
    · exact ⟨rfl, (joinEvent_keeps _ _).1⟩
    · split
      · exact ⟨rfl, rfl⟩
      · exact ⟨rfl, (joinEvent_keeps _ _).1⟩
  have hkept : finishRepair b w d = refuseWrite w (d.landed b w) →
      (finishRepair b w d).builder = d.builder ∧
        ∀ c : Fin 4, c ≠ b → entryOf (finishRepair b w d).feed.buffers c = entryOf d.feed.buffers c := fun h => by
    rw [h]
    exact ⟨hrefuse.1, fun c hc => by rw [hrefuse.2, hlanded c hc]⟩
  cases hv : d.record w.ref.uid with
  | none => exact hkept (finishRepair_gone hv)
  | some v =>
    cases ho : v.out with
    | false => exact hkept (finishRepair_closed hv ho)
    | true =>
      have hfold := fun l e => keeps_foldl l (fun (y : Device) i => enqueue i v.ref .replate v.seps y)
        (fun y i => keeps_enqueue i v.ref .replate v.seps y) e
      rw [finishRepair_out hv ho rfl rfl]
      refine ⟨foldl_enqueue_builder _ (fun y i => enqueue_builder i v.ref .replate v.seps y) _ _, fun c hc => ?_⟩
      obtain ⟨-, -, hbuffers, -⟩ := hfold (allSites.filter (((d.landed b w).onRecord v.uid fun y =>
        y.withEntry w.sep w.band { cell := w.cell, crc := w.crc, fault := false }).requeuesAt v.uid))
        ((d.landed b w).onRecord v.uid fun y =>
          y.withEntry w.sep w.band { cell := w.cell, crc := w.crc, fault := false })
      exact (congrArg (entryOf · c) ((joinEvent_keeps _ _).1.trans hbuffers)).trans (hlanded c hc)

theorem foldl_finishEndedAt {l : List (Fin 4)} (hl : l.Nodup) {d x : Device} (hidle : x.builder.inFlight = none)
    (hb : ∀ b ∈ l, entryOf x.feed.buffers b = entryOf d.feed.buffers b)
    (hr : ∀ b ∈ l, ∀ w : BandWrite, entryOf d.feed.buffers b = .writing w → w.ended = true → w.repair = true) :
    l.foldl finishEndedAt x = (l.filterMap d.endedIn).foldl (fun y r => finishRepair r.1 r.2 y) x := by
  induction l generalizing x with
  | nil => rfl
  | cons b l ih =>
    obtain ⟨hni, hl'⟩ := List.nodup_cons.1 hl
    have hread : ∀ w : BandWrite, x.reading w = false := fun w => by simp [Device.reading, hidle]
    have hbb := hb b List.mem_cons_self
    have hrest : ∀ c ∈ l, entryOf x.feed.buffers c = entryOf d.feed.buffers c := fun c hc =>
      hb c (List.mem_cons_of_mem b hc)
    have hrl := fun c hc => hr c (List.mem_cons_of_mem b hc)
    rw [List.foldl_cons]
    cases he : d.endedIn b with
    | none =>
      have hsame : finishEndedAt x b = x := by
        unfold finishEndedAt
        rw [hbb]
        split
        case h_1 w hw =>
          refine if_neg fun h => ?_
          rw [(endedIn_iff d b b w).2 ⟨rfl, hw, h.2.1⟩] at he
          cases he
        case h_2 => rfl
      rw [hsame, List.filterMap_cons_none he]
      exact ih hl' hidle hrest hrl
    | some r =>
      obtain ⟨c, w⟩ := r
      obtain ⟨rfl, hw, hended⟩ := (endedIn_iff d b c w).1 he
      have hdone : finishEndedAt x c = finishRepair c w x := by
        unfold finishEndedAt
        rw [hbb, hw]
        exact if_pos ⟨hr c List.mem_cons_self w hw hended, hended, by simp [hread]⟩
      obtain ⟨hbuilder, hbuffers⟩ := finishRepair_keeps c w x
      rw [hdone, List.filterMap_cons_some he, List.foldl_cons]
      refine ih hl' (by rw [hbuilder]; exact hidle) (fun a ha => ?_) hrl
      rw [hbuffers a fun e => hni (e ▸ ha), hrest a ha]

/-- With the builder idle and the buffers as they were, every write that waited is completed, in buffer order. -/
theorem finishEnded_waiting {d x : Device} {waiting : List (Fin 4 × BandWrite)}
    (hs : waiting.Pairwise fun x y => x.1 < y.1)
    (hm : ∀ (b : Fin 4) (w : BandWrite), (b, w) ∈ waiting ↔ entryOf d.feed.buffers b = .writing w ∧ w.ended = true)
    (hr : ∀ r ∈ waiting, r.2.repair = true) (hidle : x.builder.inFlight = none)
    (hb : x.feed.buffers = d.feed.buffers) :
    finishEnded x = waiting.foldl (fun y r => finishRepair r.1 r.2 y) x := by
  have hfour : allFour.Nodup := by decide
  rw [finishEnded_eq, foldl_finishEndedAt hfour (d := d) hidle (fun b _ => by rw [hb])
    (fun b _ w hw he => hr (b, w) ((hm b w).2 ⟨hw, he⟩)), waiting_eq hs hm]

/-! ## PREPARATION_COMPLETE (R95 to R97) -/

theorem postOwedStock_keeps (i : SiteId) (k : Stock) (d : Device) :
    (postOwedStock i k d).builder = d.builder ∧ (postOwedStock i k d).feed = d.feed := by
  unfold postOwedStock
  dsimp only
  split <;> exact ⟨rfl, rfl⟩

theorem postOwed_keeps (i : SiteId) (d : Device) :
    (postOwed i d).builder = d.builder ∧ (postOwed i d).feed = d.feed := by
  unfold postOwed
  induction allFour generalizing d with
  | nil => exact ⟨rfl, rfl⟩
  | cons k l ih =>
    obtain ⟨h1, h2⟩ := ih (postOwedStock i k d)
    obtain ⟨k1, k2⟩ := postOwedStock_keeps i k d
    exact ⟨h1.trans k1, h2.trans k2⟩

theorem lookPageStart_buffers (i : SiteId) (d : Device) : (lookPageStart i d).feed.buffers = d.feed.buffers := by
  obtain ⟨-, -, h, -⟩ := keeps_lookPageStart i d
  exact h

theorem execPreparationComplete_of {s : State} {p : Preparation} (h : s.dev.builder.inFlight = some p) :
    exec .preparationComplete s = .next { s with dev := arbitrate (finishEnded (completePreparation p s.dev)) } := by
  refine congrArg (fun d => Host.Outcome.next { s with dev := d }) ?_
  simp only [h]

section
variable {p : Preparation} {d : Device}

theorem completePreparation_discard (h : p.discard = true) : completePreparation p d = d.builderIdle := by
  simp only [completePreparation, h, if_true]

theorem completePreparation_plate {j : PlateJob} {c : Delivery} {v : PageVersion} {payload : List Byte}
    (h : p.discard = false) (hj : p.job = .plate j) (hc : (d.site p.site).q.current = some c)
    (hv : d.record j.ref.uid = some v) (hp : payload = j.payload d.store) :
    completePreparation p d = (storePayload (slotCell p.site p.slot) payload d.builderIdle).onSite p.site fun st =>
      { st with
        win := { st.win with
          prepared := some (builtBlock p.slot .plate (some j.delivery) j.ident none payload) }
        q := { st.q with current := some (c.plateDone v.bandCount j (crc32 payload)) }
        tone := { st.tone with clampCount := min (st.tone.clampCount + j.clamps d.store) 65535 } } := by
  have hrec : d.builderIdle.record j.ref.uid = some v := hv
  have hpay : j.payload d.builderIdle.store = payload := hp.symm
  simp only [completePreparation, h, hj, completePlate, hrec, hpay, leavePrepared_eq, Device.onQueue, Device.onTone,
    onSite_onSite, Bool.false_eq_true, if_false]
  refine onSite_congr ?_
  simp only [Site.prepare]
  have hcur : ((storePayload (slotCell p.site p.slot) payload d.builderIdle).site p.site).q.current = some c := hc
  rw [hcur]
  rfl

theorem completePreparation_pageEnd {id : Nat} {ref : PageRef} {ident : Ident} {payload : List Byte}
    (h : p.discard = false) (hj : p.job = .pageEnd id ref ident payload) :
    completePreparation p d = (storePayload (slotCell p.site p.slot) payload d.builderIdle).onSite p.site fun st =>
      { st with
        win := { st.win with prepared := some (builtBlock p.slot .pageEnd (some id) ident none payload) }
        q := { st.q with current := st.q.current.map fun c : Delivery => { c with pageEnd := true } } } := by
  simp only [completePreparation, h, hj, completePageEnd, leavePrepared_eq, Device.onQueue, onSite_onSite,
    Bool.false_eq_true, if_false]
  rfl

theorem completePreparation_control {e : ControlEntry} (h : p.discard = false) (hj : p.job = .control e) :
    completePreparation p d = lookPageStart p.site (postOwed p.site
      ((storePayload (slotCell p.site p.slot) e.payload d.builderIdle).onSite p.site fun st => { st with
        win := { st.win with prepared := some (builtBlock p.slot e.kind none e.ident e.target? e.payload) }
        q := { st.q with control := st.q.control.tail } })) := by
  simp only [completePreparation, h, hj, completeControl, leavePrepared_eq, Device.onQueue, onSite_onSite,
    Bool.false_eq_true, if_false]
  rfl

end

/-- Settles O18. -/
theorem preparationLeavesItsBlock : Obligations.PreparationLeavesItsBlock := by
  unfold Obligations.PreparationLeavesItsBlock
  intro s p waiting finish hp hs hm hr hfinish
  have hends : ∀ x : Device, x.builder.inFlight = none → x.feed.buffers = s.dev.feed.buffers →
      finishEnded x = finish x := fun x hidle hb =>
    (finishEnded_waiting hs hm (fun r h => (hr r h).1) hidle hb).trans (hfinish x).symm
  refine ⟨fun hd => ?_, fun j c v payload hd hj hc hv hpay => ?_, fun id ref ident payload hd hj => ?_, fun e hd hj =>
    ?_⟩
  · rw [execPreparationComplete_of hp, completePreparation_discard hd, hends s.dev.builderIdle rfl rfl]
    rfl
  · rw [execPreparationComplete_of hp, completePreparation_plate hd hj hc hv hpay, hends] <;> rfl
  · rw [execPreparationComplete_of hp, completePreparation_pageEnd hd hj, hends] <;> rfl
  · rw [execPreparationComplete_of hp, completePreparation_control hd hj, hends]
    · rfl
    · rw [lookPageStart_builder, (postOwed_keeps _ _).1]
      rfl
    · rw [lookPageStart_buffers, (postOwed_keeps _ _).2]
      rfl

/-! ## UNCORRECTABLE_READ (R49, R98, R129) -/

theorem execUncorrectableRead_of {s : State} {p : Preparation} (h : s.dev.builder.inFlight = some p) :
    exec .uncorrectableRead s = .next { s with dev := uncorrectable p s.dev } := by
  refine congrArg (fun d => Host.Outcome.next { s with dev := d }) ?_
  simp only [h]

theorem uncorrectable_plate {p : Preparation} {j : PlateJob} (h : p.job = .plate j) (d : Device) :
    uncorrectable p d = arbitrate (finishEnded (failRead p j d)) := by
  simp only [uncorrectable, h]

theorem uncorrectable_other {p : Preparation} (h : ∀ k : PlateJob, p.job ≠ .plate k) (d : Device) :
    uncorrectable p d = d := by
  unfold uncorrectable
  split
  case h_1 k hk => exact absurd hk (h k)
  case h_2 => rfl
  case h_3 => rfl

theorem markFault_eq (j : PlateJob) (d : Device) : markFault j d = { d with
    table := d.table.map fun v => if v.uid = j.ref.uid then
      (v.entry j.sep j.band).elim v (fun e =>
        if e.cell = j.cell then v.withEntry j.sep j.band { e with fault := true } else v) else v } := by
  unfold markFault Device.onRecord
  refine congrArg (fun t => { d with table := t }) (List.map_congr_left fun v _ => ?_)
  dsimp only
  cases v.entry j.sep j.band <;> rfl

section
variable {i : SiteId} {j : PlateJob} {d : Device} {det : CondDetails}

theorem storeErrorAt_absent (ha : (d.site i).absent = true) : storeErrorAt i j d = d := by
  have hr := raise_of_absent (det := .storeError j.ref.key j.ref.version j.sep j.band) ha
  have ho : outcomeOf (d.site i) .storeError = .dropped := hr.1
  simp only [storeErrorAt, ho, hr.2, reduceCtorEq, decide_false, Bool.false_eq_true, if_false]

/-- STORE_ERROR where it is selected: the condition alone, and the delivery is kept. -/
theorem storeErrorAt_selected (ha : (d.site i).absent = false) (hs : (d.site i).cfg.haltMask.getLsbD 0 = true) :
    storeErrorAt i j d = raise i (.storeError j.ref.key j.ref.version j.sep j.band) d := by
  have ho : outcomeOf (d.site i) .storeError ≠ .action := by
    have hsel : (d.site i).selects .storeError = true := hs
    simp only [outcomeOf, ha, hsel, Bool.false_eq_true, if_false, if_true]
    split <;> simp
  simp only [storeErrorAt, ho, decide_false, Bool.false_eq_true, if_false]

/-- STORE_ERROR where it is not selected fails the delivery the read was for. -/
theorem storeErrorAt_action (ha : (d.site i).absent = false) (hs : (d.site i).cfg.haltMask.getLsbD 0 = false)
    {c : Delivery} (hc : (d.site i).q.current = some c) (hid : c.id = j.delivery) :
    storeErrorAt i j d = cancelCurrent i c .storeError (d.event (.condition i (d.site i).win.link .action
      (d.site i).win.link (.storeError j.ref.key j.ref.version j.sep j.band))) := by
  obtain ⟨ho, he⟩ := raise_of_action (i := i) (det := .storeError j.ref.key j.ref.version j.sep j.band) ha hs
  have ho' : outcomeOf (d.site i) .storeError = .action := ho
  have hcur : ((d.event (.condition i (d.site i).win.link .action (d.site i).win.link
      (.storeError j.ref.key j.ref.version j.sep j.band))).site i).q.current = some c := hc
  have hne : (CondDetails.storeError j.ref.key j.ref.version j.sep j.band).condition ≠ .linkLost := by
    simp [CondDetails.condition]
  rw [if_neg hne] at he
  simp only [storeErrorAt, ho', he, decide_true, if_true, hcur, hid]

end

@[simp] theorem raise_builder (i : SiteId) (det : CondDetails) (d : Device) : (raise i det d).builder = d.builder := by
  have h := congrArg Device.builder (raise_rest i det d)
  exact h

@[simp] theorem postCancel_builder (i : SiteId) (key : PageKey) (n : Nat) (r : CancelReason) (d : Device) :
    (postCancel i key n r d).builder = d.builder := by
  unfold postCancel
  split
  · rfl
  · split
    · rfl
    · exact raise_builder i _ d

@[simp] theorem deliveredCheck_builder (u : Nat) (d : Device) : (deliveredCheck u d).builder = d.builder := by
  unfold deliveredCheck
  split
  · split
    · unfold retain; split <;> rfl
    · rfl
  · rfl

/-- A cancellation leaves the builder but for the mark of the delivery's preparation. -/
theorem cancelCurrent_builder (i : SiteId) (c : Delivery) (cause : CancelCause) (d : Device) :
    (cancelCurrent i c cause d).builder =
      (d.markIf fun p => decide (p.site = i) && decide (p.job.delivery = some c.id)).builder := by
  unfold cancelCurrent finalRecord
  dsimp only
  rw [deliveredCheck_builder]
  cases cause.reason with
  | none => rfl
  | some r => exact postCancel_builder i _ _ r _

/-- Settles O19. -/
theorem uncorrectableReadFaultsTheBand : Obligations.UncorrectableReadFaultsTheBand := by
  unfold Obligations.UncorrectableReadFaultsTheBand
  intro s p j d det waiting finish hp hs hm hr hfinish
  have hends : ∀ x : Device, x.builder.inFlight = none → x.feed.buffers = s.dev.feed.buffers →
      finishEnded x = finish x := fun x hidle hb =>
    (finishEnded_waiting hs hm (fun r h => (hr r h).1) hidle hb).trans (hfinish x).symm
  refine ⟨fun hother => ?_, fun hj hdet hd => ?_⟩
  · rw [execUncorrectableRead_of hp, uncorrectable_other hother]
  · have hexec : exec .uncorrectableRead s = .next { s with dev := arbitrate (finishEnded (failRead p j s.dev)) } := by
      rw [execUncorrectableRead_of hp, uncorrectable_plate hj]
    have hmark : markFault j s.dev.builderIdle = d := (markFault_eq j _).trans hd.symm
    have hsite : d.site p.site = s.dev.site p.site := by rw [hd]; rfl
    have hidle : d.builder.inFlight = none := by rw [hd]
    have hfeed : d.feed = s.dev.feed := by rw [hd]
    have htime : d.time = s.dev.time := by rw [hd]; rfl
    refine ⟨fun hdis => ?_, fun hdis habs => ?_, fun hdis hl hc => ?_⟩
    · rw [hexec, failRead, hmark, if_pos hdis, hends d hidle (by rw [hfeed])]
    · have ha : (d.site p.site).absent = true := by rw [hsite]; exact (absent_iff _).2 habs
      rw [hexec, failRead, hmark, if_neg (by simp [hdis]), storeErrorAt_absent ha, hends d hidle (by rw [hfeed])]
    · have ha : (d.site p.site).absent = false := by rw [hsite]; exact (absent_eq_false _).2 ⟨hl, hc⟩
      have hevent : ∀ e : Event, (d.event e).feed.buffers = s.dev.feed.buffers := fun e => by
        rw [← hfeed]; exact (joinEvent_keeps e d.feed).1
      refine ⟨fun hsel => ?_, fun hsel c hcur hid => ?_⟩
      · have hselected := storeErrorAt_selected (j := j) ha (by rw [hsite]; exact hsel)
        rw [← hdet] at hselected
        have hbit : (d.site p.site).cfg.haltMask.getLsbD det.condition.bit = true := by
          rw [hsite, hdet]; exact hsel
        refine ⟨fun hh => ?_, fun hh => ?_⟩
        · have hraise := (raise_of_halted (det := det) ha hbit (by rw [hsite]; exact hh)).2
          rw [hexec, failRead, hmark, if_neg (by simp [hdis]), hselected, hraise,
            hends _ (by exact hidle) (by exact hevent _)]
        · have hraise := (raise_of_halt (det := det) ha hbit (by rw [hsite]; exact hh)).2
          rw [hexec, failRead, hmark, if_neg (by simp [hdis]), hselected, hraise,
            hends _ (by exact hidle) (by exact hevent _),
            hsite, htime]
          refine congrArg (fun x => Host.Outcome.next { s with dev := arbitrate (finish x) }) (onSite_congr ?_)
          have hs' : (d.event (.condition p.site (s.dev.site p.site).win.link .halt .halted det)).site p.site =
              s.dev.site p.site := hsite
          rw [hs']
          rfl
      · have haction := storeErrorAt_action (j := j) ha (by rw [hsite]; exact hsel) (by rw [hsite]; exact hcur) hid
        rw [← hdet, hsite] at haction
        rw [hexec, failRead, hmark, if_neg (by simp [hdis]), haction, hends]
        · rw [cancelCurrent_builder]
          exact congrArg (Option.map _) hidle
        · obtain ⟨-, -, hb, -⟩ := keeps_cancelCurrent p.site c .storeError
            (d.event (.condition p.site (s.dev.site p.site).win.link .action (s.dev.site p.site).win.link det))
          exact hb.trans (hevent _)

end Sys2Proof.Machine
end

section
/-!
SUPPORT. Cancellations, part by part, and the end of a transmission.
-/

namespace Sys2Proof.Machine
open Sys2Proof.Laws

/-! ## What a cancellation does to the site (R127, R144) -/

theorem markIf_eq (d : Device) (i : SiteId) (id : Nat) :
    d.markIf (fun p => decide (p.site = i) && decide (p.job.delivery = some id)) =
      { d with builder := { d.builder with inFlight := d.builder.inFlight.map fun p =>
          if p.site = i ∧ p.job.delivery = some id then { p with discard := true } else p } } := by
  simp only [Device.markIf, Bool.and_eq_true, decide_eq_true_eq]

/-- The CANCEL that a cause posts, if any. -/
def postCause (i : SiteId) (c : Delivery) (cause : CancelCause) (d : Device) : Device :=
  match cause.reason with
  | some r => postCancel i c.ref.key c.ref.version r d
  | none => d

theorem cancelCurrent_eq (i : SiteId) (c : Delivery) (cause : CancelCause) (d : Device) :
    cancelCurrent i c cause d = deliveredCheck c.ref.uid (((postCause i c cause
      ((d.markIf fun p => decide (p.site = i) && decide (p.job.delivery = some c.id)).onWin i fun w =>
        w.cancelled c.id)).onQueue i fun q => { q with current := none }).onDelivery c.ref.uid i fun r =>
          { r with state := cause.state, cause := cause.condition }) := rfl

theorem raise_ranks (i j : SiteId) (det : CondDetails) (d : Device) :
    ((raise i det d).site j).win.ranks = (d.site j).win.ranks ∧
    ((raise i det d).site j).win.prepared = (d.site j).win.prepared ∧
    ((raise i det d).site j).win.nextSeq = (d.site j).win.nextSeq := by
  by_cases hj : j = i
  case neg => rw [site_raise_ne hj]; exact ⟨rfl, rfl, rfl⟩
  case pos =>
    subst hj
    unfold raise
    dsimp only
    split
    case h_2 =>
      rw [haltSite_eq, site_onSite_same]
      exact ⟨rfl, rfl, rfl⟩
    all_goals exact ⟨rfl, rfl, rfl⟩

theorem postCause_ranks (i : SiteId) (c : Delivery) (cause : CancelCause) (d : Device) :
    ((postCause i c cause d).site i).win.ranks = (d.site i).win.ranks ∧
    ((postCause i c cause d).site i).win.prepared = (d.site i).win.prepared ∧
    ((postCause i c cause d).site i).win.nextSeq = (d.site i).win.nextSeq ∧
    ((postCause i c cause d).site i).q.queue = (d.site i).q.queue := by
  unfold postCause postCancel
  split
  · split
    · exact ⟨rfl, rfl, rfl, rfl⟩
    · split
      · simp [appendControl]
      · obtain ⟨h1, h2, h3⟩ := raise_ranks i i (.overflowCancel c.ref.key c.ref.version) d
        exact ⟨h1, h2, h3, congrArg SiteQueue.queue (raise_q i _ d i)⟩
  · exact ⟨rfl, rfl, rfl, rfl⟩

@[simp] theorem postCause_record (i : SiteId) (c : Delivery) (cause : CancelCause) (d : Device) (u : Nat) :
    (postCause i c cause d).record u = d.record u := by
  unfold postCause
  split
  · exact postCancel_record ..
  · rfl

theorem cancelCurrent_site (i : SiteId) (c : Delivery) (cause : CancelCause) (d : Device) :
    (cancelCurrent i c cause d).site i = { (postCause i c cause
      ((d.markIf fun p => decide (p.site = i) && decide (p.job.delivery = some c.id)).onWin i fun w =>
        w.cancelled c.id)).site i with q := { (postCause i c cause
      ((d.markIf fun p => decide (p.site = i) && decide (p.job.delivery = some c.id)).onWin i fun w =>
        w.cancelled c.id)).site i |>.q with current := none } } := by
  rw [cancelCurrent_eq, deliveredCheck_site, onDelivery_site, site_onQueue_same]

/-! ## What the delivered check does to the page table (R18) -/

/-- Page tables that agree under a map which keeps identities hold, under each identity, versions that do. -/
theorem record_map {g : PageVersion → PageVersion} (hg : ∀ v, (g v).uid = v.uid) {d e : Device}
    (h : e.table.map g = d.table.map g) (u : Nat) : (e.record u).map g = (d.record u).map g := by
  have hfind : ∀ l : List PageVersion, (l.find? fun v => decide (v.uid = u)).map g =
      (l.map g).find? fun v => decide (v.uid = u) := fun l => by
    rw [List.find?_map]
    refine congrArg (Option.map g) (congrArg (List.find? · l) (funext fun v => ?_))
    simp only [Function.comp, hg]
  rw [Device.record, Device.record, hfind, hfind, h]

/-- A version with its state and its place in the retained list forgotten. -/
def PageVersion.unsettled (v : PageVersion) : PageVersion := { v with state := .filling, retained := none }

theorem onRecord_unsettled (d : Device) (u : Nat) {f : PageVersion → PageVersion}
    (hf : ∀ v, (f v).unsettled = v.unsettled) :
    (d.onRecord u f).table.map PageVersion.unsettled = d.table.map PageVersion.unsettled := by
  rw [onRecord_table, List.map_map]
  refine List.map_congr_left fun v _ => ?_
  simp only [Function.comp]
  split
  · exact hf v
  · rfl

theorem retain_unsettled (u : Nat) (d : Device) :
    (retain u d).table.map PageVersion.unsettled = d.table.map PageVersion.unsettled := by
  unfold retain
  split
  · rfl
  · exact onRecord_unsettled d u fun _ => rfl

theorem deliveredCheck_unsettled (u : Nat) (d : Device) :
    (deliveredCheck u d).table.map PageVersion.unsettled = d.table.map PageVersion.unsettled := by
  unfold deliveredCheck
  split
  · split
    · exact (retain_unsettled u _).trans (onRecord_unsettled d u fun _ => rfl)
    · rfl
  · rfl

/-- The delivered check leaves every delivery record. -/
theorem deliveredCheck_record {d : Device} {u w : Nat} {v : PageVersion} (h : d.record w = some v) :
    ∃ x, (deliveredCheck u d).record w = some x ∧ x.unsettled = v.unsettled := by
  have hmap := record_map (g := PageVersion.unsettled) (fun _ => rfl) (deliveredCheck_unsettled u d) w
  rw [h, Option.map_some] at hmap
  exact Option.map_eq_some_iff.1 hmap

theorem cancelCurrent_record {i : SiteId} {c : Delivery} {cause : CancelCause} {d : Device} {v : PageVersion}
    (h : d.record c.ref.uid = some v) : ∃ x, (cancelCurrent i c cause d).record c.ref.uid = some x ∧
      x.records = modifyAt v.records i fun r => { r with state := cause.state, cause := cause.condition } := by
  rw [cancelCurrent_eq]
  have hrec : ((postCause i c cause ((d.markIf fun p => decide (p.site = i) &&
      decide (p.job.delivery = some c.id)).onWin i fun w => w.cancelled c.id)).onQueue i fun q =>
        { q with current := none }).record c.ref.uid = some v := by
    rw [onQueue_record, postCause_record]
    exact h
  obtain ⟨x, hx, hs⟩ := deliveredCheck_record (u := c.ref.uid) (record_onRecord_same
    (f := fun v => { v with records := modifyAt v.records i fun r =>
      { r with state := cause.state, cause := cause.condition } }) (fun _ => rfl) hrec)
  have hrecords := congrArg PageVersion.records hs
  exact ⟨x, hx, hrecords⟩

theorem modifyAt_at {v x : PageVersion} {i : SiteId} {f : DeliveryRecord → DeliveryRecord}
    (h : x.records = modifyAt v.records i f) : x.at i = f (v.at i) ∧ ∀ j : SiteId, j ≠ i → x.at j = v.at j := by
  refine ⟨?_, fun j hj => ?_⟩
  · rw [PageVersion.at, h, entryOf_modifyAt_same]; rfl
  · rw [PageVersion.at, h, entryOf_modifyAt, if_neg hj]; rfl

/-! ## A version's cancellations (R16, R20, R126) -/

theorem any_uid_iff (l : List QueueEntry) (u : Nat) :
    (l.any fun e => decide (e.ref.uid = u)) = true ↔ ∃ e ∈ l, e.ref.uid = u := by
  simp

/-- The cancellation of a version that is not the current delivery's. -/
theorem cancelDelivery_queued {i : SiteId} {u : Nat} {d : Device}
    (h : ∀ c : Delivery, (d.site i).q.current = some c → c.ref.uid ≠ u) (cause : CancelCause) :
    cancelDelivery i u cause d =
      if (d.site i).q.queue.any (fun e => decide (e.ref.uid = u)) then cancelQueued i u d else d := by
  unfold cancelDelivery
  cases hc : (d.site i).q.current with
  | none => rfl
  | some c => exact if_neg (h c hc)

/-- One site's part of the cancellations of a version. -/
theorem cancelAll_step (u : Nat) (cause : CancelCause) (m : SiteId) (x : Device) :
    (match x.record u with
      | some v => if (v.at m).state.final then x else cancelDelivery m u cause x
      | none => x) =
    (x.record u).elim x fun v =>
      if (v.at m).state = .queued ∨ (v.at m).state = .sending then cancelDelivery m u cause x else x := by
  cases x.record u with
  | none => rfl
  | some v =>
    dsimp only [Option.elim]
    cases (v.at m).state <;> simp [DeliveryState.final]

theorem cancelAll_eq (u : Nat) (cause : CancelCause) (d : Device) :
    cancelAll u cause d = allSites.foldl (fun x m => (x.record u).elim x fun v =>
      if (v.at m).state = .queued ∨ (v.at m).state = .sending then cancelDelivery m u cause x else x) d := by
  unfold cancelAll forSites
  congr 1
  funext x m
  exact cancelAll_step u cause m x

theorem filter_prepared (o : Option Block) (id : Nat) : (o.filter fun b => decide (b.delivery ≠ some id)) =
    if o.any (fun b => decide (b.delivery = some id)) = true then none else o := by
  cases o with
  | none => rfl
  | some b => by_cases h : b.delivery = some id <;> simp [Option.filter, h]

/-- Settles O20. -/
theorem cancellationMakesRanksVoid : Obligations.CancellationMakesRanksVoid := by
  unfold Obligations.CancellationMakesRanksVoid
  refine ⟨fun i c cause d x y reason hx hcause hy => ?_, fun i u cause d =>
    ⟨fun c hc hu => ?_, fun hne => ⟨fun he => ?_,
    fun he => ?_⟩, cancelAll_eq u cause d⟩, fun i c cause d v hv _ => ?_⟩
  · have hx' : (d.markIf fun p => decide (p.site = i) && decide (p.job.delivery = some c.id)).onWin i
        (fun w => w.cancelled c.id) = x := by
      rw [markIf_eq, hx]; rfl
    have hy' : postCause i c cause x = y := by
      rw [hy]
      rcases hcause with ⟨rfl, rfl⟩ | ⟨rfl, rfl⟩ | ⟨rfl, rfl⟩ | ⟨rfl, rfl⟩ | rfl <;> rfl
    have hq : ((cancelCurrent i c cause d).site i).q.control = (y.site i).q.control := by
      rw [cancelCurrent_site, hx', hy']
    have hsite : x.site i = { d.site i with win := (d.site i).win.cancelled c.id } := by
      rw [← hx', site_onWin_same, markIf_site]
    refine ⟨?_, fun hn hl hc hroom => ?_, fun h => ?_⟩
    · rw [cancelCurrent_eq, hx', hy']
      cases cause <;> rfl
    · have ha : (x.site i).absent = false := by
        rw [hsite]; exact (absent_eq_false _).2 ⟨hl, hc⟩
      rw [hq, hy, if_neg hn, postCancel_room ha (by rw [hsite]; exact hroom), site_onQueue_same, hsite]
    · rw [hq, hy]
      by_cases hn : cause = .disable
      · rw [if_pos hn, hsite]
      · have hfull : 16 ≤ (x.site i).q.control.length := by rw [hsite]; exact h.resolve_left hn
        rw [if_neg hn]
        cases ha : (x.site i).absent with
        | true => rw [postCancel_absent ha, hsite]
        | false => rw [postCancel_full ha hfull, raise_q, hsite]
  · simp only [cancelDelivery, hc, hu, if_true]
  · rw [cancelDelivery_queued hne, if_pos ((any_uid_iff _ u).2 he)]
    rfl
  · rw [cancelDelivery_queued hne, if_neg]
    rw [any_uid_iff]
    rintro ⟨e, hm, hu⟩
    exact he e hm hu
  · obtain ⟨hr, hp, hn, hq⟩ := postCause_ranks i c cause
      ((d.markIf fun p => decide (p.site = i) && decide (p.job.delivery = some c.id)).onWin i fun w =>
        w.cancelled c.id)
    rw [site_onWin_same, markIf_site] at hr hp hn hq
    obtain ⟨x, hx, hrecords⟩ := cancelCurrent_record (i := i) (cause := cause) hv
    obtain ⟨hat, hother⟩ := modifyAt_at hrecords
    refine ⟨cancelCurrent_current i c cause d, ?_, ?_, ?_, ?_, ?_, fun j hj => site_cancelCurrent_ne hj c cause d, x,
      hx,
      ?_, ?_, hother⟩
    · rw [cancelCurrent_site]; exact hq
    · rw [cancelCurrent_site]; exact hn
    · rw [cancelCurrent_site]; exact hr
    · rw [cancelCurrent_site]; exact hp.trans (filter_prepared _ c.id)
    · rw [cancelCurrent_builder, markIf_eq]
    · rw [hat]; cases cause <;> rfl
    · rw [hat]; cases cause <;> rfl

/-! ## The end of a transmission (R156, R170, R174) -/

/-- The gap timer of a site after the end of a transmission of a block of kind `k`. -/
def Site.gapAfter (st : Site) (k : BlockKind) : Option Nat :=
  if k = .pageEnd ∧ (st.cfg.flow = .gap ∨ st.cfg.flow = .gapObey) ∧ st.cfg.gapLength ≠ 0
  then some st.cfg.gapLength else st.pace.gap

theorem hasGap_iff (f : FlowMode) : f.hasGap = true ↔ f = .gap ∨ f = .gapObey := by
  cases f <;> simp [FlowMode.hasGap]

theorem endTransmission_eq (p : PortId) (t : Transmission) (d : Device) : endTransmission p t d =
    if (d.site t.site).win.closing then becomeDisabled t.site
      ((d.onPort p fun x => { x with tx := none }).onSite t.site fun st =>
        { st with pace := { st.pace with gap := st.gapAfter t.kind } })
    else (d.onPort p fun x => { x with tx := none }).onSite t.site fun st =>
      { st with pace := { st.pace with gap := st.gapAfter t.kind } } := by
  have hgap : (if t.kind = .pageEnd ∧ (d.site t.site).cfg.flow.hasGap = true then
      (d.onPort p fun x => { x with tx := none }).onSite t.site fun st =>
        { st with pace := st.pace.startGap st.cfg.gapLength }
      else d.onPort p fun x => { x with tx := none }) =
      (d.onPort p fun x => { x with tx := none }).onSite t.site fun st =>
        { st with pace := { st.pace with gap := st.gapAfter t.kind } } := by
    split
    case isTrue h =>
      refine onSite_congr ?_
      obtain ⟨hk, hf⟩ := h
      rw [hasGap_iff] at hf
      simp only [Site.gapAfter, Pacer.startGap, onPort_site, hk, hf, true_and, ne_eq]
      by_cases hz : (d.site t.site).cfg.gapLength = 0
      · simp only [hz, if_true, not_true_eq_false, if_false]
      · simp only [hz, if_false, not_false_eq_true, if_true]
    case isFalse h =>
      refine (onSite_self ?_).symm
      have hn : ¬(t.kind = .pageEnd ∧ ((d.site t.site).cfg.flow = .gap ∨ (d.site t.site).cfg.flow = .gapObey) ∧
          (d.site t.site).cfg.gapLength ≠ 0) := by
        rintro ⟨hk, hf, -⟩
        exact h ⟨hk, (hasGap_iff _).2 hf⟩
      simp only [Site.gapAfter, onPort_site, hn, if_false]
  unfold endTransmission
  dsimp only
  rw [onPort_site, hgap, site_onSite_same, onPort_site]

theorem execTransmissionEnd_some {p : PortId} {s : State} {t : Transmission} (h : (s.dev.port p).tx = some t) :
    exec (.transmissionEnd p) s = .next { s with dev := arbitrate (endTransmission p t s.dev) } := by
  refine congrArg (fun d => Host.Outcome.next { s with dev := d }) ?_
  simp only [h]

theorem execTransmissionEnd_none {p : PortId} {s : State} (h : (s.dev.port p).tx = none) :
    exec (.transmissionEnd p) s = .next s := by
  refine congrArg (fun d => Host.Outcome.next { s with dev := d }) ?_
  simp only [h]

/-- Settles O22. -/
theorem transmissionEndFreesThePort : Obligations.TransmissionEndFreesThePort := by
  unfold Obligations.TransmissionEndFreesThePort
  intro p s t
  refine ⟨execTransmissionEnd_none, fun h hc => ?_, fun h hc => ?_⟩
  · rw [execTransmissionEnd_some h, endTransmission_eq, if_neg (by simp [hc])]
    rfl
  · rw [execTransmissionEnd_some h, endTransmission_eq, if_pos hc]
    refine congrArg (fun d => Host.Outcome.next { s with dev := arbitrate d }) ?_
    exact onSite_onSite ((s.dev.onPort p fun x => { x with tx := none }).markSite t.site) t.site
      (fun st => { st with pace := { st.pace with gap := st.gapAfter t.kind } })
      (fun st => { st with win := Window.reset, pace := { st.pace with credit := 0 }, halt := none })

end Sys2Proof.Machine
end

section
/-!
SUPPORT. The block builder: requests, slots, the round, and what a grant fixes (R30, R91 to R93, R122, R124).
-/

namespace Sys2Proof.Machine
open Sys2Proof.Laws

/-! ## The round (R92, R168) -/

theorem find?_of_pairwise {α : Type} {R : α → α → Prop} {l : List α} (hl : l.Pairwise R) {test : α → Bool} {a : α}
    (ha : a ∈ l) (ht : test a = true) (hb : ∀ b : α, R b a → test b = false) : l.find? test = some a := by
  induction l with
  | nil => cases ha
  | cons b l ih =>
    obtain ⟨hbl, hl⟩ := List.pairwise_cons.1 hl
    rcases List.mem_cons.1 ha with rfl | hm
    · exact List.find?_cons_of_pos ht
    · rw [List.find?_cons_of_neg (by simp [hb b (hbl a hm)])]
      exact ih hl hm

/-- The round visits the sites in the order of their distance from the site after the last. -/
theorem roundAfter_pairwise : ∀ last : SiteId, (roundAfter last).Pairwise fun i j =>
    (i.val + 7 - last.val) % 8 < (j.val + 7 - last.val) % 8 := by decide

theorem mem_roundAfter : ∀ last i : SiteId, i ∈ roundAfter last := by decide

theorem roundAfter_find {last i : SiteId} {test : SiteId → Bool} (h : test i = true)
    (hb : ∀ j : SiteId, test j = true → (i.val + 7 - last.val) % 8 ≤ (j.val + 7 - last.val) % 8) :
    (roundAfter last).find? test = some i := by
  refine find?_of_pairwise (roundAfter_pairwise last) (mem_roundAfter last i) h fun j hj => ?_
  rw [← Bool.not_eq_true]
  exact fun ht => absurd (hb j ht) (Nat.not_le.2 hj)

theorem roundAfter_none {last : SiteId} {test : SiteId → Bool} (h : ∀ j : SiteId, test j = false) :
    (roundAfter last).find? test = none :=
  List.find?_eq_none.2 fun j _ => by simp [h j]

/-! ## Requests and slots (R30, R91) -/

theorem preparing_iff (d : Device) (i : SiteId) :
    d.preparing i = false ↔ ∀ p : Preparation, d.builder.inFlight = some p → p.site ≠ i := by
  unfold Device.preparing
  cases d.builder.inFlight <;> simp

theorem requests_iff (d : Device) (i : SiteId) : d.requests i = true ↔
    d.nextJob i ≠ none ∧ (d.site i).win.ranks.length < 16 ∧ (d.site i).win.prepared = none ∧
      (∀ p : Preparation, d.builder.inFlight = some p → p.site ≠ i) ∧
      ((d.site i).win.link = .active ∨ (d.site i).win.link = .linkLost) ∧ (d.site i).win.closing = false := by
  have hcap : Config.windowCapacity = 16 := rfl
  simp only [Device.requests, Bool.and_eq_true, Bool.or_eq_true, decide_eq_true_eq, Bool.not_eq_true', preparing_iff,
    Option.isSome_iff_ne_none, Option.isNone_iff_eq_none, hcap, and_assoc, Window.count]
  constructor
  · rintro ⟨hj, hc, hp, h⟩
    rw [hp] at hc
    exact ⟨hj, by simpa using hc, hp, h⟩
  · rintro ⟨hj, hc, hp, h⟩
    rw [hp]
    exact ⟨hj, by simpa using hc, rfl, h⟩

theorem slotUsed_iff (d : Device) (i : SiteId) (k : Fin 16) : d.slotUsed i k = true ↔
    (∃ r ∈ (d.site i).win.ranks, r.block.slot = some k) ∨
      (∃ b : Block, (d.site i).win.prepared = some b ∧ b.slot = some k) ∨
      ∃ p : Preparation, d.builder.inFlight = some p ∧ p.site = i ∧ p.slot = k := by
  unfold Device.slotUsed
  rw [Bool.or_eq_true, Bool.or_eq_true, List.any_eq_true, or_assoc]
  refine or_congr (by simp) (or_congr ?_ ?_)
  · cases (d.site i).win.prepared <;> simp
  · cases d.builder.inFlight <;> simp

theorem allSlots_ascending : allSlots.Pairwise fun k l => k < l := by decide

theorem mem_allSlots : ∀ k : Fin 16, k ∈ allSlots := by decide

theorem freeSlot_of {d : Device} {i : SiteId} {k : Fin 16} (h : d.slotUsed i k = false)
    (hb : ∀ l : Fin 16, l < k → d.slotUsed i l = true) : d.freeSlot i = some k :=
  find?_of_ascending allSlots_ascending (mem_allSlots k) (by simp [h]) fun l hl => by simp [hb l hl]

theorem freeSlot_some {d : Device} {i : SiteId} {k : Fin 16} (h : d.slotUsed i k = false) :
    ∃ l, d.freeSlot i = some l := by
  rw [← Option.isSome_iff_exists, Device.freeSlot, List.find?_isSome]
  exact ⟨k, mem_allSlots k, by simp [h]⟩

theorem jobFaulty_other {job : Job} (h : ∀ j : PlateJob, job ≠ .plate j) (d : Device) : d.jobFaulty job = false := by
  cases job with
  | plate j => exact absurd rfl (h j)
  | pageEnd id ref ident payload => rfl
  | control e => rfl

theorem jobFaulty_plate {d : Device} {j : PlateJob} {v : PageVersion} {e : BandEntry}
    (hv : d.record j.ref.uid = some v) (he : v.entry j.sep j.band = some e) : d.jobFaulty (.plate j) = e.fault := by
  simp only [Device.jobFaulty, hv, Option.bind_some, he]

/-! ## Grants (R92, R93) -/

theorem grantRounds_busy {d : Device} {p : Preparation} (h : d.builder.inFlight = some p) (n : Nat) :
    grantRounds n d = d := by
  cases n with
  | zero => rfl
  | succ n => simp only [grantRounds, h]

theorem grantRounds_quiet {d : Device} (h : ∀ j : SiteId, d.requests j = false) (n : Nat) : grantRounds n d = d := by
  cases n with
  | zero => rfl
  | succ n =>
    unfold grantRounds
    split
    · rfl
    · rw [roundAfter_none h]

theorem grantRounds_next {d : Device} {i : SiteId} {k : Fin 16} {job : Job} (hidle : d.builder.inFlight = none)
    (hr : d.requests i = true) (hb : ∀ j : SiteId, d.requests j = true →
      (i.val + 7 - d.builder.last.val) % 8 ≤ (j.val + 7 - d.builder.last.val) % 8)
    (hk : d.freeSlot i = some k) (hj : d.nextJob i = some job) (n : Nat) :
    grantRounds (n + 1) d = grantRounds n (grant i k job d) := by
  simp only [grantRounds, hidle, roundAfter_find hr hb, hk, hj]

/-- The builder with a preparation begun. -/
def Device.granted (d : Device) (i : SiteId) (k : Fin 16) (job : Job) : Device :=
  { d with
    builder := { inFlight := some { site := i, slot := k, job := job, discard := false }, last := i }
    free := d.free + 1 }

theorem grant_begins {d : Device} {job : Job} (h : d.jobFaulty job = false) (i : SiteId) (k : Fin 16) :
    grant i k job d = d.granted i k job := by
  cases job with
  | plate j =>
    have hf : ({ d with builder := { d.builder with last := i }, free := d.free + 1 } : Device).jobFaulty (.plate j) =
        false := h
    simp only [grant, hf, Bool.false_eq_true, if_false]
    rfl
  | pageEnd id ref ident payload => rfl
  | control e => rfl

theorem grant_faulty {d : Device} {j : PlateJob} (h : d.jobFaulty (.plate j) = true) (i : SiteId) (k : Fin 16) :
    grant i k (.plate j) d =
      storeErrorAt i j { d with builder := { d.builder with last := i }, free := d.free + 1 } := by
  have hf : ({ d with builder := { d.builder with last := i }, free := d.free + 1 } : Device).jobFaulty (.plate j) =
      true := h
  simp only [grant, hf, if_true]

/-- A grant of a job that can be read, in any round. -/
theorem grantRounds_begins {d : Device} {i : SiteId} {k : Fin 16} {job : Job} (hidle : d.builder.inFlight = none)
    (hr : d.requests i = true) (hb : ∀ j : SiteId, d.requests j = true →
      (i.val + 7 - d.builder.last.val) % 8 ≤ (j.val + 7 - d.builder.last.val) % 8)
    (hk : d.slotUsed i k = false) (hl : ∀ l : Fin 16, l < k → d.slotUsed i l = true) (hj : d.nextJob i = some job)
    (hf : d.jobFaulty job = false) (n : Nat) : grantRounds (n + 1) d = d.granted i k job := by
  rw [grantRounds_next hidle hr hb (freeSlot_of hk hl) hj, grant_begins hf, grantRounds_busy rfl]

/-- A PLATE job offered to a site is one of its current delivery. -/
theorem nextJob_delivery {d : Device} {i : SiteId} {j : PlateJob} {c : Delivery} (h : d.nextJob i = some (.plate j))
    (hc : (d.site i).q.current = some c) : c.id = j.delivery := by
  unfold Device.nextJob at h
  dsimp only at h
  split at h
  · cases h
  · rw [hc] at h
    dsimp only at h
    split at h
    · cases h
    · split at h
      · obtain ⟨e, -, he⟩ := Option.map_eq_some_iff.1 h
        rw [← Job.plate.inj he]
        rfl
      · split at h <;> cases h

/-! ## The next new block (R122, R124) -/

section
variable {d : Device} {i : SiteId}

theorem nextJob_control {e : ControlEntry} {es : List ControlEntry} (h : (d.site i).q.control = e :: es) :
    d.nextJob i = some (.control e) := by
  simp only [Device.nextJob, h]

theorem nextJob_idle (h : (d.site i).q.control = []) (hc : (d.site i).q.current = none) : d.nextJob i = none := by
  simp only [Device.nextJob, h, hc]

variable {c : Delivery} {v : PageVersion}

theorem nextJob_plate (h : (d.site i).q.control = []) (hc : (d.site i).q.current = some c)
    (hv : d.record c.ref.uid = some v) {sep : Sep} {band : Nat} {e : BandEntry} (hcur : c.cursor = some (sep, band))
    (he : v.entry sep band = some e) : d.nextJob i = some (.plate (plateJob (d.site i) c v sep band e)) := by
  simp only [Device.nextJob, h, hc, hv, hcur, he, Option.map_some]

theorem nextJob_end (h : (d.site i).q.control = []) (hc : (d.site i).q.current = some c)
    (hv : d.record c.ref.uid = some v) (hcur : c.cursor = none) : d.nextJob i =
      if c.pageEnd then none else some (.pageEnd c.id c.ref (deliveryIdent c v) (pageEndPayload c v d.free)) := by
  simp only [Device.nextJob, h, hc, hv, hcur]

end

theorem pageEndPayload_head (c : Delivery) (v : PageVersion) (n : Nat) : (pageEndPayload c v n).take 9 =
    [c.seps.setWidth 8, c.cls.code, byteN v.bandCount] ++
      halfN (v.bandCount * (allFour.filter fun k => c.seps.getLsbD k.val).length) ++ wordBytes c.sent := rfl

theorem pageEndPayload_approval {v : PageVersion} {a : Approval} (h : v.approval = some a) (c : Delivery) (n : Nat) :
    (pageEndPayload c v n)[9]? = some (byteN a.station) ∧
      (∀ time : Nat, a.approvedAt = some time → (pageEndPayload c v n).drop 10 = 1 :: wordN time) ∧
      (a.approvedAt = none → (pageEndPayload c v n)[10]? = some 0) := by
  unfold pageEndPayload
  rw [h]
  refine ⟨rfl, fun time ht => ?_, fun ht => ?_⟩
  · simp only [Option.bind_some, ht]; rfl
  · simp only [Option.bind_some, ht]; rfl

/-- Settles O17. -/
theorem builderGrantsRoundRobin : Obligations.BuilderGrantsRoundRobin := by
  unfold Obligations.BuilderGrantsRoundRobin
  intro d i k job
  refine ⟨requests_iff d i, slotUsed_iff d i k, fun h => jobFaulty_other h d, fun j v e => jobFaulty_plate, fun h => ?_,
    fun hidle hr hb hk hl hj hf => grantRounds_begins hidle hr hb hk hl hj hf 8,
    fun j det x y hidle hr hb hk hj hf hdet hx hy => ?_, fun e es => nextJob_control, nextJob_idle,
    fun c v hctl hc hv => ⟨fun sep band e hcur he => nextJob_plate hctl hc hv hcur he, fun hcur hend => ?_,
      fun hcur hend => ?_⟩⟩
  · rcases h with h | h
    · obtain ⟨p, hp⟩ := Option.ne_none_iff_exists'.1 h
      exact askBuilder_busy hp
    · exact grantRounds_quiet h 9
  · obtain ⟨l, hl⟩ := freeSlot_some hk
    obtain ⟨-, -, -, -, hlink, hclosing⟩ := (requests_iff d i).1 hr
    have ha : (d.site i).absent = false := by
      refine (absent_eq_false _).2 ⟨?_, hclosing⟩
      rcases hlink with h | h <;> rw [h] <;> simp
    have herr : storeErrorAt i j { d with builder := { d.builder with last := i }, free := d.free + 1 } = y := by
      rcases hy with ⟨hs, hyx⟩ | ⟨hs, c, hc, hyc⟩
      · rw [storeErrorAt_selected (by exact ha) (by exact hs), ← hdet, hyx, hx]
      · have hraise := (raise_of_action (i := i) (det := det)
          (d := { d with builder := { d.builder with last := i }, free := d.free + 1 }) ha (by rw [hdet]; exact hs)).2
        rw [storeErrorAt_action (by exact ha) (by exact hs) (c := c) (by exact hc) (nextJob_delivery hj hc), hyc, hx,
          hraise, hdet]
        rfl
    have hask : askBuilder d = grantRounds 8 y := by
      rw [askBuilder, grantRounds_next hidle hr hb hl hj, grant_faulty hf, herr]
    have hbuilder : y.builder.inFlight = none ∧ y.builder.last = i := by
      have hxb : x.builder = { d.builder with last := i } := by rw [hx, raise_builder]
      rcases hy with ⟨-, hyx⟩ | ⟨-, c, -, hyc⟩
      · rw [hyx, hxb]; exact ⟨hidle, rfl⟩
      · rw [hyc, cancelCurrent_builder, Device.markIf, hxb, hidle]; exact ⟨rfl, rfl⟩
    refine ⟨fun hquiet => hask.trans (grantRounds_quiet hquiet 8), fun m s next hm hround hs hlow hnext hok => ?_⟩
    exact hask.trans (grantRounds_begins hbuilder.1 hm (by rw [hbuilder.2]; exact hround) hs hlow hnext hok 7)
  · refine ⟨pageEndPayload c v d.free, ?_, pageEndPayload_length c v d.free, pageEndPayload_head c v d.free,
      fun a happ => pageEndPayload_approval happ c d.free⟩
    rw [nextJob_end hctl hc hv hcur, if_neg (by simp [hend])]
  · rw [nextJob_end hctl hc hv hcur, if_pos hend]

end Sys2Proof.Machine
end

section
/-!
SUPPORT. The site ports: eligibility, the offer a port takes, and the transmission it begins (R139, R140, R166 to
R169, R176).
-/

namespace Sys2Proof.Machine
open Sys2Proof.Laws

/-! ## Eligibility (R167) -/

theorem transmitting_eq_false (d : Device) (i : SiteId) : d.transmitting i = false ↔
    ∀ (q : PortId) (x : Transmission), (d.port q).tx = some x → x.site ≠ i := by
  have hmem : ∀ q : PortId, q ∈ allFour := by decide
  unfold Device.transmitting
  rw [List.any_eq_false]
  constructor
  · intro h q x hx he
    have hq := h q (hmem q)
    rw [hx] at hq
    exact hq (decide_eq_true he)
  · intro h q _
    cases hx : (d.port q).tx with
    | none => simp
    | some x => simpa using h q x hx

theorem paused_eq_false (st : Site) : st.paused = false ↔
    ¬((st.cfg.flow = .obey ∨ st.cfg.flow = .gapObey) ∧ st.pace.ready = false) := by
  unfold Site.paused
  cases st.cfg.flow <;> cases st.pace.ready <;> simp

theorem findIdx?_isSome (l : List Rank) :
    (l.findIdx? fun r => r.pending) ≠ none ↔ ∃ r ∈ l, r.pending = true := by
  rw [← Option.isSome_iff_ne_none, List.findIdx?_isSome, List.any_eq_true]

theorem offer_isSome (w : Window) : w.offer.isSome = true ↔
    w.link = .active ∧ ((∃ r ∈ w.ranks, r.pending = true) ∨ w.prepared ≠ none) ∨
      w.link = .linkLost ∧ ∃ r : Rank, w.ranks.head? = some r ∧ r.pending = true := by
  unfold Window.offer
  cases hl : w.link with
  | active =>
    cases hf : w.ranks.findIdx? (·.pending) with
    | some k => simpa using .inl ((findIdx?_isSome w.ranks).1 (by rw [hf]; simp))
    | none =>
      have hno : ¬∃ r ∈ w.ranks, r.pending = true := fun h => (findIdx?_isSome w.ranks).2 h hf
      cases hp : w.prepared with
      | none => simpa using hno
      | some b => simp
  | linkLost =>
    cases hr : w.ranks with
    | nil => simp
    | cons r rs => cases hp : r.pending <;> simp [hp]
  | disabled => simp
  | waiting => simp
  | halted => simp

theorem eligible_iff (d : Device) (i : SiteId) : d.eligible i = true ↔
    ((d.site i).win.link = .active ∧ ((∃ r ∈ (d.site i).win.ranks, r.pending = true) ∨
        (d.site i).win.prepared ≠ none) ∨
      (d.site i).win.link = .linkLost ∧ ∃ r : Rank, (d.site i).win.ranks.head? = some r ∧ r.pending = true) ∧
    (d.site i).win.closing = false ∧
    ¬(((d.site i).cfg.flow = .obey ∨ (d.site i).cfg.flow = .gapObey) ∧ (d.site i).pace.ready = false) ∧
    d.base.quiesced = false ∧ 0 < (d.site i).pace.credit ∧
    ∀ (q : PortId) (x : Transmission), (d.port q).tx = some x → x.site ≠ i := by
  simp only [Device.eligible, Bool.and_eq_true, Bool.not_eq_true', decide_eq_true_eq, offer_isSome, paused_eq_false,
    transmitting_eq_false, and_assoc]

/-! ## The transmission of an offer (R169) -/

/-- The ack timer starts at the beginning of a transmission of an offer (R145, R146). -/
def Offer.starts (w : Window) : Offer → Bool
  | .fresh _ => w.ranks.isEmpty
  | .resend k => decide (w.link = .active ∧ (k = 0 ∨ w.ackTimer ≠ .held))

theorem ackAtStart_eq (i : SiteId) (w : Window) (o : Offer) (d : Device) :
    ackAtStart i w o d = if o.starts w then startAck i d else d := by
  cases o with
  | fresh b => rfl
  | resend k => simp only [ackAtStart, Offer.starts, decide_eq_true_eq]

theorem beginTransmission_eq {p : PortId} {i : SiteId} {o : Offer} {r : Rank} {d : Device}
    (hr : (d.site i).win.offered o = some r) : beginTransmission p i o d =
      sendRank p i r (ackAtStart i (d.site i).win o (gaugeEnd i (d.onSite i (Site.charged o r)))) := by
  have hsite : ((d.onWin i fun w => w.taken o).onPace i fun pc =>
      { pc with credit := pc.credit - (r.block.size : Int) }).onPace i (fun pc => pc.counted o) =
      d.onSite i (Site.charged o r) := by
    unfold Device.onPace Device.onWin
    rw [onSite_onSite, onSite_onSite]
    rfl
  unfold beginTransmission
  simp only [hr, hsite]

/-- The site once a transmission of the offer has begun, its ack timer at `ack`. -/
def Site.begun (o : Offer) (r : Rank) (ack : AckTimer) (st : Site) : Site :=
  { (st.charged o r).gaugeEnded with win := { st.win.taken o with ackTimer := ack } }

/-- The ack timer of a site at the beginning of a transmission that its port may make. -/
theorem restartAck_charged {st : Site} {o : Offer} {q : Bool} (r : Rank) (hl : st.win.link = .active)
    (hc : st.win.closing = false) (hp : st.paused = false) (hq : q = false) (hr : (st.win.taken o).ranks ≠ []) :
    restartAck q (st.charged o r).gaugeEnded = .running st.cfg.ackTimeout := by
  obtain ⟨hcfg, -, -, -, hwin, -⟩ := gaugeEnded_keeps (st.charged o r)
  obtain ⟨-, -, -, -, hready, -⟩ := gaugeEnded_pace (st.charged o r)
  have hclosing : (st.win.taken o).closing = false := by cases o <;> exact hc
  have hlink : (st.win.taken o).link = .active := by cases o <;> exact hl
  have hcready : (st.charged o r).pace.ready = st.pace.ready := by
    cases o with
    | resend k => rfl
    | fresh b => simp only [Site.charged, Pacer.counted]; split <;> rfl
  have hpaused : (st.charged o r).gaugeEnded.paused = false := by
    simp only [Site.paused, hcfg, hready, hcready]
    exact hp
  have hempty : (st.win.taken o).ranks.isEmpty = false := by simpa using hr
  have hwin' : (st.charged o r).gaugeEnded.win = st.win.taken o := hwin
  have hcfg' : (st.charged o r).gaugeEnded.cfg = st.cfg := hcfg
  have hrun : ackMayRun q (st.charged o r).gaugeEnded = true := by
    simp only [ackMayRun, hpaused, hwin', hlink, hclosing, hempty, hq, decide_true, Bool.not_false, Bool.and_self]
  simp only [restartAck, hrun, if_true, hcfg']

theorem startAck_eventIf (i : SiteId) (d : Device) (b : Bool) (e : Event) :
    startAck i (d.eventIf b e) = (startAck i d).eventIf b e := rfl

/-- The device as a port leaves it to the sending of the rank: the site begun, and the level's event, if it changes. -/
theorem begun_device {d : Device} {i : SiteId} {o : Offer} {r : Rank} (ho : (d.site i).win.offer = some o)
    (he : d.eligible i = true) (hr : ((d.site i).win.taken o).ranks ≠ []) {ack : AckTimer}
    (hack : ack = if o.starts (d.site i).win = true then .running (d.site i).cfg.ackTimeout
      else (d.site i).win.ackTimer) :
    ackAtStart i (d.site i).win o (gaugeEnd i (d.onSite i (Site.charged o r))) =
      (d.onSite i (Site.begun o r ack)).eventIf ((d.site i).charged o r).degraded
        (.degradeChanged i (d.site i).pace.level
          (levelAfter (d.site i).pace.level ((d.site i).charged o r).pace.resendCount (d.site i).cfg.highMark
            (d.site i).cfg.lowMark) ((d.site i).charged o r).pace.resendCount) := by
  obtain ⟨-, hclosing, hready, hq, -, -⟩ := (eligible_iff d i).1 he
  obtain ⟨-, -, -, -, hlevel, -, -⟩ :=
    counted_keeps { (d.site i).pace with credit := (d.site i).pace.credit - (r.block.size : Int) } o
  have hlevel' : ((d.site i).charged o r).pace.level = (d.site i).pace.level := hlevel
  have hcfg' : ((d.site i).charged o r).cfg = (d.site i).cfg := rfl
  obtain ⟨-, -, -, -, hwin, -⟩ := gaugeEnded_keeps ((d.site i).charged o r)
  rw [ackAtStart_eq, gaugeEnd_eq, site_onSite_same, onSite_onSite, hlevel', hcfg']
  split
  case isTrue hs =>
    have hl : (d.site i).win.link = .active := by
      cases o with
      | resend k => exact (of_decide_eq_true hs).1
      | fresh b =>
        cases hl : (d.site i).win.link with
        | active => rfl
        | linkLost =>
          have hnil : (d.site i).win.ranks = [] := List.isEmpty_iff.1 hs
          simp [Window.offer, hl, hnil] at ho
        | disabled => simp [Window.offer, hl] at ho
        | waiting => simp [Window.offer, hl] at ho
        | halted => simp [Window.offer, hl] at ho
    have hrestart := restartAck_charged r hl hclosing ((paused_eq_false _).2 hready) hq hr
    rw [hs, if_pos rfl] at hack
    rw [startAck_eventIf]
    congr 1
    refine (onSite_onSite d i _ _).trans (onSite_congr ?_)
    simp only [Site.begun, hack]
    rw [← hrestart, hwin]
    rfl
  case isFalse hs =>
    rw [if_neg hs] at hack
    congr 1
    refine onSite_congr ?_
    have htimer : ((d.site i).win.taken o).ackTimer = (d.site i).win.ackTimer := by cases o <;> rfl
    have hsame : { (d.site i).win.taken o with ackTimer := ack } = (d.site i).win.taken o := by rw [hack, ← htimer]
    rw [Site.begun, hsame]
    have hwin' : ((d.site i).charged o r).gaugeEnded.win = (d.site i).win.taken o := hwin
    rw [← hwin']

/-! ## The sending of the rank (R50, R139) -/

/-- What a port sends of a rank with a slot, where the reading of a free value numbered `n` is its own. -/
def Device.slotBytes (d : Device) (i : SiteId) (k : Fin 16) (size : Nat) : List Byte :=
  if Config.slotFails d.free = true then (List.range size).map (Config.slotByte d.free)
  else readBytes d.store ((32640 + 16 * i.val + k.val) * 32768) size

theorem sendRank_void {r : Rank} (h : r.block.slot = none) (p : PortId) (i : SiteId) (d : Device) :
    sendRank p i r d = d.onPort p fun x => { x with
      last := i
      tx := some { site := i, kind := r.block.kind,
                   header := headerOf r.block.kind r.seq (d.site i).cfg.code r.block.ident 0, payload := [] } } := by
  simp only [sendRank, h]

theorem sendRank_slot {r : Rank} {k : Fin 16} (h : r.block.slot = some k) (p : PortId) (i : SiteId) (d : Device) :
    sendRank p i r d = (({ d with free := d.free + 1 } : Device).eventIf (Config.slotFails d.free)
        (.slotError i k r.seq)).onPort p fun x => { x with
      last := i
      tx := some { site := i, kind := r.block.kind,
                   header := headerOf r.block.kind r.seq (d.site i).cfg.code r.block.ident (r.block.size - 32),
                   payload := d.slotBytes i k (r.block.size - 32) } } := by
  simp only [sendRank, h]
  rfl

/-- The sending of a rank touches its port, the feed port and the free values read. -/
theorem sendRank_keeps (p : PortId) (i : SiteId) (r : Rank) (d : Device) :
    (∀ j : SiteId, (sendRank p i r d).site j = d.site j) ∧ (sendRank p i r d).table = d.table ∧
      (sendRank p i r d).store = d.store ∧ (sendRank p i r d).builder = d.builder := by
  cases h : r.block.slot with
  | none => rw [sendRank_void h]; exact ⟨fun _ => rfl, rfl, rfl, rfl⟩
  | some k => rw [sendRank_slot h]; exact ⟨fun _ => rfl, rfl, rfl, rfl⟩

theorem sendRank_port_ne {p q : PortId} (h : q ≠ p) (i : SiteId) (r : Rank) (d : Device) :
    (sendRank p i r d).port q = d.port q := by
  cases hs : r.block.slot with
  | none => rw [sendRank_void hs, port_onPort_ne _ h]
  | some k => rw [sendRank_slot hs, port_onPort_ne _ h]; rfl

/-! ## A port's grant (R168) -/

theorem nextGranted_of {p : PortId} {i : SiteId} {d : Device} (hp : (d.site i).cfg.port = p)
    (he : d.eligible i = true) (hb : ∀ j : SiteId, (d.site j).cfg.port = p → d.eligible j = true →
      (i.val + 7 - (d.port p).last.val) % 8 ≤ (j.val + 7 - (d.port p).last.val) % 8) : d.nextGranted p = some i := by
  refine roundAfter_find (by simp [hp, he]) fun j hj => ?_
  simp only [Bool.and_eq_true, decide_eq_true_eq] at hj
  exact hb j hj.1 hj.2

theorem nextGranted_none {p : PortId} {d : Device} (h : ∀ j : SiteId, (d.site j).cfg.port = p → d.eligible j = false) :
    d.nextGranted p = none := by
  refine roundAfter_none fun j => ?_
  by_cases hj : (d.site j).cfg.port = p
  · simp [h j hj]
  · simp [hj]

theorem askPort_none {p : PortId} {d : Device} (h : d.nextGranted p = none) : askPort p d = d := by
  unfold askPort
  split
  · rfl
  · rw [h]

theorem askPort_of {p : PortId} {i : SiteId} {o : Offer} {d : Device} (ht : (d.port p).tx = none)
    (hi : d.nextGranted p = some i) (ho : (d.site i).win.offer = some o) : askPort p d = beginTransmission p i o d := by
  simp only [askPort, ht, hi, ho]

/-! ## The two offers of a window (R140) -/

theorem offer_fresh {w : Window} {b : Block} (hl : w.link = .active) (hn : ∀ x ∈ w.ranks, x.pending = false)
    (hp : w.prepared = some b) : w.offer = some (.fresh b) := by
  have hf : w.ranks.findIdx? (·.pending) = none := by
    rw [List.findIdx?_eq_none_iff]
    exact hn
  simp only [Window.offer, hl, hf, hp, Option.map_some]

theorem findIdx?_append {pre post : List Rank} {old : Rank} (ho : old.pending = true)
    (hp : ∀ x ∈ pre, x.pending = false) : (pre ++ old :: post).findIdx? (·.pending) = some pre.length := by
  induction pre with
  | nil => simp [List.findIdx?_cons, ho]
  | cons a pre ih =>
    rw [List.cons_append, List.findIdx?_cons, hp a List.mem_cons_self, ih fun x hx => hp x (List.mem_cons_of_mem a hx)]
    rfl

theorem offer_resend {w : Window} {pre post : List Rank} {old : Rank} (hw : w.ranks = pre ++ old :: post)
    (ho : old.pending = true) (hp : ∀ x ∈ pre, x.pending = false)
    (hl : w.link = .active ∨ w.link = .linkLost ∧ pre = []) : w.offer = some (.resend pre.length) := by
  rcases hl with hl | ⟨hl, rfl⟩
  · simp only [Window.offer, hl, hw, findIdx?_append ho hp]
  · simp only [Window.offer, hl, hw, List.nil_append, ho, if_true, List.length_nil]

theorem modify_append {pre post : List Rank} {old : Rank} (f : Rank → Rank) :
    (pre ++ old :: post).modify pre.length f = pre ++ f old :: post := by
  induction pre with
  | nil => rfl
  | cons a pre ih => simpa using ih

theorem offered_resend {w : Window} {pre post : List Rank} {old : Rank} (hw : w.ranks = pre ++ old :: post) :
    w.offered (.resend pre.length) = some { old with pending := false } := by
  simp [Window.offered, hw]

/-! ## A transmission begun -/

theorem askPort_begins {p : PortId} {i : SiteId} {o : Offer} {r : Rank} {ack : AckTimer} {d : Device}
    (ht : (d.port p).tx = none) (hi : d.nextGranted p = some i) (ho : (d.site i).win.offer = some o)
    (hr : (d.site i).win.offered o = some r) (he : d.eligible i = true) (hne : ((d.site i).win.taken o).ranks ≠ [])
    (hack : ack = if o.starts (d.site i).win = true then .running (d.site i).cfg.ackTimeout
      else (d.site i).win.ackTimer) :
    askPort p d = sendRank p i r ((d.onSite i (Site.begun o r ack)).eventIf ((d.site i).charged o r).degraded
      (.degradeChanged i (d.site i).pace.level
        (levelAfter (d.site i).pace.level ((d.site i).charged o r).pace.resendCount (d.site i).cfg.highMark
          (d.site i).cfg.lowMark) ((d.site i).charged o r).pace.resendCount)) := by
  rw [askPort_of ht hi ho, beginTransmission_eq hr, begun_device ho he hne hack]

section
variable {st : Site} {o : Offer} {r : Rank} {ack : AckTimer}

theorem charged_level (st : Site) (o : Offer) (r : Rank) : (st.charged o r).pace.level = st.pace.level := by
  obtain ⟨-, -, -, -, h, -, -⟩ := counted_keeps { st.pace with credit := st.pace.credit - (r.block.size : Int) } o
  exact h

theorem begun_below (h : (st.charged o r).pace.refCount < 64) : (st.begun o r ack).pace = (st.charged o r).pace := by
  have hg : (st.charged o r).gaugeEnded = st.charged o r := if_neg (Nat.not_le.2 h)
  simp only [Site.begun, hg]

theorem begun_ended (h : 64 ≤ (st.charged o r).pace.refCount) : (st.begun o r ack).pace =
    { (st.charged o r).pace with
      level := levelAfter st.pace.level (st.charged o r).pace.resendCount st.cfg.highMark st.cfg.lowMark
      refCount := 0, resendCount := 0 } := by
  have hg : (st.charged o r).gaugeEnded = { st.charged o r with pace := { (st.charged o r).pace with
      level := levelAfter (st.charged o r).pace.level (st.charged o r).pace.resendCount st.cfg.highMark st.cfg.lowMark
      refCount := 0, resendCount := 0 } } := if_pos h
  simp only [Site.begun, hg, charged_level]

theorem begun_credit (st : Site) (o : Offer) (r : Rank) (ack : AckTimer) :
    (st.begun o r ack).pace.credit = st.pace.credit - (r.block.size : Int) := by
  obtain ⟨-, -, -, h, -, -⟩ := gaugeEnded_pace (st.charged o r)
  obtain ⟨-, -, -, hc, -, -, -⟩ := counted_keeps { st.pace with credit := st.pace.credit - (r.block.size : Int) } o
  exact h.trans hc

theorem begun_q (st : Site) (o : Offer) (r : Rank) (ack : AckTimer) : (st.begun o r ack).q = st.q := by
  obtain ⟨-, -, -, h, -, -⟩ := gaugeEnded_keeps (st.charged o r)
  exact h

theorem begun_cfg (st : Site) (o : Offer) (r : Rank) (ack : AckTimer) : (st.begun o r ack).cfg = st.cfg := by
  obtain ⟨h, -, -, -, -, -⟩ := gaugeEnded_keeps (st.charged o r)
  exact h

/-- The gauge's event is sent where the window ends at another level. -/
theorem degraded_iff (st : Site) (o : Offer) (r : Rank) (ack : AckTimer) : (st.charged o r).degraded = true ↔
    64 ≤ (st.charged o r).pace.refCount ∧ (st.begun o r ack).pace.level ≠ st.pace.level := by
  simp only [Site.degraded, Bool.and_eq_true, decide_eq_true_eq]
  refine and_congr_right fun h => ?_
  rw [begun_ended h, charged_level]
  exact Iff.rfl

end

/-- What the statement of R169 asks of a transmission's beginning, from the offer the port takes. -/
theorem askPort_clauses {p : PortId} {i : SiteId} {o : Offer} {r : Rank} {ack : AckTimer} {d e : Device}
    {refs resends : Nat} (ht : (d.port p).tx = none) (hi : d.nextGranted p = some i)
    (ho : (d.site i).win.offer = some o) (hr : (d.site i).win.offered o = some r) (hel : d.eligible i = true)
    (hne : ((d.site i).win.taken o).ranks ≠ [])
    (hack : ack = if o.starts (d.site i).win = true then .running (d.site i).cfg.ackTimeout
      else (d.site i).win.ackTimer)
    (hrefs : ((d.site i).charged o r).pace.refCount = refs)
    (hresends : ((d.site i).charged o r).pace.resendCount = resends)
    (he : e = if 64 ≤ refs ∧ ((askPort p d).site i).pace.level ≠ (d.site i).pace.level
      then d.event (.degradeChanged i (d.site i).pace.level ((askPort p d).site i).pace.level resends) else d) :
    ∃ y : Device, askPort p d = sendRank p i r y ∧ y.feed = e.feed ∧ y.free = d.free ∧ y.table = d.table ∧
      y.store = d.store ∧ y.builder = d.builder ∧ y.ports = d.ports ∧
      y.site i = (d.site i).begun o r ack ∧ ∀ j : SiteId, j ≠ i → y.site j = d.site j := by
  have hask := askPort_begins ht hi ho hr hel hne hack
  refine ⟨_, hask, ?_, rfl, rfl, rfl, rfl, rfl, site_onSite_same _ _ _, fun j hj => site_onSite_ne d hj _⟩
  have hsite : (askPort p d).site i = (d.site i).begun o r ack := by
    rw [hask, (sendRank_keeps _ _ _ _).1]
    exact site_onSite_same _ _ _
  have hiff := degraded_iff (d.site i) o r ack
  rw [hrefs] at hiff
  rw [he, hsite]
  by_cases hd : ((d.site i).charged o r).degraded = true
  · obtain ⟨h64, hlev⟩ := hiff.1 hd
    have hlevel := congrArg Pacer.level (begun_ended (st := d.site i) (o := o) (r := r) (ack := ack)
      (by rw [hrefs]; exact h64))
    rw [if_pos ⟨h64, hlev⟩, hlevel, hd, hresends]
    rfl
  · rw [if_neg (mt hiff.2 hd), eq_false_of_ne_true hd]
    rfl

/-- Settles O21. -/
theorem portSendsForTheFirstEligibleSite : Obligations.PortSendsForTheFirstEligibleSite := by
  unfold Obligations.PortSendsForTheFirstEligibleSite
  intro p d
  refine ⟨fun h => ?_, fun h => ?_, eligible_iff d, ?_⟩
  · rcases h with h | h
    · obtain ⟨t, ht⟩ := Option.ne_none_iff_exists'.1 h
      exact askPort_busy ht
    · exact askPort_none (nextGranted_none h)
  · refine askPort_none (nextGranted_none fun j _ => ?_)
    rw [← Bool.not_eq_true, eligible_iff, h]
    simp
  · intro i r ranks next left refs resends ack e ht hp hel hround hoffer he
    have hi := nextGranted_of hp hel hround
    have hchosen : ∃ o : Offer, (d.site i).win.offer = some o ∧ (d.site i).win.offered o = some r ∧
        ((d.site i).win.taken o).ranks = ranks ∧ ranks ≠ [] ∧ ((d.site i).win.taken o).nextSeq = next ∧
        ((d.site i).win.taken o).prepared = left ∧ ((d.site i).charged o r).pace.refCount = refs ∧
        ((d.site i).charged o r).pace.resendCount = resends ∧
        ack = if o.starts (d.site i).win = true then .running (d.site i).cfg.ackTimeout
          else (d.site i).win.ackTimer := by
      rcases hoffer with ⟨b, hl, hn, hb, rfl, rfl, rfl, rfl, rfl, rfl, rfl⟩ |
        ⟨old, pre, post, hw, hold, hpre, hl, rfl, rfl, rfl, rfl, rfl, rfl, rfl⟩
      · refine ⟨.fresh b, offer_fresh hl hn hb, rfl, rfl, by simp, rfl, rfl, ?_, ?_, ?_⟩
        · simp only [Site.charged, Pacer.counted]; split <;> rfl
        · simp only [Site.charged, Pacer.counted]; split <;> rfl
        · simp only [Offer.starts, List.isEmpty_iff]
      · refine ⟨.resend pre.length, offer_resend hw hold hpre hl, offered_resend hw, ?_,
        by simp, rfl, rfl, rfl, rfl, ?_⟩
        · simp only [Window.taken, hw, modify_append]
        · simp only [Offer.starts, decide_eq_true_eq, List.length_eq_zero_iff]
    obtain ⟨o, ho, hr, hranks, hne, hnext, hleft, hrefs, hresends, hack⟩ := hchosen
    obtain ⟨y, hask, hfeed, hfree, htable, hstore, hbuilder, hports, hsite, hothers⟩ :=
      askPort_clauses ht hi ho hr hel (hranks ▸ hne) hack hrefs hresends he
    obtain ⟨ksites, ktable, kstore, kbuilder⟩ := sendRank_keeps p i r y
    have hsites : ∀ j : SiteId, (askPort p d).site j = y.site j := fun j => by rw [hask, ksites]
    have hpace : ((askPort p d).site i).pace = ((d.site i).begun o r ack).pace := by rw [hsites, hsite]
    have hwin : ((askPort p d).site i).win = { (d.site i).win.taken o with ackTimer := ack } :=
      by rw [hsites, hsite]; rfl
    have hcfg : (y.site i).cfg = (d.site i).cfg := by rw [hsite, begun_cfg]
    rw [hwin, hpace]
    refine ⟨rfl, hranks, hnext, hleft, begun_credit _ _ _ _, fun h => ?_, fun h => ?_, ?_, ?_, ?_, ?_, ?_, ?_,
      ⟨fun hn => ?_,
      fun k hk => ?_⟩, fun j hj => ?_, fun q hq => ?_⟩
    · rw [begun_below (by rw [hrefs]; exact h)]
      exact ⟨hrefs, hresends, charged_level _ _ _⟩
    · rw [begun_ended (by rw [hrefs]; exact h), hresends]
      exact ⟨rfl, rfl, rfl⟩
    · rw [hsites, hsite, begun_q]
    · rw [hask, ktable, htable]
    · rw [hask, kstore, hstore]
    · rw [hask, kbuilder, hbuilder]
    · rw [hask]
      cases hs : r.block.slot with
      | none => rw [sendRank_void hs, port_onPort_same]
      | some k => rw [sendRank_slot hs, port_onPort_same]
    · rw [hask]
      cases hs : r.block.slot with
      | none =>
        rw [sendRank_void hs, port_onPort_same, hcfg]
        exact ⟨_, rfl, rfl, rfl, rfl, fun _ => ⟨rfl, hfree⟩, fun k hk => absurd hk (by simp)⟩
      | some k =>
        rw [sendRank_slot hs, port_onPort_same, hcfg]
        refine ⟨_, rfl, rfl, rfl, rfl, fun h => absurd h (by simp), fun l hl => ?_⟩
        obtain rfl := Option.some.inj hl
        refine ⟨congrArg (· + 1) hfree, ?_⟩
        simp only [Device.slotBytes, hfree, hstore]
    · rw [hask, sendRank_void hn]; exact hfeed
    · rw [hask, sendRank_slot hk, hfree]
      simp only [onPort_feed, Device.eventIf, hfeed]
      split <;> rfl
    · rw [hsites, hothers j hj]
    · rw [hask, sendRank_port_ne hq, Device.port, hports]
      rfl

end Sys2Proof.Machine
end

section
/-!
SUPPORT. Return frames: the recovery from LINK_LOST, ACK and MISS measured from rank 1, what an ACK hands on, PAUSE and
RESUME, HELLO and REMAKE.
-/

namespace Sys2Proof.Machine
open Sys2Proof.Laws

/-! ## A frame taken for a site (R150, R151) -/

/-- The device that a return frame's own rule finds: the part as it stands, or recovered from LINK_LOST. -/
def Device.Reached (s d : Device) (i : SiteId) : Prop :=
  ((s.site i).win.link = .active ∨ (s.site i).win.link = .halted) ∧ d = s ∨
    (s.site i).win.link = .linkLost ∧ d = syncTimers i
      ((s.onWin i fun w => { w with link := .active, retry := 0, probeTimer := none }).event
        (.siteLink i .linkLost .active .returnFrame))

section
variable {s d : Device} {i : SiteId}

/-- The recovery touches the window's link, retry count and timers, and the feed port. -/
theorem reached_keeps (h : s.Reached d i) : d.table = s.table ∧ d.base = s.base ∧ (d.site i).q = (s.site i).q ∧
    (d.site i).cfg = (s.site i).cfg ∧ (d.site i).win.ranks = (s.site i).win.ranks ∧
    (d.site i).win.nextSeq = (s.site i).win.nextSeq ∧ (d.site i).win.closing = (s.site i).win.closing := by
  rcases h with ⟨-, rfl⟩ | ⟨-, rfl⟩
  · exact ⟨rfl, rfl, rfl, rfl, rfl, rfl, rfl⟩
  · refine ⟨rfl, rfl, ?_, ?_, ?_, ?_, ?_⟩ <;> rw [syncTimers, site_onSite_same, event_site, site_onWin_same]

theorem takeFrame_reached (h : s.Reached d i) (hc : (s.site i).win.closing = false) (act : SiteId → Device → Device) :
    takeFrame act i s = arbitrate (lookPageStart i (syncTimers i (act i d))) := by
  have htakes : (s.site i).takesFrames = true := by
    have hlink : (s.site i).win.link ≠ .disabled ∧ (s.site i).win.link ≠ .waiting := by
      rcases h with ⟨h | h, -⟩ | ⟨h, -⟩ <;> rw [h] <;> simp
    simp only [Site.takesFrames, (absent_eq_false _).2 ⟨hlink.1, hc⟩, hlink.2, Bool.not_false, ne_eq, not_false_eq_true,
      decide_true, Bool.and_self]
  rcases h with ⟨hl, rfl⟩ | ⟨hl, rfl⟩
  · have hn : (d.site i).win.link ≠ .linkLost := by rcases hl with hl | hl <;> rw [hl] <;> simp
    simp only [takeFrame, htakes, if_true, hn, if_false]
  · simp only [takeFrame, htakes, if_true, hl]
    rfl

end

/-- A return frame that passes, taken for the site it names. -/
theorem takeReturn_reached {s d : Device} {i : SiteId} {p : PortId} {f : ReturnFrame} {kind : Byte} {fields : List Byte}
    (hf : ReturnPasses f kind fields) (hi : s.Names p f.code i) (hc : (s.site i).win.closing = false)
    (h : s.Reached d i) (act : SiteId → Device → Device) :
    takeReturn kind fields.length p f act s = arbitrate (lookPageStart i (syncTimers i (act i d))) := by
  simp only [takeReturn, returnPasses_of hf rfl, siteOn_of hi, if_true]
  exact takeFrame_reached h hc act

/-! ## ACK and MISS (R141 to R143) -/

theorem returnNumber_of {f : ReturnFrame} {n : Half} (h : f.fields = halfBytes n) : returnNumber f = n := by
  have hget := getHalf_halfBytes n []
  rw [List.append_nil] at hget
  simp only [halfBytes, getHalf, Option.some.injEq, Prod.mk.injEq, and_true] at hget
  simp only [returnNumber, h, halfBytes, hget]

section
variable {s : State} {d : Device} {i : SiteId} {p : PortId} {f : ReturnFrame} {n : Half}

theorem execAck_reached (hf : ReturnPasses f 0x01 (halfBytes n)) (hi : s.dev.Names p f.code i)
    (hc : (s.dev.site i).win.closing = false) (h : s.dev.Reached d i) : exec (.ack p f) s = .next { s with
      dev := arbitrate (lookPageStart i (syncTimers i (takeAck n i d))) } := by
  rw [← returnNumber_of hf.2.1]
  exact congrArg (fun d => Host.Outcome.next { s with dev := d })
    (takeReturn_reached hf hi hc h (takeAck (returnNumber f)))

theorem execMiss_reached (hf : ReturnPasses f 0x02 (halfBytes n)) (hi : s.dev.Names p f.code i)
    (hc : (s.dev.site i).win.closing = false) (h : s.dev.Reached d i) : exec (.miss p f) s = .next { s with
      dev := arbitrate (lookPageStart i (syncTimers i (takeMiss n i d))) } := by
  rw [← returnNumber_of hf.2.1]
  exact congrArg (fun d => Host.Outcome.next { s with dev := d })
    (takeReturn_reached hf hi hc h (takeMiss (returnNumber f)))

end

theorem first_eq (w : Window) : w.first = w.ranks.head?.elim w.nextSeq fun r => r.seq := by
  unfold Window.first
  cases w.ranks <;> rfl

section
variable {s d : Device} {i : SiteId} {n : Half} {k : Nat}

theorem distance_reached (h : s.Reached d i)
    (hk : k = (n - ((s.site i).win.ranks.head?.elim (s.site i).win.nextSeq fun r => r.seq)).toNat) :
    (d.site i).win.distance n = k ∧ (d.site i).win.first =
      ((s.site i).win.ranks.head?.elim (s.site i).win.nextSeq fun r => r.seq) := by
  obtain ⟨-, -, -, -, hr, hn, -⟩ := reached_keeps h
  have hfirst : (d.site i).win.first = ((s.site i).win.ranks.head?.elim (s.site i).win.nextSeq fun r => r.seq) := by
    rw [first_eq, hr, hn]
  exact ⟨by rw [Window.distance, hfirst, hk], hfirst⟩

theorem takeAck_within (hd : (d.site i).win.distance n = k) (hk : k < (d.site i).win.ranks.length) :
    takeAck n i d = removeRanks i (k + 1) d := by
  simp only [takeAck, hd, hk, if_true]

theorem takeAck_stale (hd : (d.site i).win.distance n = k) (hk : (d.site i).win.ranks.length ≤ k) (hs : 32768 ≤ k) :
    takeAck n i d = d := by
  simp only [takeAck, hd, Nat.not_lt.2 hk, hs, if_true, if_false]

theorem takeAck_beyond (hd : (d.site i).win.distance n = k) (hk : (d.site i).win.ranks.length ≤ k) (hs : k < 32768) :
    takeAck n i d = raiseAckRange i 0x01 n d := by
  simp only [takeAck, hd, Nat.not_lt.2 hk, Nat.not_le.2 hs, if_false]

theorem takeMiss_within (hd : (d.site i).win.distance n = k) {pre post : List Rank} {r : Rank}
    (hr : (d.site i).win.ranks = pre ++ r :: post) (hp : pre.length = k) :
    takeMiss n i d = d.onWin i fun w => { w with ranks := pre ++ { r with pending := true } :: post } := by
  have hk : k < (d.site i).win.ranks.length := by
    rw [hr, List.length_append, List.length_cons, hp]; omega
  simp only [takeMiss, hd, hk, if_true]
  refine onSite_congr ?_
  simp only [hr, hd]
  rw [← hp, modify_append]

theorem takeMiss_stale (hd : (d.site i).win.distance n = k) (hk : (d.site i).win.ranks.length ≤ k) (hs : 32768 ≤ k) :
    takeMiss n i d = d := by
  simp only [takeMiss, hd, Nat.not_lt.2 hk, hs, if_true, if_false]

theorem takeMiss_beyond (hd : (d.site i).win.distance n = k) (hk : (d.site i).win.ranks.length ≤ k) (hs : k < 32768) :
    takeMiss n i d = raiseAckRange i 0x02 n d := by
  simp only [takeMiss, hd, Nat.not_lt.2 hk, Nat.not_le.2 hs, if_false]

end

theorem removeRanks_eq (i : SiteId) (n : Nat) (d : Device) : removeRanks i n d = startAck i
    ((((d.site i).win.ranks.take n).foldl (fun x r => handOn i r x)
      (d.onWin i fun w => { w with ranks := w.ranks.drop n })).onWin i fun w => { w with retry := 0 }) := rfl

/-- A rank of a kind that hands nothing on. -/
theorem handOn_other {r : Rank} (ht : r.block.kind ≠ .target) (hp : r.block.kind ≠ .pageEnd) (i : SiteId) (d : Device) :
    handOn i r d = d := by
  unfold handOn
  split
  case h_1 h _ => exact absurd h ht
  case h_2 h _ => exact absurd h hp
  case h_3 => rfl

theorem foldl_handOn_other {l : List Rank} (h : ∀ r ∈ l, r.block.kind ≠ .target ∧ r.block.kind ≠ .pageEnd) (i : SiteId)
    (d : Device) : l.foldl (fun x r => handOn i r x) d = d := by
  induction l with
  | nil => rfl
  | cons r l ih =>
    obtain ⟨ht, hp⟩ := h r List.mem_cons_self
    rw [List.foldl_cons, handOn_other ht hp]
    exact ih fun x hx => h x (List.mem_cons_of_mem r hx)

theorem removeRanks_quiet {i : SiteId} {n : Nat} {d : Device}
    (h : ∀ r ∈ (d.site i).win.ranks.take n, r.block.kind ≠ .target ∧ r.block.kind ≠ .pageEnd) :
    removeRanks i n d = startAck i (d.onWin i fun w => { w with ranks := w.ranks.drop n, retry := 0 }) := by
  rw [removeRanks_eq, foldl_handOn_other h]
  exact congrArg (startAck i) (onSite_onSite d i _ _)

/-! ## When the timers run (R145, R146, R149) -/

theorem ackMayRun_iff (q : Bool) (st : Site) : ackMayRun q st = true ↔ st.win.link = .active ∧ st.win.closing = false ∧
    st.win.ranks ≠ [] ∧ ¬((st.cfg.flow = .obey ∨ st.cfg.flow = .gapObey) ∧ st.pace.ready = false) ∧ q = false := by
  simp only [ackMayRun, Bool.and_eq_true, decide_eq_true_eq, Bool.not_eq_true', paused_eq_false, and_assoc,
    List.isEmpty_eq_false_iff]

theorem startAck_eq (i : SiteId) (d : Device) : startAck i d = d.onWin i fun w =>
    { w with ackTimer := if ackMayRun d.base.quiesced (d.site i) then .running (d.site i).cfg.ackTimeout
      else .stopped } := onSite_congr rfl

theorem syncAck_runs {q : Bool} {st : Site} (h : ackMayRun q st = true) :
    syncAck q st = if st.win.ackTimer = .stopped then .running st.cfg.ackTimeout else st.win.ackTimer := by
  simp only [syncAck, h, if_true]
  cases st.win.ackTimer <;> simp

theorem syncAck_stops {q : Bool} {st : Site} (h : ackMayRun q st = false) : syncAck q st =
    if st.win.ackTimer = .held ∧ st.win.link = .active ∧ st.win.closing = false ∧ st.win.ranks ≠ []
    then .held else .stopped := by
  simp only [syncAck, h, Bool.false_eq_true, if_false]
  cases st.win.ackTimer <;> simp [and_assoc]

theorem syncProbe_eq (q : Bool) (st : Site) : syncProbe q st =
    if st.win.link = .linkLost ∧ st.win.closing = false ∧ q = false
    then some (st.win.probeTimer.getD (4 * st.cfg.ackTimeout)) else none := by
  simp only [syncProbe, probeFull, Bool.and_eq_true, decide_eq_true_eq, Bool.not_eq_true', and_assoc]

theorem syncTimers_eq {i : SiteId} {d : Device} {ack : AckTimer} (h : syncAck d.base.quiesced (d.site i) = ack) :
    syncTimers i d = d.onWin i fun w => { w with
      ackTimer := ack
      probeTimer := if (d.site i).win.link = .linkLost ∧ (d.site i).win.closing = false ∧ d.base.quiesced = false
        then some ((d.site i).win.probeTimer.getD (4 * (d.site i).cfg.ackTimeout)) else none } := by
  refine onSite_congr ?_
  simp only [h, syncProbe_eq]

/-- Settles O23. -/
theorem ackAndMissAreMeasuredFromRankOne : Obligations.AckAndMissAreMeasuredFromRankOne := by
  unfold Obligations.AckAndMissAreMeasuredFromRankOne
  refine ⟨fun p f s i n k d hf hi hc h hk => ?_, fun p f s i n k d hf hi hc h hk => ?_, fun d i st run ack hst hrun =>
    ?_⟩
  · obtain ⟨hd, hfirst⟩ := distance_reached h hk
    obtain ⟨-, -, -, -, hr, -, -⟩ := reached_keeps h
    have hexec := execAck_reached hf hi hc h
    rw [← hr]
    refine ⟨fun hlt hkinds => ?_, fun hle hs => ?_, fun hle hs => ?_⟩
    · rw [hexec, takeAck_within hd hlt, removeRanks_quiet hkinds]
    · rw [hexec, takeAck_stale hd hle hs]
    · rw [hexec, takeAck_beyond hd hle hs, raiseAckRange, hfirst, hr]
  · obtain ⟨hd, hfirst⟩ := distance_reached h hk
    obtain ⟨-, -, -, -, hr, -, -⟩ := reached_keeps h
    have hexec := execMiss_reached hf hi hc h
    refine ⟨fun pre post r hw hp => ?_, fun hle hs => ?_, fun hle hs => ?_⟩
    · rw [hexec, takeMiss_within hd (hr.trans hw) hp]
    · rw [hexec, takeMiss_stale hd (hr ▸ hle) hs]
    · rw [hexec, takeMiss_beyond hd (hr ▸ hle) hs, raiseAckRange, hfirst, hr]
  · subst hst
    have hmay : ackMayRun d.base.quiesced (d.site i) = true ↔ run := (ackMayRun_iff _ _).trans hrun.symm
    refine ⟨fun h => ?_, fun h => ?_, fun h => syncTimers_eq ?_⟩
    · rw [startAck_eq, hmay.2 h, if_pos rfl]
    · rw [startAck_eq, eq_false_of_ne_true (mt hmay.1 h), if_neg (by simp)]
    · rcases h with ⟨h, rfl⟩ | ⟨h, rfl⟩
      · exact syncAck_runs (hmay.2 h)
      · exact syncAck_stops (eq_false_of_ne_true (mt hmay.1 h))

end Sys2Proof.Machine
end

section
/-!
SUPPORT. What an ACK hands on, PAUSE and RESUME, HELLO and REMAKE.
-/

namespace Sys2Proof.Machine
open Sys2Proof.Laws

/-! ## The delivered check (R18, R22) -/

theorem allFinal_iff (v : PageVersion) :
    v.allFinal = true ↔ ∀ j : SiteId, (v.at j).state ≠ .queued ∧ (v.at j).state ≠ .sending := by
  have hfinal : ∀ s : DeliveryState, s.final = true ↔ s ≠ .queued ∧ s ≠ .sending := by
    intro s; cases s <;> simp [DeliveryState.final]
  rw [PageVersion.allFinal, toList_eq_map, List.all_map, List.all_eq_true]
  simp only [Function.comp, hfinal]
  exact ⟨fun h j => h j (mem_allSites j), fun h j _ => h j⟩

section
variable {u : Nat} {v : PageVersion} {d : Device}

theorem deliveredCheck_same (hv : d.record u = some v)
    (h : v.state ≠ .released ∨ ∃ j : SiteId, (v.at j).state = .queued ∨ (v.at j).state = .sending) :
    deliveredCheck u d = d := by
  simp only [deliveredCheck, hv]
  refine if_neg ?_
  rintro ⟨hs, hf⟩
  rw [allFinal_iff] at hf
  rcases h with h | ⟨j, h | h⟩
  · exact h hs
  · exact (hf j).1 h
  · exact (hf j).2 h

theorem deliveredCheck_done (hv : d.record u = some v) (hs : v.state = .released)
    (hf : ∀ j : SiteId, (v.at j).state ≠ .queued ∧ (v.at j).state ≠ .sending) : deliveredCheck u d =
      (retain u (d.onRecord u fun x => { x with state := .delivered })).event
        (.pageDelivered v.key v.version v.records) := by
  simp only [deliveredCheck, hv]
  exact if_pos ⟨hs, (allFinal_iff v).2 hf⟩

end

theorem retain_delivered {u : Nat} {d : Device} (h : u ∉ d.retained) :
    retain u (d.onRecord u fun x => { x with state := .delivered }) =
      { d with
        table := d.table.map fun x => if x.uid = u
          then { x with state := .delivered, retained := some d.retainedCount } else x
        retained := d.retained ++ [u], retainedCount := d.retainedCount + 1 } := by
  rw [retain_new (by exact h), onRecord_onRecord d (f := fun x => { x with state := .delivered }) fun _ => rfl]
  rfl

theorem retain_old {u : Nat} {d : Device} (h : u ∈ d.retained) : retain u d = d := if_pos h

/-! ## What a removed rank hands on (R110, R125, R142) -/

section
variable {i : SiteId} {r : Rank} {d : Device}

theorem handOn_pageEnd {c : Delivery} {v : PageVersion} (hk : r.block.kind = .pageEnd)
    (hc : (d.site i).q.current = some c) (hd : r.block.delivery = some c.id) (hv : d.record c.ref.uid = some v) :
    handOn i r d = deliveredCheck c.ref.uid
      (((d.onDelivery c.ref.uid i fun x => { x with state := .acked, cause := none }).onQueue i fun q =>
        { q with current := none }).event
        (.siteDelivered i c.ref.key c.ref.version c.cls c.sent (v.at i).late)) := by
  simp only [handOn, hk, hd, endDelivery, hc, hv, if_true]

theorem handOn_target {k : Stock} {gen : Byte} (hk : r.block.kind = .target) (ht : r.block.target = some (k, gen)) :
    handOn i r d = applyTarget i k gen d := by
  simp only [handOn, hk, ht]

theorem applyTarget_plain {k : Stock} {gen : Byte}
    (h : gen ≠ ((d.site i).target k).latestGen ∨ (d.site i).tgt.gate = .idle) :
    applyTarget i k gen d = (d.onTarget i k fun x => { x with ackedGen := gen }).event
      (.targetApplied i k gen (decide (gen = ((d.site i).target k).latestGen))) := by
  unfold applyTarget
  refine if_neg ?_
  rw [Bool.and_eq_true, decide_eq_true_eq]
  rintro ⟨hg, hw⟩
  rcases h with h | h
  · exact h hg
  · have hgate : (((d.onTarget i k fun x => { x with ackedGen := gen }).event (.targetApplied i k gen
        (decide (gen = ((d.site i).target k).latestGen)))).site i).tgt.gate = .idle := by
      rw [event_site, Device.onTarget, site_onTgt_same]
      exact h
    rw [Site.gateWaitsOn, hgate] at hw
    cases hw

theorem applyTarget_opens {k : Stock} {gen : Byte} {n : Nat} (hg : gen = ((d.site i).target k).latestGen)
    (hw : (d.site i).tgt.gate = .wait n) (ha : (d.site i).tone.arm = some { stock := k, gated := true }) :
    applyTarget i k gen d = ((d.onTarget i k fun x => { x with ackedGen := gen }).event
      (.targetApplied i k gen true)).onTgt i fun t => { t with gate := .idle } := by
  have hd : decide (gen = ((d.site i).target k).latestGen) = true := decide_eq_true hg
  unfold applyTarget
  dsimp only
  rw [hd]
  refine if_pos ?_
  have hgate : (((d.onTarget i k fun x => { x with ackedGen := gen }).event
      (.targetApplied i k gen true)).site i).tgt.gate = .wait n := by
    rw [event_site, Device.onTarget, site_onTgt_same]
    exact hw
  have harm : (((d.onTarget i k fun x => { x with ackedGen := gen }).event
      (.targetApplied i k gen true)).site i).tone.arm = some { stock := k, gated := true } := by
    rw [event_site, onTarget_tone]
    exact ha
  simp only [Site.gateWaitsOn, hgate, harm, decide_true, Bool.and_self]

end

/-- Settles O24. -/
theorem ackEndsDeliveriesAndAppliesTargets : Obligations.AckEndsDeliveriesAndAppliesTargets := by
  unfold Obligations.AckEndsDeliveriesAndAppliesTargets
  refine ⟨fun u v d hv => ⟨deliveredCheck_same hv, fun hs hf => ⟨fun hn => ?_, fun hm => ?_⟩⟩,
    fun i r d => ⟨fun p f s n k e hf hi hc h hk hlt he => ?_, fun c v hk hc hd hv => handOn_pageEnd hk hc hd hv,
      fun k gen hk ht => ⟨fun h => ?_, fun n hg hw ha => ?_⟩, fun ht hp => handOn_other ht hp i d⟩⟩
  · rw [deliveredCheck_done hv hs hf, retain_delivered hn]
  · rw [deliveredCheck_done hv hs hf, retain_old (by exact hm)]
  · obtain ⟨hd, -⟩ := distance_reached h hk
    obtain ⟨-, -, -, -, hr, -, -⟩ := reached_keeps h
    rw [execAck_reached hf hi hc h, takeAck_within hd (hr ▸ hlt), removeRanks_eq, hr, ← he]
  · rw [handOn_target hk ht, applyTarget_plain h]
  · rw [handOn_target hk ht, applyTarget_opens hg hw ha]

/-! ## PAUSE and RESUME (R172) -/

theorem obeys_iff (f : FlowMode) : f.obeys = true ↔ f = .obey ∨ f = .gapObey := by
  cases f <;> simp [FlowMode.obeys]

theorem setReady_eq (ready : Bool) (i : SiteId) (d : Device) : setReady ready i d = d.onSite i fun st =>
    if st.cfg.flow = .obey ∨ st.cfg.flow = .gapObey then { st with pace := { st.pace with ready := ready } } else st
      := by
  simp only [setReady, obeys_iff]

/-- Settles O25. -/
theorem pauseAndResumeSetTheReadyFlag : Obligations.PauseAndResumeSetTheReadyFlag := by
  unfold Obligations.PauseAndResumeSetTheReadyFlag
  intro p f s i ready c act hrow hi hc hact
  have hexec : ∀ d : Device, s.dev.Reached d i →
      exec c s = .next { s with dev := arbitrate (lookPageStart i (act d)) } := by
    intro d h
    rw [hact, ← setReady_eq]
    rcases hrow with ⟨rfl, hf, rfl⟩ | ⟨rfl, hf, rfl⟩
    · exact congrArg (fun d => Host.Outcome.next { s with dev := d }) (takeReturn_reached hf hi hc h (setReady false))
    · exact congrArg (fun d => Host.Outcome.next { s with dev := d }) (takeReturn_reached hf hi hc h (setReady true))
  exact ⟨fun hl => hexec s.dev (.inl ⟨hl, rfl⟩), fun hl => hexec _ (.inr ⟨hl, rfl⟩)⟩

/-! ## HELLO (R152 to R155) -/

theorem siteOff_of {d : Device} {p : PortId} {code : Half} {i : SiteId} (hp : (d.site i).cfg.port ≠ p)
    (hc : (d.site i).cfg.code = code) (hu : ∀ j : SiteId, (d.site j).cfg.code = code → j = i) :
    d.siteOff p code = some i := by
  refine find_site (by simp [hp, hc]) fun j hj => ?_
  have hne : (d.site j).cfg.code ≠ code := fun h => absurd (hu j h) (Fin.ne_of_lt hj)
  simp [hne]

theorem execHello_taken {s : State} {p : PortId} {f : ReturnFrame} {i : SiteId} {flags : Byte}
    (hf : ReturnPasses f 0x05 [flags]) (hi : s.dev.Names p f.code i) : exec (.hello p f) s =
      .next { s with dev := takeHello (flags.getLsbD 0) i s.dev } := by
  have hrestart : returnRestart f = flags.getLsbD 0 := by simp only [returnRestart, hf.2.1, optionFlag]
  have hpass : returnPasses f 0x05 1 = true := returnPasses_of hf rfl
  refine congrArg (fun d => Host.Outcome.next { s with dev := d }) ?_
  simp only [hpass, siteOn_of hi, hrestart, if_true]

theorem takeHello_present {d : Device} {i : SiteId} (ha : (d.site i).absent = false) (restart : Bool) :
    takeHello restart i d = arbitrate (lookPageStart i (syncTimers i
      (if (d.site i).win.link = .waiting then helloWaiting restart i d
        else if restart then helloRestart i d else helloAgain i d))) := by
  simp only [takeHello, ha, Bool.false_eq_true, if_false]

/-- Settles O26. -/
theorem helloOpensOrRestartsTheWindow : Obligations.HelloOpensOrRestartsTheWindow := by
  unfold Obligations.HelloOpensOrRestartsTheWindow
  intro p f s i flags after hf
  refine ⟨fun hi hc => ?_, fun hn hu hcode => ?_⟩
  · have habsent : (s.dev.site i).win.link ≠ .disabled → (s.dev.site i).absent = false := fun h =>
      (absent_eq_false _).2 ⟨h, hc⟩
    have hexec : (s.dev.site i).win.link ≠ .disabled → exec (.hello p f) s = .next { s with
        dev := (arbitrate (lookPageStart i (syncTimers i
          (if (s.dev.site i).win.link = .waiting then helloWaiting (flags.getLsbD 0) i s.dev
            else if flags.getLsbD 0 then helloRestart i s.dev else helloAgain i s.dev)))) } := fun h => by
      rw [execHello_taken hf hi, takeHello_present (habsent h)]
    refine ⟨fun hl => ?_, fun hl hafter hflag => ?_, fun hl hflag => ?_, fun hl hflag => ?_⟩
    · rw [hexec (by rw [hl]; simp), if_pos hl]
      rfl
    · have hne : (s.dev.site i).win.link ≠ .disabled ∧ (s.dev.site i).win.link ≠ .waiting := by
        rcases hl with hl | hl | hl <;> rw [hl] <;> simp
      rw [hexec hne.1, if_neg hne.2, if_pos hflag, hafter]
      rfl
    · rw [hexec (by rw [hl]; simp), if_neg (by rw [hl]; simp), if_neg (by rw [hflag]; simp), helloAgain, if_pos hl]
      refine congrArg (fun x => Host.Outcome.next { s with dev := arbitrate (lookPageStart i (syncTimers i
        (syncTimers i (Device.event x (.siteLink i .linkLost .active .hello))))) }) ?_
      exact onSite_onSite s.dev i _ _
    · have hne : (s.dev.site i).win.link ≠ .disabled ∧ (s.dev.site i).win.link ≠ .waiting ∧
          (s.dev.site i).win.link ≠ .linkLost := by
        rcases hl with hl | hl <;> rw [hl] <;> simp
      rw [hexec hne.1, if_neg hne.2.1, if_neg (by rw [hflag]; simp), helloAgain, if_neg hne.2.2]
  · have hpass : returnPasses f 0x05 1 = true := returnPasses_of hf rfl
    have hoff := siteOff_of (fun hp => hn i hp hcode) hcode hu
    refine congrArg (fun d => Host.Outcome.next { s with dev := d }) ?_
    simp only [hpass, siteOn_none hn, strayHello, hoff, if_true]

/-! ## REMAKE (R130, R131) -/

theorem placeInRange_iff (sect page : Nat) : placeInRange sect page = true ↔ sect ≤ 7 ∧ 1 ≤ page ∧ page ≤ 96 := by
  simp only [placeInRange, Bool.and_eq_true, decide_eq_true_eq, and_assoc]

theorem highestLive_of {d : Device} {v : PageVersion} (hm : v ∈ d.table) (h1 : v.state ≠ .superseded)
    (h2 : v.state ≠ .withdrawn) (hx : ∀ x ∈ d.table, x.key = v.key → x.state ≠ .superseded → x.state ≠ .withdrawn →
      x = v ∨ x.version < v.version) : d.highestLive v.key = some v := by
  refine highest_of hm ?_ fun x hxm ht => ?_
  · rw [Bool.and_eq_true, decide_eq_true_eq, live_iff]
    exact ⟨rfl, h1, h2⟩
  · rw [Bool.and_eq_true, decide_eq_true_eq, live_iff] at ht
    exact hx x hxm ht.1 ht.2.1 ht.2.2

theorem highestLive_none {d : Device} {key : PageKey}
    (h : ∀ x ∈ d.table, x.key = key → x.state = .superseded ∨ x.state = .withdrawn) : d.highestLive key = none := by
  refine highest_none fun x hx => ?_
  rw [← Bool.not_eq_true, Bool.and_eq_true, decide_eq_true_eq, live_iff]
  rintro ⟨hk, h1, h2⟩
  exact (h x hx hk).elim h1 h2

section
variable {d : Device} {i : SiteId} {pos : Position}

theorem effectiveVersion_place (h : 7 < pos.sect ∨ pos.page = 0 ∨ 96 < pos.page) : d.effectiveVersion i pos = none := by
  refine if_neg ?_
  rw [placeInRange_iff]
  omega

/-- The effective version of a place in range: the zone's own, or else the common one. -/
theorem effectiveVersion_eq (h1 : pos.sect ≤ 7) (h2 : 1 ≤ pos.page) (h3 : pos.page ≤ 96) : d.effectiveVersion i pos =
    (d.highestLive { pos := pos, zone := (d.planEntry i pos.edition).getD 0 }).or
      (d.highestLive { pos := pos, zone := 0 }) := by
  have hp : placeInRange pos.sect pos.page = true := (placeInRange_iff _ _).2 ⟨h1, h2, h3⟩
  simp only [Device.effectiveVersion, hp, if_true]
  cases d.highestLive { pos := pos, zone := (d.planEntry i pos.edition).getD 0 } <;> rfl

theorem effectiveVersion_edition (h : 15 < pos.edition) (ht : ∀ v ∈ d.table, v.key.pos.edition ≤ 15) :
    d.effectiveVersion i pos = none := by
  have hnone : ∀ zone : Nat, d.highestLive { pos := pos, zone := zone } = none := fun zone =>
    highestLive_none fun x hx hk => absurd (ht x hx) (by rw [hk]; exact Nat.not_le.2 h)
  by_cases hp : placeInRange pos.sect pos.page = true
  · obtain ⟨h1, h2, h3⟩ := (placeInRange_iff _ _).1 hp
    rw [effectiveVersion_eq h1 h2 h3, hnone, hnone]
    rfl
  · exact if_neg hp

end

theorem reached_effectiveVersion {s d : Device} {i : SiteId} (h : s.Reached d i) (pos : Position) :
    d.effectiveVersion i pos = s.effectiveVersion i pos := by
  rcases h with ⟨-, rfl⟩ | ⟨-, rfl⟩
  · rfl
  · rfl

theorem postNotAvail_absent {i : SiteId} {d : Device} (h : (d.site i).absent = true) (pos : Position)
    (r : NotAvailReason) : postNotAvail i pos r d = d := by
  simp only [postNotAvail, h, if_true]

theorem postNotAvail_room {i : SiteId} {d : Device} (h : (d.site i).absent = false)
    (hr : (d.site i).q.control.length < 16) (pos : Position) (r : NotAvailReason) : postNotAvail i pos r d =
      d.onQueue i fun q => { q with control := q.control ++ [.notAvail pos r] } := by
  simp only [postNotAvail, h, Bool.false_eq_true, if_false, (controlRoom_iff _).2 hr, if_true, appendControl]

theorem postNotAvail_full {i : SiteId} {d : Device} (h : (d.site i).absent = false)
    (hr : 16 ≤ (d.site i).q.control.length) (pos : Position) (r : NotAvailReason) :
    postNotAvail i pos r d = raise i (.overflowNotAvail pos) d := by
  simp only [postNotAvail, h, Bool.false_eq_true, if_false, mt (controlRoom_iff _).1 (Nat.not_lt.2 hr)]

theorem remakeUnavailable_eq (i : SiteId) (pos : Position) (r : NotAvailReason) (d : Device) :
    remakeUnavailable i pos r d = (postNotAvail i pos r d).event
      (.remakeUnavailable i pos r (decide (16 ≤ (d.site i).q.control.length))) := by
  have hroom : (!(d.site i).controlRoom) = decide (16 ≤ (d.site i).q.control.length) := by
    rw [Bool.eq_iff_iff, Bool.not_eq_true', ← Bool.not_eq_true, controlRoom_iff, decide_eq_true_iff, Nat.not_lt]
  rw [remakeUnavailable, hroom]

section
variable {i : SiteId} {pos : Position} {asked : SepSet} {d : Device}

theorem takeRemake_absorbed (h : (d.site i).hasPosition pos = true) :
    takeRemake pos asked i d = d.event (.remakeTaken i pos none 0 true) := if_pos h

theorem takeRemake_none (h : (d.site i).hasPosition pos = false) (hv : d.effectiveVersion i pos = none) :
    takeRemake pos asked i d = remakeUnavailable i pos .noVersion d := by
  simp only [takeRemake, h, hv, Bool.false_eq_true, if_false]

variable {v : PageVersion}

theorem takeRemake_notReleased (h : (d.site i).hasPosition pos = false) (hv : d.effectiveVersion i pos = some v)
    (ho : v.out = false) : takeRemake pos asked i d = remakeUnavailable i pos .notReleased d := by
  simp only [takeRemake, h, hv, ho, Bool.false_eq_true, if_false]

theorem takeRemake_notReceived (h : (d.site i).hasPosition pos = false) (hv : d.effectiveVersion i pos = some v)
    (ho : v.out = true) (ha : (v.at i).state ≠ .acked) :
    takeRemake pos asked i d = remakeUnavailable i pos .notReceived d := by
  simp only [takeRemake, h, hv, ho, ha, Bool.false_eq_true, if_false, if_true]

theorem takeRemake_enqueued (h : (d.site i).hasPosition pos = false) (hv : d.effectiveVersion i pos = some v)
    (ho : v.out = true) (ha : (v.at i).state = .acked) : takeRemake pos asked i d =
      (enqueue i v.ref .remake (remakeSeps asked v.seps) d).event
        (.remakeTaken i pos (some (v.version, v.key.zone)) (remakeSeps asked v.seps) false) := by
  simp only [takeRemake, h, hv, ho, ha, Bool.false_eq_true, if_false, if_true]

end

/-- Settles O27. -/
theorem remakeIsTakenAbsorbedOrUnavailable : Obligations.RemakeIsTakenAbsorbedOrUnavailable := by
  unfold Obligations.RemakeIsTakenAbsorbedOrUnavailable
  refine ⟨fun d i pos => ⟨effectiveVersion_place, effectiveVersion_edition, fun e zone v he h1 h2 h3 hz =>
    ⟨fun hm hs hw hx => ⟨fun hk => ?_, fun hno hk => ?_⟩, fun hno => ?_⟩⟩, fun d i pos reason => ⟨fun ha => ?_,
    fun hl hc => ⟨fun hr => ?_, fun hr => ?_⟩⟩, fun p f s i e sect page seps pos asked d hf hi hc h hpos hasked => ?_⟩
  · have hv := highestLive_of hm hs hw hx
    rw [hk] at hv
    rw [effectiveVersion_eq h1 h2 h3, planEntry_of he, ← hz, hv]
    rfl
  · have hv := highestLive_of hm hs hw hx
    rw [hk] at hv
    rw [effectiveVersion_eq h1 h2 h3, planEntry_of he, ← hz, highestLive_none hno, hv]
    rfl
  · rw [effectiveVersion_eq h1 h2 h3, planEntry_of he, ← hz, highestLive_none fun x hx hk => hno x hx (.inl hk),
      highestLive_none fun x hx hk => hno x hx (.inr hk)]
    rfl
  · exact postNotAvail_absent ((absent_iff _).2 ha) pos reason
  · exact postNotAvail_room ((absent_eq_false _).2 ⟨hl, hc⟩) hr pos reason
  · exact postNotAvail_full ((absent_eq_false _).2 ⟨hl, hc⟩) hr pos reason
  · obtain ⟨-, -, hq, -, -, -, -⟩ := reached_keeps h
    have hposition : (d.site i).hasPosition pos = (s.dev.site i).hasPosition pos := by
      simp only [Site.hasPosition, hq]
    have heffective := reached_effectiveVersion h pos
    have hexec : exec (.remake p f) s = .next { s with
        dev := arbitrate (lookPageStart i (syncTimers i (takeRemake pos asked i d))) } := by
      have hframe : returnRemake f = (pos, asked) := by simp only [returnRemake, hf.2.1, hpos, hasked]
      have hret := takeReturn_reached hf hi hc h (takeRemake (returnRemake f).1 (returnRemake f).2)
      rw [show takeRemake pos asked i d = takeRemake (returnRemake f).1 (returnRemake f).2 i d by rw [hframe]]
      exact congrArg (fun d => Host.Outcome.next { s with dev := d }) hret
    rw [hexec, ← hposition, ← heffective, ← hq]
    refine ⟨fun hp => by rw [takeRemake_absorbed hp], fun hp => ⟨fun hv => ?_, fun v hv => ⟨fun h1 h2 => ?_, fun ho =>
      ⟨fun ha => ?_, fun ha set hset => ?_⟩⟩⟩⟩
    · rw [takeRemake_none hp hv, remakeUnavailable_eq]
    · have ho : v.out = false := by
        rw [← Bool.not_eq_true, lookup_out]
        exact fun h => h.elim h1 h2
      rw [takeRemake_notReleased hp hv ho, remakeUnavailable_eq]
    · rw [takeRemake_notReceived hp hv ((lookup_out v).2 ho) ha, remakeUnavailable_eq]
    · rw [takeRemake_enqueued hp hv ((lookup_out v).2 ho) ha, hset]
      rfl

end Sys2Proof.Machine
end

section
/-!
SUPPORT. What every operation of a tick leaves of the pacers: the setting of the laws and, beside it, the gap timers
(R174). The releases and the expiries keep both.
-/

namespace Sys2Proof.Machine
open Sys2Proof.Laws

/-! ## The relation -/

/-- No gap timer changed. -/
def Device.KeepsGap (d e : Device) : Prop := ∀ i : SiteId, (e.site i).pace.gap = (d.site i).pace.gap

/-- Neither the setting nor a gap timer changed. -/
def Device.KeepsPacing (d e : Device) : Prop := d.KeepsSetting e ∧ d.KeepsGap e

section
variable {d e f : Device}

theorem gap_refl (d : Device) : d.KeepsGap d := fun _ => rfl

theorem gap_trans (h : d.KeepsGap e) (k : e.KeepsGap f) : d.KeepsGap f := fun i => (k i).trans (h i)

theorem pacing_refl (d : Device) : d.KeepsPacing d := ⟨keeps_refl d, gap_refl d⟩

theorem pacing_trans (h : d.KeepsPacing e) (k : e.KeepsPacing f) : d.KeepsPacing f :=
  ⟨keeps_trans h.1 k.1, gap_trans h.2 k.2⟩

theorem gap_foldl {α : Type} (l : List α) (g : Device → α → Device) (h : ∀ (d : Device) (a : α), d.KeepsGap (g d a))
    (d : Device) : d.KeepsGap (l.foldl g d) := by
  induction l generalizing d with
  | nil => exact gap_refl d
  | cons a l ih => exact gap_trans (h d a) (ih _)

theorem pacing_foldl {α : Type} (l : List α) (g : Device → α → Device)
    (h : ∀ (d : Device) (a : α), d.KeepsPacing (g d a)) (d : Device) : d.KeepsPacing (l.foldl g d) :=
  ⟨keeps_foldl l g (fun d a => (h d a).1) d, gap_foldl l g (fun d a => (h d a).2) d⟩

theorem pacing_forSites {g : SiteId → Device → Device} (h : ∀ (i : SiteId) (d : Device), d.KeepsPacing (g i d))
    (d : Device) : d.KeepsPacing (forSites g d) := pacing_foldl _ _ (fun d i => h i d) d

theorem gap_of_site (h : ∀ i : SiteId, e.site i = d.site i) : d.KeepsGap e := fun i => by rw [h]

end

theorem gap_onSite (d : Device) (i : SiteId) {f : Site → Site} (h : ∀ st, (f st).pace.gap = st.pace.gap) :
    d.KeepsGap (d.onSite i f) := fun j => by
  by_cases hj : j = i
  · subst hj; rw [site_onSite_same, h]
  · rw [site_onSite_ne d hj]

theorem gap_onWin (d : Device) (i : SiteId) (f : Window → Window) : d.KeepsGap (d.onWin i f) :=
  gap_onSite d i fun _ => rfl

theorem gap_onQueue (d : Device) (i : SiteId) (f : SiteQueue → SiteQueue) : d.KeepsGap (d.onQueue i f) :=
  gap_onSite d i fun _ => rfl

/-! ## Conditions, postings and cancellations -/

theorem pacing_raise (i : SiteId) (det : CondDetails) (d : Device) : d.KeepsPacing (raise i det d) := by
  refine ⟨keeps_raise i det d, ?_⟩
  unfold raise
  dsimp only
  split
  · exact gap_refl d
  · rw [haltSite_eq]
    exact gap_onSite (d.event _) i fun _ => rfl
  · exact gap_refl d
  · exact gap_refl d

theorem pacing_postCancel (i : SiteId) (key : PageKey) (n : Nat) (r : CancelReason) (d : Device) :
    d.KeepsPacing (postCancel i key n r d) := by
  refine ⟨keeps_postCancel i key n r d, ?_⟩
  unfold postCancel
  split
  · exact gap_refl d
  · split
    · exact gap_onSite d i fun _ => rfl
    · exact (pacing_raise i _ d).2

theorem pacing_deliveredCheck (u : Nat) (d : Device) : d.KeepsPacing (deliveredCheck u d) :=
  ⟨keeps_deliveredCheck u d, gap_of_site fun i => deliveredCheck_site u d i⟩

theorem gap_postCause (i : SiteId) (c : Delivery) (cause : CancelCause) (d : Device) :
    d.KeepsGap (postCause i c cause d) := by
  unfold postCause
  split
  · exact (pacing_postCancel i _ _ _ d).2
  · exact gap_refl d

theorem pacing_cancelCurrent (i : SiteId) (c : Delivery) (cause : CancelCause) (d : Device) :
    d.KeepsPacing (cancelCurrent i c cause d) := by
  refine ⟨keeps_cancelCurrent i c cause d, fun j => ?_⟩
  by_cases hj : j = i
  · subst hj
    rw [cancelCurrent_site]
    refine (gap_postCause j c cause _ j).trans ?_
    exact gap_onWin (d.markIf _) j _ j
  · rw [site_cancelCurrent_ne hj]

theorem pacing_cancelQueued (i : SiteId) (u : Nat) (d : Device) : d.KeepsPacing (cancelQueued i u d) := by
  refine ⟨keeps_cancelQueued i u d, fun j => ?_⟩
  rw [cancelQueued, finalRecord_site]
  exact gap_onQueue d i _ j

theorem pacing_cancelDelivery (i : SiteId) (u : Nat) (cause : CancelCause) (d : Device) :
    d.KeepsPacing (cancelDelivery i u cause d) := by
  unfold cancelDelivery
  repeat' split
  · exact pacing_cancelCurrent i _ cause d
  · exact pacing_cancelQueued i u d
  · exact pacing_refl d
  · exact pacing_cancelQueued i u d
  · exact pacing_refl d

theorem pacing_cancelAll (u : Nat) (cause : CancelCause) (d : Device) : d.KeepsPacing (cancelAll u cause d) := by
  refine pacing_forSites (fun i d => ?_) d
  split
  · split
    · exact pacing_refl d
    · exact pacing_cancelDelivery i u cause d
  · exact pacing_refl d

/-! ## Page starts and enqueues -/

/-- What a look for a page start leaves of every site: its settings, window, pacer and halt record. -/
def Device.KeepsLinks (d e : Device) : Prop := ∀ j : SiteId, (e.site j).cfg = (d.site j).cfg ∧
  (e.site j).win = (d.site j).win ∧ (e.site j).pace = (d.site j).pace ∧ (e.site j).halt = (d.site j).halt

theorem links_refl (d : Device) : d.KeepsLinks d := fun _ => ⟨rfl, rfl, rfl, rfl⟩

theorem links_trans {d e f : Device} (h : d.KeepsLinks e) (k : e.KeepsLinks f) : d.KeepsLinks f := fun j =>
  ⟨(k j).1.trans (h j).1, (k j).2.1.trans (h j).2.1, (k j).2.2.1.trans (h j).2.2.1, (k j).2.2.2.trans (h j).2.2.2⟩

theorem links_onSite (d : Device) (i : SiteId) {f : Site → Site}
    (h : ∀ st, (f st).cfg = st.cfg ∧ (f st).win = st.win ∧ (f st).pace = st.pace ∧ (f st).halt = st.halt) :
    d.KeepsLinks (d.onSite i f) := fun j => by
  by_cases hj : j = i
  · subst hj; rw [site_onSite_same]; exact h _
  · rw [site_onSite_ne d hj]; exact ⟨rfl, rfl, rfl, rfl⟩

theorem links_setGate (i : SiteId) (g : Gate) (d : Device) : d.KeepsLinks (setGate i g d) :=
  links_onSite d i fun _ => ⟨rfl, rfl, rfl, rfl⟩

theorem links_switchCurves (i : SiteId) (a : Arm) (b : Bool) (d : Device) : d.KeepsLinks (switchCurves i a b d) := by
  have hswitch : d.KeepsLinks (d.onTone i fun t => { t with active := t.pending, arm := none }) :=
    links_onSite d i fun _ => ⟨rfl, rfl, rfl, rfl⟩
  unfold switchCurves
  dsimp only
  split
  · exact hswitch
  · exact hswitch

theorem links_takeHead (i : SiteId) (d : Device) : d.KeepsLinks (takeHead i d) := by
  unfold takeHead
  split
  · exact links_onSite { d with serial := d.serial + 1 } i fun _ => ⟨rfl, rfl, rfl, rfl⟩
  · exact links_refl d

theorem links_lookPageStart (i : SiteId) (d : Device) : d.KeepsLinks (lookPageStart i d) := by
  unfold lookPageStart
  dsimp only
  split
  case isFalse => exact links_refl d
  case isTrue =>
    split
    case h_1 => exact links_takeHead i d
    case h_2 a ha =>
      split
      case isFalse => exact links_trans (links_switchCurves i a false d) (links_takeHead i _)
      case isTrue =>
        have hopened : ∀ b : Bool, d.KeepsLinks (takeHead i (switchCurves i a b (setGate i .idle d))) := fun b =>
          links_trans (links_trans (links_setGate i .idle d) (links_switchCurves i a b _)) (links_takeHead i _)
        split
        case isTrue => exact hopened false
        case isFalse =>
          split
          · exact links_setGate i _ d
          · exact links_refl d
          · exact hopened true

theorem gap_of_links {d e : Device} (h : d.KeepsLinks e) : d.KeepsGap e := fun i => congrArg Pacer.gap (h i).2.2.1

theorem pacing_lookPageStart (i : SiteId) (d : Device) : d.KeepsPacing (lookPageStart i d) :=
  ⟨keeps_lookPageStart i d, gap_of_links (links_lookPageStart i d)⟩

theorem pacing_enqueue (i : SiteId) (r : PageRef) (c : DeliveryClass) (seps : SepSet) (d : Device) :
    d.KeepsPacing (enqueue i r c seps d) := by
  refine ⟨keeps_enqueue i r c seps d, ?_⟩
  unfold enqueue
  exact gap_trans (gap_onQueue { d with orderCounter := d.orderCounter + 1 } i fun q =>
    { q with queue := insertEntry { ref := r, cls := c, seps := seps, order := d.orderCounter } q.queue })
    (gap_of_links (links_lookPageStart i _))

/-! ## Releases and evaluations (R16, R61, R62, R67, R73) -/

theorem pacing_event (d : Device) (e : Event) : d.KeepsPacing (d.event e) := ⟨keeps_event d e, gap_refl d⟩

theorem pacing_onRecord (d : Device) (u : Nat) (f : PageVersion → PageVersion) : d.KeepsPacing (d.onRecord u f) :=
  ⟨keeps_onRecord d u f, gap_refl d⟩

theorem pacing_retain (u : Nat) (d : Device) : d.KeepsPacing (retain u d) :=
  ⟨keeps_retain u d, gap_of_site fun i => retain_site u d i⟩

theorem pacing_supersedeOne (n : Nat) (v : PageVersion) (d : Device) : d.KeepsPacing (supersedeOne n v d) := by
  unfold supersedeOne
  exact pacing_trans (pacing_trans (pacing_trans (pacing_onRecord d _ _) (pacing_retain _ _)) (pacing_cancelAll _ _ _))
    (pacing_event _ _)

theorem pacing_supersede (key : PageKey) (n : Nat) (d : Device) : d.KeepsPacing (supersede key n d) :=
  pacing_foldl _ _ (fun d x => pacing_supersedeOne _ x d) d

theorem pacing_displace (i : SiteId) (pos : Position) (u : Nat) (d : Device) : d.KeepsPacing (displace i pos u d) := by
  unfold displace
  refine pacing_trans ?_ (pacing_foldl _ _ (fun d e => pacing_cancelQueued i _ d) _)
  dsimp only
  split
  · split
    · exact pacing_cancelCurrent i _ _ d
    · exact pacing_refl d
  · exact pacing_refl d

/-- The enqueues of a release at its target sites (R62). -/
theorem pacing_enqueues (v : PageVersion) (l : List SiteId) (d : Device) : d.KeepsPacing
    (l.foldl (fun d i => enqueue i v.ref v.cls v.seps (displace i v.key.pos v.uid d)) d) :=
  pacing_foldl _ _ (fun d i => pacing_trans (pacing_displace i _ _ d) (pacing_enqueue i _ _ _ _)) d

theorem pacing_release (v : PageVersion) (d : Device) : d.KeepsPacing (release v d) := by
  unfold release
  dsimp only
  refine pacing_trans ?_ (pacing_deliveredCheck _ _)
  refine pacing_trans ?_ (pacing_event _ _)
  refine pacing_trans ?_ (pacing_enqueues v _ _)
  refine pacing_trans (pacing_onRecord d v.uid fun x => { x with state := .released }) ?_
  exact pacing_supersede v.key v.version _

theorem pacing_evaluate (test : PageVersion → Bool) (d : Device) : d.KeepsPacing (evaluate test d) := by
  refine pacing_foldl _ _ (fun d v => ?_) d
  unfold releaseIfApproved
  split
  · split
    · exact pacing_release _ d
    · exact pacing_refl d
  · exact pacing_refl d

theorem pacing_markLate (u : Nat) (i : SiteId) (d : Device) : d.KeepsPacing (markLate u i d) := by
  unfold markLate
  split
  · split
    · exact pacing_trans (pacing_onRecord d u _) (pacing_raise i _ _)
    · exact pacing_refl d
  · exact pacing_refl d

theorem pacing_latestCheck (d : Device) : d.KeepsPacing (latestCheck d) := by
  unfold latestCheck
  refine pacing_foldl _ _ (fun d v => ?_) d
  exact pacing_forSites (pacing_markLate v.uid) d

/-! ## Expiries and counts of the 100 ms tick (R113, R145, R147, R149) -/

theorem pacing_onSite (d : Device) (i : SiteId) {f : Site → Site} (hk : ∀ st : Site, st.KeepsSetting (f st))
    (hg : ∀ st, (f st).pace.gap = st.pace.gap) : d.KeepsPacing (d.onSite i f) :=
  ⟨keeps_onSite d i hk, gap_onSite d i hg⟩

theorem pacing_onWin (d : Device) (i : SiteId) (f : Window → Window) : d.KeepsPacing (d.onWin i f) :=
  ⟨keeps_onWin d i f, gap_onSite d i fun _ => rfl⟩

theorem pacing_setGate (i : SiteId) (g : Gate) (d : Device) : d.KeepsPacing (setGate i g d) :=
  ⟨keeps_setGate i g d, gap_onSite d i fun _ => rfl⟩

theorem pacing_syncTimers (i : SiteId) (d : Device) : d.KeepsPacing (syncTimers i d) :=
  ⟨keeps_syncTimers i d, gap_onSite d i fun _ => rfl⟩

theorem pacing_expireAck (i : SiteId) (d : Device) : d.KeepsPacing (expireAck i d) := by
  unfold expireAck
  dsimp only
  split
  · split
    · exact pacing_trans (pacing_trans (pacing_trans (pacing_onWin d i _) (pacing_raise i _ _)) (pacing_onWin _ i _))
        (pacing_syncTimers i _)
    · exact pacing_trans (pacing_onWin d i _) (pacing_raise i _ _)
  · exact pacing_onWin d i _

theorem pacing_expireProbe (i : SiteId) (d : Device) : d.KeepsPacing (expireProbe i d) :=
  pacing_onSite d i (fun _ => ⟨rfl, rfl, rfl, rfl, rfl, rfl⟩) fun _ => rfl

theorem pacing_expireGate (i : SiteId) (d : Device) : d.KeepsPacing (expireGate i d) := by
  unfold expireGate
  dsimp only
  split
  · exact pacing_refl d
  · split
    · exact pacing_trans (pacing_trans (pacing_raise i _ d) (pacing_setGate i _ _)) (pacing_lookPageStart i _)
    · exact pacing_trans (pacing_raise i _ d) (pacing_setGate i _ _)

theorem pacing_if {c : Prop} [Decidable c] {d e : Device} (h : d.KeepsPacing e) :
    d.KeepsPacing (if c then e else d) := by
  split
  · exact h
  · exact pacing_refl d

theorem pacing_expireSite (i : SiteId) (d : Device) : d.KeepsPacing (expireSite i d) :=
  pacing_trans (pacing_trans (pacing_if (pacing_expireGate i d)) (pacing_if (pacing_expireAck i _)))
    (pacing_if (pacing_expireProbe i _))

theorem pacing_tickCounts (i : SiteId) (d : Device) :
    d.KeepsPacing (d.onSite i (Site.tickCounts d.base.quiesced)) :=
  pacing_onSite d i (fun _ => ⟨rfl, rfl, rfl, rfl, rfl, rfl⟩) fun _ => rfl

/-! ## The arbiters -/

theorem gap_storeErrorAt (i : SiteId) (j : PlateJob) (d : Device) : d.KeepsGap (storeErrorAt i j d) := by
  unfold storeErrorAt
  dsimp only
  split
  · split
    · split
      · exact gap_trans (pacing_raise i _ d).2 (pacing_cancelCurrent i _ _ _).2
      · exact (pacing_raise i _ d).2
    · exact (pacing_raise i _ d).2
  · exact (pacing_raise i _ d).2

theorem gap_grant (i : SiteId) (k : Fin 16) (job : Job) (d : Device) : d.KeepsGap (grant i k job d) := by
  cases hf : d.jobFaulty job with
  | false => rw [grant_begins hf]; exact gap_refl d
  | true =>
    cases job with
    | plate j => rw [grant_faulty hf]; exact gap_storeErrorAt i j _
    | pageEnd id ref ident payload => cases hf
    | control e => cases hf

theorem gap_grantRounds (n : Nat) (d : Device) : d.KeepsGap (grantRounds n d) := by
  induction n generalizing d with
  | zero => exact gap_refl d
  | succ n ih =>
    unfold grantRounds
    split
    · exact gap_refl d
    · split
      · exact gap_refl d
      · split
        · exact gap_trans (gap_grant _ _ _ d) (ih _)
        · exact gap_refl d

theorem gap_beginTransmission (p : PortId) (i : SiteId) (o : Offer) (d : Device) :
    d.KeepsGap (beginTransmission p i o d) := by
  cases hr : (d.site i).win.offered o with
  | none => simp only [beginTransmission, hr]; exact gap_refl d
  | some r =>
    rw [beginTransmission_eq hr]
    have hcharged : d.KeepsGap (d.onSite i (Site.charged o r)) := gap_onSite d i fun st => by
      cases o with
      | resend k => rfl
      | fresh b => simp only [Site.charged, Pacer.counted]; split <;> rfl
    have hgauge : ∀ x : Device, x.KeepsGap (gaugeEnd i x) := fun x => by
      rw [gaugeEnd_eq]
      exact gap_onSite x i fun st => (gaugeEnded_pace st).2.2.2.2.2
    have hack : ∀ x : Device, x.KeepsGap (ackAtStart i (d.site i).win o x) := fun x => by
      rw [ackAtStart_eq]
      split
      · exact gap_onSite x i fun _ => rfl
      · exact gap_refl x
    exact gap_trans (gap_trans (gap_trans hcharged (hgauge _)) (hack _))
      (gap_of_site (sendRank_keeps p i r _).1)

theorem gap_askPort (p : PortId) (d : Device) : d.KeepsGap (askPort p d) := by
  unfold askPort
  split
  · exact gap_refl d
  · split
    · exact gap_refl d
    · split
      · exact gap_beginTransmission p _ _ d
      · exact gap_refl d

theorem pacing_arbitrate (d : Device) : d.KeepsPacing (arbitrate d) :=
  ⟨keeps_arbitrate d, gap_trans (gap_trans (gap_grantRounds 9 d) (gap_foldl _ _ (fun d p => gap_askPort p d) _))
    (gap_grantRounds 9 _)⟩

end Sys2Proof.Machine
end

section
/-!
SUPPORT. The ticks of the timebase: what each leaves of the setting, the ports and the gap timers, and a 100 ms tick
at which no count runs out.
-/

namespace Sys2Proof.Machine
open Sys2Proof.Laws

/-! ## The 100 ms tick (R52) -/

theorem pacing_onBase {d e : Device} (h : d.KeepsPacing e) (f : Base → Base) :
    ({ d with base := f d.base } : Device).KeepsPacing { e with base := f e.base } := by
  obtain ⟨⟨hbase, hstore, hbuf, harr, hcmds, hreplies, hlink, hover, hsite, hport⟩, hgap⟩ := h
  exact ⟨⟨congrArg f hbase, hstore, hbuf, harr, hcmds, hreplies, hlink, hover, hsite, hport⟩, hgap⟩

/-- The timebase with its clock moved on (R52). -/
def Base.clockTicked (b : Base) : Base := { b with clock := b.clock.tick }

theorem tickRelease_eq (d : Device) : tickRelease d =
    if d.base.clock.tick.unset = true then { d with base := d.base.clockTicked }
    else latestCheck (evaluate (fun v => v.releaseAt.isSome) { d with base := d.base.clockTicked }) := rfl

theorem pacing_tickRelease (d : Device) :
    ({ d with base := d.base.clockTicked } : Device).KeepsPacing (tickRelease d) := by
  rw [tickRelease_eq]
  split
  · exact pacing_refl _
  · exact pacing_trans (pacing_evaluate _ _) (pacing_latestCheck _)

theorem pacing_tick100 (d : Device) : ({ d with base := d.base.clockTicked } : Device).KeepsPacing (tick100 d) := by
  unfold tick100
  have hcounts := pacing_forSites pacing_tickCounts d
  have hexpired := pacing_trans hcounts (pacing_forSites pacing_expireSite _)
  exact pacing_trans (pacing_onBase hexpired Base.clockTicked) (pacing_tickRelease _)

theorem tick_eq (c : Clock) : c.tick = if c.unset = true then c
    else { count := (c.count + 1) % 864000, unset := false } := by
  have hday : Config.dayUnits = 864000 := rfl
  obtain ⟨count, unset⟩ := c
  cases unset
  · simp only [Clock.tick, hday]
  · rfl

/-! ## The gap timers at a 10 ms tick (R174) -/

/-- The count of a gap timer after a 10 ms tick. -/
def Site.gapTicked (quiesced : Bool) (st : Site) : Option Nat :=
  st.pace.gap.bind fun n =>
    if quiesced = true ∨ st.win.link = .halted then some n else if n ≤ 1 then none else some (n - 1)

theorem keeps_setGap (i : SiteId) (g : Option Nat) (d : Device) :
    d.KeepsSetting (d.onPace i fun p => { p with gap := g }) :=
  keeps_onSite d i fun _ => ⟨rfl, rfl, rfl, rfl, rfl, rfl⟩

theorem keeps_tickGap (i : SiteId) (d : Device) : d.KeepsSetting (tickGap i d) := by
  unfold tickGap
  dsimp only
  split
  · split
    · exact keeps_refl d
    · split
      · exact keeps_trans (keeps_setGap i none d) (keeps_lookPageStart i _)
      · exact keeps_setGap i _ d
  · exact keeps_refl d

theorem site_tickGap_ne {i j : SiteId} (h : j ≠ i) (d : Device) : (tickGap i d).site j = d.site j := by
  unfold tickGap
  dsimp only
  split
  · split
    · rfl
    · split
      · rw [expireGap, site_lookPageStart_ne h, site_onPace_ne d h]
      · rw [site_onPace_ne d h]
  · rfl

theorem tickGap_gap (i : SiteId) (d : Device) :
    ((tickGap i d).site i).pace.gap = (d.site i).gapTicked d.base.quiesced := by
  unfold tickGap
  dsimp only
  split
  case h_2 hn => rw [Site.gapTicked, hn]; rfl
  case h_1 n hn =>
    rw [Site.gapTicked, hn, Option.bind_some]
    split
    · exact hn
    · split
      · rw [expireGap, gap_of_links (links_lookPageStart i _) i, site_onPace_same]
      · rw [site_onPace_same]

theorem foldl_tickGap {l : List SiteId} (hl : l.Nodup) (d : Device) (j : SiteId) :
    ((l.foldl (fun d i => tickGap i d) d).site j).pace.gap =
      if j ∈ l then (d.site j).gapTicked d.base.quiesced else (d.site j).pace.gap := by
  induction l generalizing d with
  | nil => rfl
  | cons i l ih =>
    obtain ⟨hi, hl⟩ := List.nodup_cons.1 hl
    rw [List.foldl_cons, ih hl, (keeps_tickGap i d).base]
    by_cases hj : j = i
    · subst hj
      rw [if_neg hi, if_pos List.mem_cons_self, tickGap_gap]
    · simp only [site_tickGap_ne hj, List.mem_cons, hj, false_or]

theorem forSites_tickGap (d : Device) (j : SiteId) :
    ((forSites tickGap d).site j).pace.gap = (d.site j).gapTicked d.base.quiesced := by
  unfold forSites
  rw [foldl_tickGap allSites_nodup, if_pos (mem_allSites j)]

/-! ## The 10 ms tick (R51) -/

/-- The timebase after a 10 ms tick. -/
def Base.tensTicked (b : Base) : Base :=
  { b with
    tens := (b.tens + 1) % 10
    clock := if (b.tens + 1) % 10 = 0 then b.clock.tick else b.clock }

/-- The device once the gap timers of a 10 ms tick have counted. -/
def gapsTicked (d : Device) : Device :=
  forSites tickGap { d with base := { d.base with tens := (d.base.tens + 1) % 10 } }

theorem keeps_gapsTicked (d : Device) :
    ({ d with base := { d.base with tens := (d.base.tens + 1) % 10 } } : Device).KeepsSetting (gapsTicked d) := by
  unfold gapsTicked forSites
  exact keeps_foldl allSites _ (fun d i => keeps_tickGap i d) _

theorem tick10_eq (d : Device) :
    tick10 d = if (gapsTicked d).base.tens = 0 then tick100 (gapsTicked d) else gapsTicked d := by
  unfold tick10 gapsTicked
  rfl

theorem keeps_onBase {d e : Device} (h : d.KeepsSetting e) (f : Base → Base) :
    ({ d with base := f d.base } : Device).KeepsSetting { e with base := f e.base } := by
  obtain ⟨hbase, hstore, hbuf, harr, hcmds, hreplies, hlink, hover, hsite, hport⟩ := h
  exact ⟨congrArg f hbase, hstore, hbuf, harr, hcmds, hreplies, hlink, hover, hsite, hport⟩

theorem tick10_keeps (d : Device) :
    ({ d with base := d.base.tensTicked } : Device).KeepsSetting (tick10 d) ∧
      ∀ i, ((tick10 d).site i).pace.gap = (d.site i).gapTicked d.base.quiesced := by
  have hgap : ∀ i, ((gapsTicked d).site i).pace.gap = (d.site i).gapTicked d.base.quiesced := fun i => by
    rw [gapsTicked, forSites_tickGap]
    rfl
  have hkeep := keeps_gapsTicked d
  have htens : (gapsTicked d).base.tens = (d.base.tens + 1) % 10 := congrArg Base.tens hkeep.base
  rw [tick10_eq, htens, Base.tensTicked]
  generalize gapsTicked d = e at hgap hkeep
  split
  · obtain ⟨hsetting, hgaps⟩ := pacing_tick100 e
    exact ⟨keeps_trans (keeps_onBase hkeep Base.clockTicked) hsetting, fun i => (hgaps i).trans (hgap i)⟩
  · exact ⟨hkeep, hgap⟩

/-- Settles O6. -/
theorem tick10msCountsTheGapTimers : Obligations.Tick10msCountsTheGapTimers := by
  unfold Obligations.Tick10msCountsTheGapTimers
  intro s
  obtain ⟨hkeep, hgap⟩ := tick10_keeps s.dev
  obtain ⟨hkept, hgaps⟩ := pacing_arbitrate (tick10 s.dev)
  refine ⟨arbitrate (tick10 s.dev), rfl, fun h => ?_, fun h => ?_, fun i => (hgaps i).trans (hgap i),
    hkept.store.trans hkeep.store, (keeps_trans hkeep hkept).port⟩
  · rw [hkept.base, hkeep.base]
    have hmod : (s.dev.base.tens + 1) % 10 = s.dev.base.tens + 1 := Nat.mod_eq_of_lt (by omega)
    simp only [Base.tensTicked, hmod, Nat.succ_ne_zero, if_false]
  · rw [hkept.base, hkeep.base]
    simp only [Base.tensTicked, h, tick_eq, if_true]

end Sys2Proof.Machine
end

section
/-!
SUPPORT. The 1 ms tick: the ports' counts and period ends, then the 10 ms tick where one is due (R51, R161).
-/

namespace Sys2Proof.Machine
open Sys2Proof.Laws

/-- A port after a 1 ms tick (R161). -/
def Port.ticked (x : Port) : Port :=
  if x.remaining ≤ 1 then x.restarted else { x with remaining := x.remaining - 1 }

/-- What a port's tick leaves of a site: all but its pacer. -/
def Device.KeepsButPacers (d e : Device) : Prop := ∀ i : SiteId, e.site i = { d.site i with pace := (e.site i).pace }

theorem tickPort_rest (p : PortId) (d : Device) :
    { tickPort p d with sites := d.sites, ports := d.ports } = d := by
  unfold tickPort
  split
  · have hrest := endPeriod_rest p d
    generalize endPeriod p d = x at hrest ⊢
    exact congrArg (fun e : Device => { e with ports := d.ports }) hrest
  · rfl

theorem tickPort_sites (p : PortId) (d : Device) : d.KeepsButPacers (tickPort p d) := fun i => by
  unfold tickPort
  split
  · rw [endPeriod_site, Site.periodEnded]
    split <;> rfl
  · rfl

theorem tickPort_port (p : PortId) (d : Device) : (tickPort p d).port p = (d.port p).ticked := by
  unfold tickPort Port.ticked
  split
  · exact endPeriod_port p d
  · exact port_onPort_same d p _

theorem tickPort_port_ne {p q : PortId} (h : q ≠ p) (d : Device) : (tickPort p d).port q = d.port q := by
  unfold tickPort
  split
  · exact endPeriod_port_ne h d
  · exact port_onPort_ne d h _

theorem foldl_tickPort_rest (l : List PortId) (d : Device) :
    { l.foldl (fun d p => tickPort p d) d with sites := d.sites, ports := d.ports } = d := by
  induction l generalizing d with
  | nil => rfl
  | cons p l ih =>
    have hone := tickPort_rest p d
    have hrest := ih (tickPort p d)
    rw [List.foldl_cons]
    generalize l.foldl (fun d p => tickPort p d) (tickPort p d) = x at hrest ⊢
    generalize tickPort p d = y at hone hrest
    exact (congrArg (fun e : Device => { e with sites := d.sites, ports := d.ports }) hrest).trans hone

theorem foldl_tickPort_sites (l : List PortId) (d : Device) :
    d.KeepsButPacers (l.foldl (fun d p => tickPort p d) d) := by
  induction l generalizing d with
  | nil => exact fun _ => rfl
  | cons p l ih =>
    intro i
    rw [List.foldl_cons, ih (tickPort p d) i, tickPort_sites p d i]

theorem foldl_tickPort_port {l : List PortId} (hl : l.Nodup) (d : Device) (q : PortId) :
    (l.foldl (fun d p => tickPort p d) d).port q = if q ∈ l then (d.port q).ticked else d.port q := by
  induction l generalizing d with
  | nil => rfl
  | cons p l ih =>
    obtain ⟨hp, hl⟩ := List.nodup_cons.1 hl
    rw [List.foldl_cons, ih hl]
    by_cases hq : q = p
    · subst hq
      rw [if_neg hp, if_pos List.mem_cons_self, tickPort_port]
    · simp only [tickPort_port_ne hq, List.mem_cons, hq, false_or]

/-- The device once the ports have counted at a 1 ms tick. -/
def portsTicked (d : Device) : Device :=
  forPorts tickPort { d with base := { d.base with ms := (d.base.ms + 1) % 10 } }

theorem portsTicked_rest (d : Device) : { portsTicked d with sites := d.sites, ports := d.ports } =
    { d with base := { d.base with ms := (d.base.ms + 1) % 10 } } := by
  have hrest := foldl_tickPort_rest allFour { d with base := { d.base with ms := (d.base.ms + 1) % 10 } }
  unfold portsTicked forPorts
  generalize allFour.foldl (fun d p => tickPort p d) _ = x at hrest ⊢
  exact hrest

theorem portsTicked_sites (d : Device) : d.KeepsButPacers (portsTicked d) := by
  have hsites := foldl_tickPort_sites allFour { d with base := { d.base with ms := (d.base.ms + 1) % 10 } }
  unfold portsTicked forPorts
  generalize allFour.foldl (fun d p => tickPort p d) _ = x at hsites ⊢
  exact hsites

theorem allFour_nodup : allFour.Nodup := by decide

theorem mem_allFour (p : PortId) : p ∈ allFour := by revert p; decide

theorem portsTicked_port (d : Device) (p : PortId) : (portsTicked d).port p = (d.port p).ticked := by
  unfold portsTicked forPorts
  rw [foldl_tickPort_port allFour_nodup, if_pos (mem_allFour p)]
  rfl

theorem tick1_eq (d : Device) :
    tick1 d = if (portsTicked d).base.ms = 0 then tick10 (portsTicked d) else portsTicked d := by
  unfold tick1 portsTicked
  rfl

/-- The timebase after a 1 ms tick. -/
def Base.msTicked (b : Base) : Base :=
  if (b.ms + 1) % 10 = 0 then { b with ms := 0 }.tensTicked else { b with ms := (b.ms + 1) % 10 }

theorem tick1_keeps (d : Device) :
    ({ portsTicked d with base := d.base.msTicked } : Device).KeepsSetting (tick1 d) := by
  have hbase : (portsTicked d).base = { d.base with ms := (d.base.ms + 1) % 10 } :=
    congrArg Device.base (portsTicked_rest d)
  rw [tick1_eq, Base.msTicked, hbase]
  generalize portsTicked d = e at hbase
  dsimp only
  split
  case isTrue h =>
    have htick := (tick10_keeps e).1
    rw [hbase, h] at htick
    exact htick
  case isFalse =>
    rw [← hbase]
    exact keeps_refl e

/-- Settles O5. -/
theorem tick1msCountsTheTimebaseAndPeriods : Obligations.Tick1msCountsTheTimebaseAndPeriods := by
  unfold Obligations.Tick1msCountsTheTimebaseAndPeriods
  intro s
  have hkeep := keeps_trans (tick1_keeps s.dev) (pacing_arbitrate (tick1 s.dev)).1
  have hrest := portsTicked_rest s.dev
  have hport := portsTicked_port s.dev
  have hsite := portsTicked_sites s.dev
  refine ⟨arbitrate (tick1 s.dev), rfl, ?_⟩
  generalize portsTicked s.dev = e at hkeep hrest hport hsite
  refine ⟨fun h => ?_, fun h ht => ?_, fun h ht => ?_, fun p => ?_, ?_, fun i => ?_⟩
  · have hmod : (s.dev.base.ms + 1) % 10 = s.dev.base.ms + 1 := Nat.mod_eq_of_lt (by omega)
    rw [hkeep.base]
    simp only [Base.msTicked, hmod, Nat.succ_ne_zero, if_false]
  · have hmod : (s.dev.base.tens + 1) % 10 = s.dev.base.tens + 1 := Nat.mod_eq_of_lt (by omega)
    rw [hkeep.base]
    simp only [Base.msTicked, Base.tensTicked, h, hmod, if_true, Nat.succ_ne_zero, if_false]
  · rw [hkeep.base]
    simp only [Base.msTicked, Base.tensTicked, h, ht, if_true, tick_eq]
  · obtain ⟨hactive, hstaged, hremaining⟩ := hkeep.port p
    have hp : ({ e with base := s.dev.base.msTicked } : Device).port p = (s.dev.port p).ticked := hport p
    rw [hactive, hstaged, hremaining, hp, Port.ticked]
    refine ⟨fun h => ?_, fun h => ?_⟩
    · rw [if_neg (by omega)]
      exact ⟨rfl, rfl, rfl⟩
    · rw [if_pos h]
      exact ⟨rfl, rfl, rfl⟩
  · have hstore := congrArg Device.store hrest
    have hfeed := congrArg Device.feed hrest
    exact ⟨hkeep.store.trans hstore, hkeep.buffers.trans (congrArg Feed.buffers hfeed),
      hkeep.cmds.trans (congrArg Feed.cmds hfeed), hkeep.replies.trans (congrArg Feed.replies hfeed)⟩
  · have hs : ({ e with base := s.dev.base.msTicked } : Device).site i = { s.dev.site i with pace := (e.site i).pace }
    :=
      hsite i
    obtain ⟨hcfg, hoffsets, hpending, -, -, -⟩ := hkeep.site i
    rw [hs] at hcfg hoffsets hpending
    exact ⟨hcfg, hpending, hoffsets⟩

end Sys2Proof.Machine
end

section
/-!
SUPPORT. A 100 ms tick at which no count runs out, and the marks of the latest check (R52, R73, R74, R113, R145, R149).
-/

namespace Sys2Proof.Machine
open Sys2Proof.Laws

/-! ## The counts -/

/-- No count of the site runs out at its next 100 ms tick. -/
def Site.CountsOn (st : Site) : Prop :=
  (∀ n : Nat, st.win.ackTimer = .running n → 2 ≤ n) ∧ (∀ n : Nat, st.win.probeTimer = some n → 2 ≤ n) ∧
    ∀ n : Nat, st.tgt.gate = .wait n → 2 ≤ n

/-- The device once every count of a 100 ms tick is taken down. -/
def countsTicked (d : Device) : Device := forSites (fun i d => d.onSite i (Site.tickCounts d.base.quiesced)) d

/-- A change of every site that reads the quiesced flag, which no such change touches. -/
theorem foldl_onSite_quiesced (f : Bool → Site → Site) (l : List SiteId) (d : Device) {q : Bool}
    (hq : d.base.quiesced = q) :
    l.foldl (fun d i => d.onSite i (f d.base.quiesced)) d = l.foldl (fun d i => d.onSite i (f q)) d := by
  induction l generalizing d with
  | nil => rfl
  | cons i l ih =>
    rw [List.foldl_cons, List.foldl_cons, hq]
    exact ih _ hq

theorem countsTicked_eq (d : Device) :
    countsTicked d = allSites.foldl (fun d i => d.onSite i (Site.tickCounts d.base.quiesced)) d := by
  unfold countsTicked forSites
  rfl

theorem countsTicked_rest (d : Device) : { countsTicked d with sites := d.sites } = d := by
  have hrest := foldl_onSite_rest (fun _ => Site.tickCounts d.base.quiesced) allSites d
  rw [countsTicked_eq, foldl_onSite_quiesced Site.tickCounts allSites d rfl]
  exact hrest

theorem countsTicked_base (d : Device) : (countsTicked d).base = d.base := by
  have hbase := congrArg Device.base (countsTicked_rest d)
  exact hbase

theorem countsTicked_table (d : Device) : (countsTicked d).table = d.table := by
  have htable := congrArg Device.table (countsTicked_rest d)
  exact htable

theorem countsTicked_site (d : Device) (i : SiteId) :
    (countsTicked d).site i = (d.site i).tickCounts d.base.quiesced := by
  have hsite := foldl_onSite_site (fun _ => Site.tickCounts d.base.quiesced) allSites_nodup d i
  rw [countsTicked_eq, foldl_onSite_quiesced Site.tickCounts allSites d rfl, hsite, if_pos (mem_allSites i)]

theorem ackTick_eq_zero {t : AckTimer} (h : t.tick = .running 0) : ∃ n, t = .running n ∧ n ≤ 1 := by
  cases t with
  | running n => exact ⟨n, rfl, Nat.le_of_sub_eq_zero (AckTimer.running.inj h)⟩
  | stopped => cases h
  | held => cases h

theorem gateTick_eq_zero {g : Gate} (h : g.tick = .wait 0) : ∃ n, g = .wait n ∧ n ≤ 1 := by
  cases g with
  | wait n => exact ⟨n, rfl, Nat.le_of_sub_eq_zero (Gate.wait.inj h)⟩
  | idle => cases h
  | bypass => cases h

/-- No count stands at 0 after the tick. -/
theorem tickCounts_on {st : Site} (h : st.CountsOn) (q : Bool) : (st.tickCounts q).tgt.gate ≠ .wait 0 ∧
    (st.tickCounts q).win.ackTimer ≠ .running 0 ∧ (st.tickCounts q).win.probeTimer ≠ some 0 := by
  obtain ⟨hack, hprobe, hgate⟩ := h
  refine ⟨fun hg => ?_, fun ha => ?_, fun hp => ?_⟩
  · by_cases hc : q = true ∨ st.win.link = .halted
    · rw [Site.tickCounts, if_pos hc] at hg
      exact absurd (hgate 0 hg) (by omega)
    · rw [Site.tickCounts, if_neg hc] at hg
      obtain ⟨n, hn, hle⟩ := gateTick_eq_zero hg
      exact absurd (hgate n hn) (by omega)
  · obtain ⟨n, hn, hle⟩ := ackTick_eq_zero ha
    exact absurd (hack n hn) (by omega)
  · obtain ⟨n, hn, hz⟩ := Option.map_eq_some_iff.1 hp
    exact absurd (hprobe n hn) (by omega)

theorem expireSite_same {i : SiteId} {d : Device} (hg : (d.site i).tgt.gate ≠ .wait 0)
    (ha : (d.site i).win.ackTimer ≠ .running 0) (hp : (d.site i).win.probeTimer ≠ some 0) : expireSite i d = d := by
  simp only [expireSite, hg, ha, hp, if_false]

theorem expireSites_same {d : Device} (h : ∀ i, (d.site i).CountsOn) :
    forSites expireSite (countsTicked d) = countsTicked d := by
  unfold forSites
  refine foldl_same fun i => ?_
  obtain ⟨hg, ha, hp⟩ := tickCounts_on (h i) d.base.quiesced
  rw [← countsTicked_site] at hg ha hp
  exact expireSite_same hg ha hp

/-- What a 100 ms tick at which no count runs out does: the counts, the clock, and the release unit. -/
theorem tick100_of_on {d : Device} (h : ∀ i, (d.site i).CountsOn) :
    tick100 d = tickRelease (countsTicked d) := by
  have hexp := expireSites_same h
  have heq : tick100 d = tickRelease (forSites expireSite (countsTicked d)) := by
    unfold tick100 countsTicked
    rfl
  rw [heq, hexp]

/-! ## The release unit with nothing to release -/

theorem evaluate_same {d : Device} (test : PageVersion → Bool) (h : ∀ v ∈ d.table, v.state ≠ .approved) :
    evaluate test d = d := by
  have hnone : (d.table.filter fun v => test v && d.releasable v) = [] := by
    refine List.filter_eq_nil_iff.2 fun v hv => ?_
    simp only [Device.releasable, h v hv, decide_false, Bool.false_and, Bool.and_false]
    decide
  unfold evaluate
  rw [hnone]
  rfl

theorem latestCheck_same {d : Device} (h : ∀ v ∈ d.table, v.state ≠ .released) : latestCheck d = d := by
  have hnone : (d.table.filter fun v => decide (v.state = .released) && v.latest.any d.base.clock.reached) = [] := by
    refine List.filter_eq_nil_iff.2 fun v hv => ?_
    simp only [h v hv, decide_false, Bool.false_and]
    decide
  unfold latestCheck
  rw [hnone]
  rfl

theorem tickRelease_same {d : Device} (h : ∀ v ∈ d.table, v.state ≠ .approved ∧ v.state ≠ .released) :
    tickRelease d = { d with base := d.base.clockTicked } := by
  rw [tickRelease_eq]
  split
  · rfl
  · have heval := evaluate_same (d := { d with base := d.base.clockTicked }) (fun v => v.releaseAt.isSome)
      fun v hv => (h v hv).1
    rw [heval]
    exact latestCheck_same fun v hv => (h v hv).2

/-! ## The marks of the latest check (R73) -/

section
variable {e : Device} {u : Nat} {i : SiteId} {v : PageVersion}

theorem lateAt_iff : e.lateAt v i = true ↔
    ((v.at i).state = .queued ∨ (v.at i).state = .sending ∨ (v.at i).state = .failed) ∧ (v.at i).late = false ∧
      (e.site i).absent = false := by
  simp only [Device.lateAt, Bool.and_eq_true, Bool.or_eq_true, decide_eq_true_eq, Bool.not_eq_true', and_assoc,
    or_assoc]

theorem markLate_same (hv : e.record u = some v) (h : ¬e.lateAt v i = true) : markLate u i e = e := by
  simp only [markLate, hv, if_neg h]

theorem markLate_late (hv : e.record u = some v) (h : e.lateAt v i = true) : markLate u i e =
    raise i (.late v.key v.version e.base.clock.count) (e.onDelivery u i fun r => { r with late := true }) := by
  simp only [markLate, hv, if_pos h]

end

/-! ## Devices that agree -/

theorem device_ext {x y : Device} (hrest : { x with base := y.base, sites := y.sites } = y) (hb : x.base = y.base)
    (hs : ∀ i : SiteId, x.site i = y.site i) : x = y := by
  obtain ⟨b, o, t, r, rc, st, sites, bu, p, f, se, fr⟩ := x
  have hsites : sites = y.sites := table_ext hs
  subst hsites
  subst hb
  exact hrest

/-- The device of a tick at which no count runs out, before the release unit. -/
theorem eq_countsTicked {d x : Device} (hrest : { x with base := d.base, sites := d.sites } = d)
    (hb : x.base = d.base.clockTicked) (hs : ∀ i : SiteId, x.site i = (d.site i).tickCounts d.base.quiesced) :
    x = { countsTicked d with base := d.base.clockTicked } := by
  have hcounts := countsTicked_rest d
  have hsite := countsTicked_site d
  generalize countsTicked d = y at hcounts hsite
  refine device_ext ?_ hb fun i => (hs i).trans (hsite i).symm
  have hx := congrArg (fun z : Device => { z with base := d.base.clockTicked, sites := y.sites }) hrest
  have hy := congrArg (fun z : Device => { z with base := d.base.clockTicked, sites := y.sites }) hcounts
  exact hx.trans hy.symm

/-- Settles O7. -/
theorem tick100msCountsTheClockAndTimers : Obligations.Tick100msCountsTheClockAndTimers := by
  unfold Obligations.Tick100msCountsTheClockAndTimers
  intro s
  have hbase : (tick100 s.dev).base = s.dev.base.clockTicked := (pacing_tick100 s.dev).1.base
  refine ⟨tick100 s.dev, rfl, ?_, fun hon htable => ?_, fun hon x hrest hb hsite => ?_, fun e => ?_,
    fun e u i v hv => ⟨fun hq hs hf => ?_, fun h => ?_, fun hstate hlate hlink hclosing => ?_⟩,
    fun e i det selected hsel => ⟨fun h => ?_, fun hlink hclosing => ?_⟩, fun n => ⟨rfl, rfl, rfl, rfl, rfl, rfl⟩⟩
  · rw [hbase, Base.clockTicked, tick_eq]
  · have hcounts := countsTicked_rest s.dev
    have hcsite := countsTicked_site s.dev
    rw [tick100_of_on hon, tickRelease_same (by rw [countsTicked_table]; exact htable)]
    generalize countsTicked s.dev = y at hcounts hcsite
    exact ⟨congrArg (fun z : Device => { z with base := s.dev.base }) hcounts, hcsite⟩
  · have hx := eq_countsTicked hrest (hb.trans hbase) hsite
    have hunset : s.dev.base.clock.tick.unset = s.dev.base.clock.unset := by
      rw [Clock.tick]; split <;> rfl
    rw [tick100_of_on hon, tickRelease_eq, countsTicked_base, hunset, hx]
  · unfold latestCheck forSites
    rfl
  · refine markLate_same hv fun h => ?_
    obtain ⟨hq' | hs' | hf', -, -⟩ := lateAt_iff.1 h
    · exact hq hq'
    · exact hs hs'
    · exact hf hf'
  · refine markLate_same hv fun hl => ?_
    obtain ⟨-, hlate, habsent⟩ := lateAt_iff.1 hl
    obtain ⟨hdisabled, hclosing⟩ := (absent_eq_false _).1 habsent
    rcases h with h | h | h
    · rw [hlate] at h; cases h
    · exact hdisabled h
    · rw [hclosing] at h; cases h
  · exact markLate_late hv (lateAt_iff.2 ⟨hstate, hlate, (absent_eq_false _).2 ⟨hlink, hclosing⟩⟩)
  · exact (raise_of_absent ((absent_iff _).2 h)).2
  · have habsent := (absent_eq_false _).2 ⟨hlink, hclosing⟩
    refine ⟨fun h => ?_, fun h hl => ?_, fun h hl => ?_⟩
    · exact (raise_of_action habsent (hsel ▸ h)).2
    · exact (raise_of_halted habsent (hsel ▸ h) hl).2
    · rw [(raise_of_halt habsent (hsel ▸ h) hl).2]
      exact onSite_congr rfl

end Sys2Proof.Machine
end

section
/-!
SUPPORT. QUIESCE and RESUME: the timers of every site follow the flag, and each site looks for a page start (R113,
R145, R149, R171, R174, R200).
-/

namespace Sys2Proof.Machine
open Sys2Proof.Laws

/-! ## The busy ports (R200) -/

theorem getLsbD_port (p : PortId) (k : Nat) : (1#8 <<< p.val).getLsbD k = true ↔ p.val = k := by
  have hp := p.isLt
  rw [← BitVec.twoPow_eq, BitVec.getLsbD_twoPow, Bool.and_eq_true, decide_eq_true_eq, decide_eq_true_eq]
  omega

theorem foldl_busyPorts (d : Device) (l : List PortId) (b : Byte) (k : Nat) :
    (l.foldl (fun b p => if (d.port p).tx.isSome then b ||| (1#8 <<< p.val) else b) b).getLsbD k = true ↔
      b.getLsbD k = true ∨ ∃ p ∈ l, p.val = k ∧ (d.port p).tx ≠ none := by
  induction l generalizing b with
  | nil => simp
  | cons p l ih =>
    rw [List.foldl_cons, ih, exists_cons_iff, ← or_assoc, ← Option.isSome_iff_ne_none]
    refine or_congr_left ?_
    split
    case isTrue h => simp only [BitVec.getLsbD_or, Bool.or_eq_true, getLsbD_port, h, and_true]
    case isFalse h => simp only [h, Bool.false_eq_true, and_false, or_false]

theorem busyPorts_iff (d : Device) (k : Nat) :
    d.busyPorts.getLsbD k = true ↔ ∃ p : PortId, p.val = k ∧ (d.port p).tx ≠ none := by
  have hzero : (0 : Byte).getLsbD k = false := BitVec.getLsbD_zero
  unfold Device.busyPorts
  rw [foldl_busyPorts, hzero]
  simp only [Bool.false_eq_true, false_or, mem_allFour, true_and]

/-! ## The timers under the flag -/

/-- A site whose timers follow the conditions they run under. -/
def Site.synced (q : Bool) (st : Site) : Site :=
  { st with win := { st.win with ackTimer := syncAck q st, probeTimer := syncProbe q st } }

theorem syncTimers_synced (i : SiteId) (d : Device) :
    syncTimers i d = d.onSite i (Site.synced d.base.quiesced) := rfl

theorem forSites_syncTimers (d : Device) :
    forSites syncTimers d = allSites.foldl (fun d i => d.onSite i (Site.synced d.base.quiesced)) d := by
  unfold forSites
  simp only [syncTimers_synced]

theorem synced_quiesced (st : Site) : st.synced true = { st with win := { st.win with
    ackTimer := if st.win.ackTimer = .held ∧ st.win.link = .active ∧ st.win.closing = false ∧ st.win.ranks ≠ []
      then .held else .stopped
    probeTimer := none } } := by
  have hrun : ackMayRun true st = false :=
    eq_false_of_ne_true fun h => by obtain ⟨-, -, -, -, hq⟩ := (ackMayRun_iff _ _).1 h; cases hq
  simp only [Site.synced, syncAck_stops hrun, syncProbe_eq, Bool.true_eq_false, and_false, if_false]

theorem applyQuiesce_eq (d : Device) : ∃ e : Device,
    applyQuiesce d = (e, { result := .ok, flags := { changed := !d.base.quiesced }, data := [d.busyPorts] }) ∧
    { e with base := d.base, sites := d.sites } = d ∧ e.base = { d.base with quiesced := true } ∧
    ∀ i, e.site i = (d.site i).synced true := by
  have hfold := (forSites_syncTimers (d.setQuiesced true)).trans
    (foldl_onSite_quiesced Site.synced allSites (d.setQuiesced true) (q := true) rfl)
  have hrest := foldl_onSite_rest (fun _ => Site.synced true) allSites (d.setQuiesced true)
  have hsite := fun i => (foldl_onSite_site (fun _ => Site.synced true) allSites_nodup (d.setQuiesced true) i).trans
    (if_pos (mem_allSites i))
  rw [← hfold] at hrest
  simp only [← hfold] at hsite
  unfold applyQuiesce
  generalize forSites syncTimers (d.setQuiesced true) = e at hrest hsite
  have hbase := congrArg Device.base hrest
  exact ⟨e, rfl, congrArg (fun x : Device => { x with base := d.base }) hrest, hbase, hsite⟩

/-! ## RESUME, site by site -/

/-- A site at the end of quiescence, before its page start. -/
def Site.unquiesced (st : Site) : Site :=
  Site.synced false { st with
    pace := st.pace.refillGap st.cfg.gapLength
    tgt := { st.tgt with gate := st.tgt.gate.refill st.cfg.gateTimeout } }

theorem unquiesceSite_eq {d : Device} (hq : d.base.quiesced = false) (i : SiteId) :
    unquiesceSite i d = lookPageStart i (d.onSite i Site.unquiesced) := by
  refine congrArg (lookPageStart i) ?_
  rw [syncTimers_synced, onSite_onSite]
  exact onSite_congr (by rw [Site.unquiesced, ← hq]; rfl)

theorem forSites_unquiesceSite {d : Device} (hq : d.base.quiesced = false) :
    forSites unquiesceSite d = allSites.foldl (fun x i => lookPageStart i (x.onSite i Site.unquiesced)) d := by
  unfold forSites
  generalize allSites = l
  induction l generalizing d with
  | nil => rfl
  | cons i l ih =>
    rw [List.foldl_cons, List.foldl_cons, unquiesceSite_eq hq]
    refine ih ?_
    rw [(keeps_lookPageStart i _).base]
    exact hq

/-- What every look for a page start makes of its site holds after all of them, of the site as it was. -/
theorem foldl_lookPageStart {P : Site → Site → Prop} {f : Site → Site} {j : SiteId} {l : List SiteId}
    (hP : ∀ x : Device, P (x.site j) ((lookPageStart j x).site j)) (hl : l.Nodup) (hj : j ∈ l) (d : Device) :
    P (f (d.site j)) ((l.foldl (fun x i => lookPageStart i (x.onSite i f)) d).site j) := by
  induction l generalizing d with
  | nil => cases hj
  | cons i l ih =>
    obtain ⟨hi, hl⟩ := List.nodup_cons.1 hl
    rw [List.foldl_cons]
    by_cases h : j = i
    · subst h
      have hrest : ∀ (x : Device) (m : List SiteId), j ∉ m →
          (m.foldl (fun x i => lookPageStart i (x.onSite i f)) x).site j = x.site j := fun x m hm => by
        induction m generalizing x with
        | nil => rfl
        | cons k m ihm =>
          rw [List.mem_cons, not_or] at hm
          rw [List.foldl_cons, ihm _ hm.2, site_lookPageStart_ne hm.1, site_onSite_ne _ hm.1]
      have hstart := hP (d.onSite j f)
      rw [site_onSite_same] at hstart
      rw [hrest _ l hi]
      exact hstart
    · have hrest := ih hl ((List.mem_cons.1 hj).resolve_left h) (lookPageStart i (d.onSite i f))
      rw [site_lookPageStart_ne h, site_onSite_ne d h] at hrest
      exact hrest

/-! ## A waiting gate at a look for a page start (R112) -/

theorem takeHead_gate (i : SiteId) (d : Device) : ((takeHead i d).site i).tgt = (d.site i).tgt := by
  unfold takeHead
  split
  · simp only [onDelivery_site, onQueue_tgt]
    rfl
  · rfl

theorem switchCurves_gate (i : SiteId) (a : Arm) (b : Bool) (d : Device) :
    ((switchCurves i a b d).site i).tgt = (d.site i).tgt := by
  unfold switchCurves
  dsimp only
  split <;> simp

/-- A page start is made with the arm's target acknowledged. -/
def Site.opensGate (st : Site) : Prop :=
  st.startReady = true ∧ ∃ a : Arm, st.tone.arm = some a ∧ a.gated = true ∧
    (st.target a.stock).ackedGen = (st.target a.stock).latestGen

theorem lookPageStart_opens {i : SiteId} {d : Device} (h : (d.site i).opensGate) :
    ((lookPageStart i d).site i).tgt.gate = .idle := by
  obtain ⟨hready, a, ha, hg, hk⟩ := h
  rw [lookPageStart_acked hready ha hg hk, takeHead_gate, switchCurves_gate, setGate, site_onTgt_same]

theorem lookPageStart_waits {i : SiteId} {d : Device} {n : Nat} (hw : (d.site i).tgt.gate = .wait n)
    (h : ¬(d.site i).opensGate) : ((lookPageStart i d).site i).tgt.gate = .wait n := by
  by_cases hready : (d.site i).startReady = true
  · cases ha : (d.site i).tone.arm with
    | none => rw [lookPageStart_unarmed hready ha, takeHead_gate, hw]
    | some a =>
      cases hg : a.gated with
      | false => rw [lookPageStart_ungated hready ha hg, takeHead_gate, switchCurves_gate, hw]
      | true =>
        have hk : ((d.site i).target a.stock).ackedGen ≠ ((d.site i).target a.stock).latestGen := fun hk =>
          h ⟨hready, a, ha, hg, hk⟩
        rw [(lookPageStart_gated hready ha hg hk).2.1 n hw, hw]
  · rw [lookPageStart, if_neg hready, hw]

/-! ## The restart of the statement -/

theorem syncAck_awake (st : Site) : syncAck false st =
    if st.win.link = .active ∧ st.win.closing = false ∧ st.win.ranks ≠ [] ∧
      (st.win.ackTimer = .held ∨ ¬((st.cfg.flow = .obey ∨ st.cfg.flow = .gapObey) ∧ st.pace.ready = false))
    then (if st.win.ackTimer = .stopped then .running st.cfg.ackTimeout else st.win.ackTimer) else .stopped := by
  by_cases hrun : ackMayRun false st = true
  · obtain ⟨hlink, hclosing, hranks, hpaused, -⟩ := (ackMayRun_iff _ _).1 hrun
    rw [syncAck_runs hrun]
    exact (if_pos ⟨hlink, hclosing, hranks, .inr hpaused⟩).symm
  · have hnot := fun hl hc hr hp => hrun ((ackMayRun_iff false st).2 ⟨hl, hc, hr, hp, rfl⟩)
    rw [syncAck_stops (eq_false_of_ne_true hrun)]
    by_cases hheld : st.win.ackTimer = .held ∧ st.win.link = .active ∧ st.win.closing = false ∧ st.win.ranks ≠ []
    · obtain ⟨ht, hl, hc, hr⟩ := hheld
      rw [if_pos ⟨ht, hl, hc, hr⟩, if_pos ⟨hl, hc, hr, .inl ht⟩, ht, if_neg (by simp)]
    · rw [if_neg hheld, if_neg]
      rintro ⟨hl, hc, hr, ht | hp⟩
      · exact hheld ⟨ht, hl, hc, hr⟩
      · exact hnot hl hc hr hp

theorem startReady_unquiesced (st : Site) : st.unquiesced.startReady = true ↔
    st.win.link = .active ∧ st.win.closing = false ∧ st.q.current = none ∧ st.q.control = [] ∧ st.q.queue ≠ [] ∧
      (st.pace.gap = none ∨ st.cfg.gapLength = 0) ∧
      st.win.ranks.length + (if st.win.prepared = none then 0 else 1) < 16 := by
  have hgap : st.unquiesced.pace.gap = none ↔ st.pace.gap = none ∨ st.cfg.gapLength = 0 := by
    have heq : st.unquiesced.pace.gap = st.pace.gap.bind fun _ =>
      if st.cfg.gapLength = 0 then none else some st.cfg.gapLength := rfl
    rw [heq]
    cases st.pace.gap with
    | none => simp
    | some n => by_cases hz : st.cfg.gapLength = 0 <;> simp [hz]
  have hcount : st.unquiesced.win.count = st.win.ranks.length + (if st.win.prepared = none then 0 else 1) := by
    have heq : st.unquiesced.win.count = st.win.ranks.length + (if st.win.prepared.isSome then 1 else 0) := rfl
    rw [heq]
    cases st.win.prepared <;> rfl
  rw [startReady_iff, hgap, hcount]
  rfl

theorem opensGate_unquiesced (st : Site) : st.unquiesced.opensGate ↔
    st.win.link = .active ∧ st.win.closing = false ∧ st.q.current = none ∧ st.q.control = [] ∧ st.q.queue ≠ [] ∧
      (st.pace.gap = none ∨ st.cfg.gapLength = 0) ∧
      st.win.ranks.length + (if st.win.prepared = none then 0 else 1) < 16 ∧
      ∃ a : Arm, st.tone.arm = some a ∧ a.gated = true ∧
        (st.target a.stock).ackedGen = (st.target a.stock).latestGen := by
  rw [Site.opensGate, startReady_unquiesced]
  simp only [and_assoc]
  rfl

theorem applyResume_quiesced {d : Device} (h : d.base.quiesced = true) : applyResume d =
    (arbitrate (allSites.foldl (fun x i => lookPageStart i (x.onSite i Site.unquiesced)) (d.setQuiesced false)),
      { result := .ok, flags := { changed := true } }) := by
  have hrun : applyResume d =
      (arbitrate (forSites unquiesceSite (d.setQuiesced false)), { result := .ok, flags := { changed := true } }) :=
    if_pos h
  rw [hrun, forSites_unquiesceSite rfl]

/-- Settles O47. -/
theorem quiesceStopsAndResumeRestarts : Obligations.QuiesceStopsAndResumeRestarts := by
  unfold Obligations.QuiesceStopsAndResumeRestarts
  intro s tag hr
  refine ⟨busyPorts_iff s.dev, ?_, fun hq => ?_, fun d restart hq hrestart hd => ?_⟩
  · obtain ⟨e, hx, hrest, hbase, hsite⟩ := applyQuiesce_eq s.dev
    refine ⟨e, ?_, hrest, hbase, fun i => (hsite i).trans (synced_quiesced _)⟩
    have hflag : decide (s.dev.base.quiesced = false) = !s.dev.base.quiesced := by
      cases s.dev.base.quiesced <;> rfl
    rw [hflag]
    exact onCommand_answer hr hx
  · have hx : applyResume s.dev = (s.dev, { result := .ok }) := if_neg (by rw [hq]; simp)
    exact onCommand_answer hr hx
  · have hst : restart = Site.unquiesced := by
      funext st
      have hack := syncAck_awake st
      have hprobe := syncProbe_eq false st
      rw [hrestart, ← hack]
      have hprobe' : syncProbe false st = if st.win.link = .linkLost ∧ st.win.closing = false
          then some (st.win.probeTimer.getD (4 * st.cfg.ackTimeout)) else none := by rw [hprobe]; simp
      rw [← hprobe']
      obtain ⟨cfg, q, win, tone, tgt, pace, halt⟩ := st
      obtain ⟨targets, offsets, gate⟩ := tgt
      cases gate <;> rfl
    rw [hst] at hd ⊢
    refine ⟨?_, fun i => ?_⟩
    · rw [hd]
      exact onCommand_answer hr (applyResume_quiesced hq)
    · have hlinks := foldl_lookPageStart (f := Site.unquiesced)
        (P := fun a b => b.cfg = a.cfg ∧ b.win = a.win ∧ b.pace = a.pace ∧ b.halt = a.halt)
        (fun x => links_lookPageStart i x i) allSites_nodup (mem_allSites i) (s.dev.setQuiesced false)
      have hgates := foldl_lookPageStart (f := Site.unquiesced)
        (P := fun a b => (a.opensGate → b.tgt.gate = .idle) ∧
          ∀ n : Nat, a.tgt.gate = .wait n → ¬a.opensGate → b.tgt.gate = .wait n)
        (fun x => ⟨lookPageStart_opens, fun n hw hn => lookPageStart_waits hw hn⟩) allSites_nodup (mem_allSites i)
        (s.dev.setQuiesced false)
      have hd' : d = allSites.foldl (fun x i => lookPageStart i (x.onSite i Site.unquiesced))
        (s.dev.setQuiesced false) := hd
      rw [← hd'] at hlinks hgates
      obtain ⟨hcfg, hwin, hpace, -⟩ := hlinks
      obtain ⟨hopen, hwait⟩ := hgates
      refine ⟨hcfg, hwin, hpace, fun n starts hg hstarts => ?_⟩
      have hrefilled : (s.dev.site i).unquiesced.tgt.gate = .wait (10 * (s.dev.site i).cfg.gateTimeout) := by
        have heq : (s.dev.site i).unquiesced.tgt.gate =
          (s.dev.site i).tgt.gate.refill (s.dev.site i).cfg.gateTimeout := rfl
        rw [heq, hg]
        rfl
      have hiff := hstarts.trans (opensGate_unquiesced (s.dev.site i)).symm
      exact ⟨fun h => hwait _ hrefilled fun ho => h (hiff.2 ho), fun h => hopen (hiff.1 h)⟩

end Sys2Proof.Machine
end

section
/-!
SUPPORT. DAY RESET: every site on its own, with the owed TARGETs posted again into its empty control list (R108, R201).
-/

namespace Sys2Proof.Machine
open Sys2Proof.Laws

/-! ## The owed postings as changes of one site (R108) -/

/-- A site with the target record of a stock changed. -/
def Site.onRecordOf (st : Site) (k : Stock) (f : TargetRecord → TargetRecord) : Site :=
  { st with tgt := { st.tgt with records := modifyAt st.tgt.records k f } }

theorem target_onRecordOf (st : Site) (k j : Stock) (f : TargetRecord → TargetRecord) :
    (st.onRecordOf k f).target j = if j = k then f (st.target k) else st.target j :=
  entryOf_modifyAt st.tgt.records k j f

/-- A stock whose latest target is not acknowledged, and which has no TARGET entry, becomes owed. -/
def Site.owing (k : Stock) (st : Site) : Site :=
  if (st.target k).ackedGen = (st.target k).latestGen then st
  else if st.q.control.any (·.isTarget k) then st
  else st.onRecordOf k fun r => { r with owed := true }

/-- The TARGET entry of a stock's latest target. -/
def Site.owedEntry (st : Site) (k : Stock) : ControlEntry :=
  .target k (st.target k).latestGen ((st.target k).aims.getD Aims.zero)

/-- An owed TARGET is posted where the control list has room. -/
def Site.owedPosted (k : Stock) (st : Site) : Site :=
  if (st.target k).owed && st.controlRoom then
    { st.onRecordOf k (fun r => { r with owed := false }) with
      q := { st.q with control := st.q.control ++ [st.owedEntry k] } }
  else st

theorem owing_step (i : SiteId) (k : Stock) (d : Device) :
    (if ((d.site i).target k).ackedGen = ((d.site i).target k).latestGen then d
      else if (d.site i).q.control.any (·.isTarget k) then d
      else d.onTarget i k fun r => { r with owed := true }) = d.onSite i (Site.owing k) := by
  split
  case isTrue h =>
    exact (onSite_self (by simp only [Site.owing, if_pos h])).symm
  case isFalse h =>
    split
    case isTrue hany =>
      exact (onSite_self (by simp only [Site.owing, if_neg h, if_pos hany])).symm
    case isFalse hany => exact onSite_congr (by simp only [Site.owing, if_neg h, if_neg hany]; rfl)

theorem postOwedStock_eq (i : SiteId) (k : Stock) (d : Device) :
    postOwedStock i k d = d.onSite i (Site.owedPosted k) := by
  unfold postOwedStock
  dsimp only
  split
  case isTrue h =>
    rw [appendControl, Device.onQueue, Device.onTarget, Device.onTgt, onSite_onSite]
    exact onSite_congr (by simp only [Site.owedPosted, if_pos h]; rfl)
  case isFalse h =>
    exact (onSite_self (by simp only [Site.owedPosted, if_neg h])).symm

theorem foldl_onSite_same {α : Type} (i : SiteId) (g : α → Site → Site) (l : List α) (d : Device) :
    l.foldl (fun d a => d.onSite i (g a)) d = d.onSite i fun st => l.foldl (fun st a => g a st) st := by
  induction l generalizing d with
  | nil => exact (onSite_self rfl).symm
  | cons a l ih => rw [List.foldl_cons, ih, onSite_onSite]; rfl

/-- A site once its unacknowledged stocks are owed and the owed ones posted. -/
def Site.owesUnacknowledged (st : Site) : Site :=
  allFour.foldl (fun st k => st.owedPosted k) (allFour.foldl (fun st k => st.owing k) st)

theorem oweUnacknowledged_eq (i : SiteId) (d : Device) :
    oweUnacknowledged i d = d.onSite i Site.owesUnacknowledged := by
  unfold oweUnacknowledged postOwed
  simp only [owing_step, postOwedStock_eq]
  rw [foldl_onSite_same, foldl_onSite_same, onSite_onSite]
  rfl

/-! ## What they leave of the site -/

/-- Nothing of a site changed but its control list and which stocks are owed. -/
def Site.KeepsButOwed (a b : Site) : Prop :=
  b = { a with q := { a.q with control := b.q.control }, tgt := { a.tgt with records := b.tgt.records } } ∧
    ∀ j : Stock, b.target j = { a.target j with owed := (b.target j).owed }

theorem keepsButOwed_refl (a : Site) : a.KeepsButOwed a := ⟨rfl, fun _ => rfl⟩

theorem keepsButOwed_trans {a b c : Site} (h : a.KeepsButOwed b) (k : b.KeepsButOwed c) : a.KeepsButOwed c := by
  refine ⟨?_, fun j => ?_⟩
  · obtain ⟨h, -⟩ := h
    obtain ⟨k, -⟩ := k
    rw [k, h]
  · rw [k.2 j, h.2 j]

theorem keepsButOwed_foldl {g : Stock → Site → Site} (h : ∀ (k : Stock) (st : Site), st.KeepsButOwed (g k st))
    (l : List Stock) (st : Site) : st.KeepsButOwed (l.foldl (fun st k => g k st) st) := by
  induction l generalizing st with
  | nil => exact keepsButOwed_refl st
  | cons k l ih => exact keepsButOwed_trans (h k st) (ih _)

theorem keepsButOwed_onRecordOf (st : Site) (k : Stock) (b : Bool) (c : List ControlEntry) :
    st.KeepsButOwed { st.onRecordOf k (fun r => { r with owed := b }) with q := { st.q with control := c } } := by
  refine ⟨rfl, fun j => ?_⟩
  have htarget := target_onRecordOf st k j fun r => { r with owed := b }
  refine Eq.trans htarget ?_
  by_cases hj : j = k
  · subst hj
    rw [if_pos rfl]
    exact congrArg (fun o => { st.target j with owed := o }) (by
      refine Eq.symm (congrArg TargetRecord.owed (htarget.trans (if_pos rfl))))
  · rw [if_neg hj]
    exact congrArg (fun o => { st.target j with owed := o }) (by
      refine Eq.symm (congrArg TargetRecord.owed (htarget.trans (if_neg hj))))

theorem keepsButOwed_owing (k : Stock) (st : Site) : st.KeepsButOwed (st.owing k) := by
  unfold Site.owing
  split
  · exact keepsButOwed_refl st
  · split
    · exact keepsButOwed_refl st
    · exact keepsButOwed_onRecordOf st k true st.q.control

theorem keepsButOwed_owedPosted (k : Stock) (st : Site) : st.KeepsButOwed (st.owedPosted k) := by
  unfold Site.owedPosted
  split
  · exact keepsButOwed_onRecordOf st k false _
  · exact keepsButOwed_refl st

/-! ## The entries posted -/

/-- The stock's latest target is not acknowledged, or it is owed. -/
def TargetRecord.due (r : TargetRecord) : Bool := r.owed || decide (r.ackedGen ≠ r.latestGen)

theorem foldl_owing {l : List Stock} (hl : l.Nodup) {st : Site} (hc : st.q.control = []) :
    (l.foldl (fun st k => st.owing k) st).q.control = [] ∧ ∀ j : Stock,
      ((l.foldl (fun st k => st.owing k) st).target j).owed =
        if j ∈ l then (st.target j).due else (st.target j).owed := by
  induction l generalizing st with
  | nil => exact ⟨hc, fun _ => rfl⟩
  | cons k l ih =>
    obtain ⟨hk, hl⟩ := List.nodup_cons.1 hl
    have hone : (st.owing k).q.control = [] ∧ ∀ j : Stock, ((st.owing k).target j).owed =
        if j = k then (st.target j).due else (st.target j).owed := by
      by_cases hg : (st.target k).ackedGen = (st.target k).latestGen
      · have hsame : st.owing k = st := if_pos hg
        rw [hsame]
        refine ⟨hc, fun j => ?_⟩
        split
        case isTrue h => subst h; simp only [TargetRecord.due, hg, ne_eq, not_true, decide_false, Bool.or_false]
        case isFalse => rfl
      · have howed : st.owing k = st.onRecordOf k fun r => { r with owed := true } := by
          simp only [Site.owing, if_neg hg, hc, List.any_nil, Bool.false_eq_true, if_false]
        rw [howed]
        refine ⟨hc, fun j => ?_⟩
        rw [target_onRecordOf]
        split
        case isTrue h => subst h; simp only [TargetRecord.due, ne_eq, hg, not_false_iff, decide_true, Bool.or_true]
        case isFalse => rfl
    obtain ⟨hcontrol, htarget⟩ := hone
    obtain ⟨hrest, howed⟩ := ih hl hcontrol
    refine ⟨hrest, fun j => ?_⟩
    have hdue : j ≠ k → ((st.owing k).target j).due = (st.target j).due := fun hj => by
      have hkeep := (keepsButOwed_owing k st).2 j
      have hsame := htarget j
      rw [if_neg hj] at hsame
      rw [hkeep, hsame]
    rw [List.foldl_cons, howed]
    by_cases hj : j = k
    · subst hj
      rw [if_neg hk, if_pos List.mem_cons_self, htarget, if_pos rfl]
    · simp only [List.mem_cons, hj, false_or, hdue hj, htarget, if_false]

theorem foldl_owedPosted {l : List Stock} (hl : l.Nodup) {st : Site} (hc : st.q.control.length + l.length ≤ 16) :
    (l.foldl (fun st k => st.owedPosted k) st).q.control =
        st.q.control ++ (l.filter fun k => (st.target k).owed).map st.owedEntry ∧
      ∀ j ∈ l, ((l.foldl (fun st k => st.owedPosted k) st).target j).owed = false := by
  have hother : ∀ (m : List Stock) (st : Site) (j : Stock), j ∉ m →
      (m.foldl (fun st k => st.owedPosted k) st).target j = st.target j := fun m st j hj => by
    induction m generalizing st with
    | nil => rfl
    | cons k m ih =>
      rw [List.mem_cons, not_or] at hj
      rw [List.foldl_cons, ih _ hj.2, Site.owedPosted]
      split
      · exact (target_onRecordOf st k j _).trans (if_neg hj.1)
      · rfl
  induction l generalizing st with
  | nil => exact ⟨(List.append_nil _).symm, fun _ h => absurd h (by simp)⟩
  | cons k l ih =>
    obtain ⟨hk, hl⟩ := List.nodup_cons.1 hl
    rw [List.length_cons] at hc
    have htarget : ∀ j ∈ l, (st.owedPosted k).target j = st.target j := fun j hj => by
      have hne : j ∉ [k] := fun h => hk (List.mem_singleton.1 h ▸ hj)
      exact hother [k] st j hne
    have hfilter : (l.filter fun j => ((st.owedPosted k).target j).owed) = l.filter fun j => (st.target j).owed :=
      List.filter_congr fun j hj => by rw [htarget j hj]
    have hmap : (l.filter fun j => (st.target j).owed).map (st.owedPosted k).owedEntry =
        (l.filter fun j => (st.target j).owed).map st.owedEntry :=
      List.map_congr_left fun j hj => by
        simp only [Site.owedEntry, htarget j ((List.mem_filter.1 hj).1)]
    have hroom : st.controlRoom = true := (controlRoom_iff st).2 (by omega)
    cases ho : (st.target k).owed with
    | false =>
      have hsame : st.owedPosted k = st :=
        by simp only [Site.owedPosted, ho, Bool.false_and, Bool.false_eq_true, if_false]
      obtain ⟨hcontrol, howed⟩ := ih hl (st := st) (by omega)
      rw [List.foldl_cons, hsame, List.filter_cons_of_neg (by simp [ho])]
      refine ⟨hcontrol, fun j hj => ?_⟩
      rcases List.mem_cons.1 hj with hj | hj
      · subst hj; rw [hother l st j hk, ho]
      · exact howed j hj
    | true =>
      have hposted : st.owedPosted k = { st.onRecordOf k (fun r => { r with owed := false }) with
          q := { st.q with control := st.q.control ++ [st.owedEntry k] } } := by
        simp only [Site.owedPosted, ho, hroom, Bool.and_self, if_true]
      have hlen : (st.owedPosted k).q.control = st.q.control ++ [st.owedEntry k] := by rw [hposted]
      obtain ⟨hcontrol, howed⟩ := ih hl (st := st.owedPosted k) (by rw [hlen, List.length_append]; simp; omega)
      rw [List.foldl_cons, List.filter_cons_of_pos (by simpa using ho), List.map_cons]
      refine ⟨?_, fun j hj => ?_⟩
      · rw [hcontrol, hlen, hfilter, hmap, List.append_assoc]
        rfl
      · rcases List.mem_cons.1 hj with hj | hj
        · subst hj
          rw [hother l _ j hk, hposted]
          exact congrArg TargetRecord.owed ((target_onRecordOf st j j _).trans (if_pos rfl))
        · exact howed j hj

/-- The owed and unacknowledged stocks of a site with an empty control list are posted, in ascending stock. -/
theorem owesUnacknowledged_control {st : Site} (hc : st.q.control = []) :
    st.owesUnacknowledged.q.control = (allFour.filter fun k => (st.target k).due).map st.owedEntry ∧
      ∀ k : Stock, (st.owesUnacknowledged.target k).owed = false := by
  obtain ⟨hcontrol, howed⟩ := foldl_owing allFour_nodup hc
  have hkeep := keepsButOwed_foldl keepsButOwed_owing allFour st
  unfold Site.owesUnacknowledged
  generalize allFour.foldl (fun st k => st.owing k) st = x at hcontrol howed hkeep
  have hlen : x.q.control.length + allFour.length ≤ 16 := by rw [hcontrol]; decide
  obtain ⟨hposted, hnone⟩ := foldl_owedPosted allFour_nodup hlen
  refine ⟨?_, fun k => hnone k (mem_allFour k)⟩
  have hdue : (allFour.filter fun k => (x.target k).owed) = allFour.filter fun k => (st.target k).due :=
    List.filter_congr fun k hk => by rw [howed k, if_pos hk]
  have hentry : x.owedEntry = st.owedEntry := funext fun k => by
    rw [Site.owedEntry, hkeep.2 k]
    rfl
  rw [hposted, hcontrol, hdue, hentry, List.nil_append]

theorem owesUnacknowledged_keeps (st : Site) : st.KeepsButOwed st.owesUnacknowledged :=
  keepsButOwed_trans (keepsButOwed_foldl keepsButOwed_owing allFour st)
    (keepsButOwed_foldl keepsButOwed_owedPosted allFour _)

/-! ## DAY RESET at every site (R201) -/

/-- A site after DAY RESET. -/
def Site.nightEnded (st : Site) : Site :=
  if st.win.closing then st
  else if st.win.link = .disabled then st.dayResetDisabled
  else st.dayReset.owesUnacknowledged

theorem dayResetSite_eq (i : SiteId) (d : Device) : dayResetSite i d = d.onSite i Site.nightEnded := by
  unfold dayResetSite
  split
  case isTrue h => exact (onSite_self (by simp only [Site.nightEnded, if_pos h])).symm
  case isFalse h =>
    split
    case isTrue hl => exact onSite_congr (by simp only [Site.nightEnded, if_neg h, if_pos hl])
    case isFalse hl =>
      rw [oweUnacknowledged_eq, onSite_onSite]
      exact onSite_congr (by simp only [Site.nightEnded, if_neg h, if_neg hl])

/-- The part after DAY RESET but for its sites. -/
def nightForgotten (d : Device) : Device := (forgetNight d).markIf fun _ => true

theorem applyDayReset_eq (d : Device) : ∃ e : Device, applyDayReset d = (e, { result := .ok }) ∧
    { e with sites := d.sites } = nightForgotten d ∧ ∀ i, e.site i = (d.site i).nightEnded := by
  have hfold : forSites dayResetSite (nightForgotten d) =
      allSites.foldl (fun d i => d.onSite i Site.nightEnded) (nightForgotten d) := by
    unfold forSites
    simp only [dayResetSite_eq]
  have hrest := foldl_onSite_rest (fun _ => Site.nightEnded) allSites (nightForgotten d)
  have hsite := fun i => (foldl_onSite_site (fun _ => Site.nightEnded) allSites_nodup (nightForgotten d) i).trans
    (if_pos (mem_allSites i))
  rw [← hfold] at hrest
  simp only [← hfold] at hsite
  exact ⟨forSites dayResetSite (nightForgotten d), rfl, hrest, hsite⟩

theorem nightEnded_keeps (st : Site) : st.nightEnded.cfg = st.cfg ∧ st.nightEnded.tone.active = st.tone.active ∧
    st.nightEnded.tone.pending = st.tone.pending ∧ st.nightEnded.tone.arm = st.tone.arm ∧
    (∀ k : Stock, (st.nightEnded.target k).aims = (st.target k).aims ∧
      (st.nightEnded.target k).latestGen = (st.target k).latestGen ∧
      (st.nightEnded.target k).ackedGen = (st.target k).ackedGen) ∧
    st.nightEnded.tgt.offsets = st.tgt.offsets ∧ st.nightEnded.pace.active = st.pace.active ∧
    st.nightEnded.pace.staged = st.pace.staged ∧ st.nightEnded.pace.eCur = st.pace.eCur := by
  unfold Site.nightEnded
  split
  · exact ⟨rfl, rfl, rfl, rfl, fun _ => ⟨rfl, rfl, rfl⟩, rfl, rfl, rfl, rfl⟩
  · split
    · exact ⟨rfl, rfl, rfl, rfl, fun _ => ⟨rfl, rfl, rfl⟩, rfl, rfl, rfl, rfl⟩
    · obtain ⟨hkeep, htarget⟩ := owesUnacknowledged_keeps st.dayReset
      generalize st.dayReset.owesUnacknowledged = x at hkeep htarget
      have hx : ∀ k : Stock, (x.target k).aims = (st.target k).aims ∧
          (x.target k).latestGen = (st.target k).latestGen ∧ (x.target k).ackedGen = (st.target k).ackedGen :=
        fun k => by
          rw [htarget k]
          exact ⟨rfl, rfl, rfl⟩
      refine ⟨?_, ?_, ?_, ?_, hx, ?_, ?_, ?_, ?_⟩ <;> rw [hkeep] <;> rfl

theorem nightEnded_disabled {st : Site} (hc : st.win.closing = false) (hl : st.win.link = .disabled) :
    st.nightEnded = st.dayResetDisabled := by
  simp only [Site.nightEnded, hc, hl, Bool.false_eq_true, if_false, if_true]

theorem nightEnded_present {st : Site} (hc : st.win.closing = false) (hl : st.win.link ≠ .disabled) :
    st.nightEnded = st.dayReset.owesUnacknowledged := by
  simp only [Site.nightEnded, hc, hl, Bool.false_eq_true, if_false]

/-- Settles O48. -/
theorem dayResetDiscardsTheNight : Obligations.DayResetDiscardsTheNight := by
  unfold Obligations.DayResetDiscardsTheNight
  intro s tag hr
  obtain ⟨d, hx, hrest, hsite⟩ := applyDayReset_eq s.dev
  have hbase := congrArg Device.base hrest
  have htable := congrArg Device.table hrest
  have hretained := congrArg Device.retained hrest
  have hcount := congrArg Device.retainedCount hrest
  have horder := congrArg Device.orderCounter hrest
  have hstore := congrArg Device.store hrest
  have hports := congrArg Device.ports hrest
  have hfeed := congrArg Device.feed hrest
  have hcmds := congrArg Feed.cmds hfeed
  have hreplies := congrArg Feed.replies hfeed
  have hbuilder := congrArg Device.builder hrest
  refine ⟨d, onCommand_answer hr hx, ⟨htable, hretained, hcount, horder, hstore, hports⟩, hbase,
    ⟨congrArg Feed.events hfeed, congrArg Feed.overflow hfeed, congrArg Feed.overrun hfeed,
      hcmds, hreplies⟩, fun b w hw => ?_, fun p hp => ?_, fun i => ?_⟩
  · have hbuf : d.feed.buffers = s.dev.feed.buffers.map (dayResetMark s.dev) := congrArg Feed.buffers hfeed
    rw [hbuf, entryOf_map, hw, dayResetMark]
    split
    · exact ⟨_, rfl, rfl, rfl⟩
    · exact ⟨_, rfl, rfl, rfl⟩
  · have hfly : d.builder.inFlight = s.dev.builder.inFlight.map fun p => { p with discard := true } :=
      congrArg Builder.inFlight hbuilder
    rw [hfly, Option.mem_def, Option.map_eq_some_iff] at hp
    obtain ⟨q, -, rfl⟩ := hp
    rfl
  · rw [hsite i]
    generalize s.dev.site i = st
    obtain ⟨hcfg, hactive, hpending, harm, htargets, hoffsets, hpace⟩ := nightEnded_keeps st
    refine ⟨hcfg, hactive, hpending, harm, htargets, hoffsets, fun hc hl => ?_, fun hc hl => ?_, fun hc => if_pos hc,
      hpace, fun hc => ?_, fun hc => ?_⟩
    · rw [nightEnded_disabled hc hl]
      exact ⟨rfl, fun _ => rfl⟩
    · obtain ⟨hcontrol, howed⟩ := owesUnacknowledged_control (st := st.dayReset) rfl
      rw [nightEnded_present hc hl]
      refine ⟨hcontrol.trans ?_, howed⟩
      refine congrArg (List.map _) (List.filter_congr fun k _ => ?_)
      have hdue : (st.dayReset.target k).due =
        ((st.target k).owed || decide ((st.target k).ackedGen ≠ (st.target k).latestGen)) := rfl
      rw [hdue, Bool.decide_or, Bool.decide_eq_true]
    · by_cases hl : st.win.link = .disabled
      · rw [nightEnded_disabled hc hl, if_pos hl]
        rfl
      · rw [nightEnded_present hc hl, if_neg hl, (owesUnacknowledged_keeps st.dayReset).1, ← hc]
        rfl
    · by_cases hl : st.win.link = .disabled
      · rw [nightEnded_disabled hc hl]
        exact ⟨rfl, rfl, rfl, rfl, rfl, rfl, rfl, rfl, rfl, rfl, fun h => absurd hl h⟩
      · rw [nightEnded_present hc hl, (owesUnacknowledged_keeps st.dayReset).1]
        exact ⟨rfl, rfl, rfl, rfl, rfl, rfl, rfl, rfl, rfl, rfl, fun _ => rfl⟩

end Sys2Proof.Machine
end

section
/-!
SUPPORT. DISABLE SITE: the cancellations of the site's deliveries, one after another, and the site they leave (R105,
R126, R133, R156).
-/

namespace Sys2Proof.Machine
open Sys2Proof.Laws

/-! ## What becoming final leaves (R3, R18) -/

theorem retain_ports (u : Nat) (d : Device) : (retain u d).ports = d.ports := by
  unfold retain; split <;> rfl

theorem deliveredCheck_ports (u : Nat) (d : Device) : (deliveredCheck u d).ports = d.ports := by
  unfold deliveredCheck
  split
  · split
    · exact retain_ports u _
    · rfl
  · rfl

/-- Base, store and ports are as they were. -/
def Device.KeepsPlant (d e : Device) : Prop := e.base = d.base ∧ e.store = d.store ∧ e.ports = d.ports

theorem plant_refl (d : Device) : d.KeepsPlant d := ⟨rfl, rfl, rfl⟩

theorem plant_trans {d e f : Device} (h : d.KeepsPlant e) (k : e.KeepsPlant f) : d.KeepsPlant f := by
  obtain ⟨hb, hs, hp⟩ := h
  obtain ⟨kb, ks, kp⟩ := k
  exact ⟨kb.trans hb, ks.trans hs, kp.trans hp⟩

theorem plant_deliveredCheck (u : Nat) (d : Device) : d.KeepsPlant (deliveredCheck u d) :=
  ⟨(keeps_deliveredCheck u d).base, (keeps_deliveredCheck u d).store, deliveredCheck_ports u d⟩

theorem plant_cancelQueued (i : SiteId) (u : Nat) (d : Device) : d.KeepsPlant (cancelQueued i u d) :=
  plant_trans (e := (d.onQueue i fun q => { q with queue := q.queue.filter fun e => decide (e.ref.uid ≠ u) }).onDelivery
    u i fun r => { r with state := .cancelled, cause := none }) ⟨rfl, rfl, rfl⟩ (plant_deliveredCheck u _)

/-- The current delivery cancelled by DISABLE SITE, which posts no CANCEL (R127). -/
theorem cancelCurrent_disable (i : SiteId) (c : Delivery) (d : Device) : cancelCurrent i c .disable d =
    finalRecord c.ref.uid i .cancelled none (((d.onWin i fun w => w.cancelled c.id).markIf fun p =>
      decide (p.site = i) && decide (p.job.delivery = some c.id)).onQueue i fun q => { q with current := none }) := rfl

theorem plant_finalRecord (u : Nat) (i : SiteId) (st : DeliveryState) (c : Option Condition) (d : Device) :
    d.KeepsPlant (finalRecord u i st c d) :=
  plant_trans (e := d.onDelivery u i fun r => { r with state := st, cause := c }) ⟨rfl, rfl, rfl⟩
    (plant_deliveredCheck u _)

theorem plant_cancelCurrent_disable (i : SiteId) (c : Delivery) (d : Device) :
    d.KeepsPlant (cancelCurrent i c .disable d) :=
  plant_trans (e := ((d.onWin i fun w => w.cancelled c.id).markIf fun p =>
      decide (p.site = i) && decide (p.job.delivery = some c.id)).onQueue i fun q => { q with current := none })
    ⟨rfl, rfl, rfl⟩ (plant_finalRecord c.ref.uid i .cancelled none _)

/-- A record that becomes final at one site leaves every other delivery record. -/
theorem finalRecord_record {u w : Nat} {i : SiteId} {st : DeliveryState} {c : Option Condition} {d : Device}
    {v : PageVersion} (h : d.record w = some v) : ∃ x, (finalRecord u i st c d).record w = some x ∧
      x.records = if w = u then modifyAt v.records i (fun r => { r with state := st, cause := c })
        else v.records := by
  have hone : (d.onDelivery u i fun r => { r with state := st, cause := c }).record w =
      some (if v.uid = u then { v with records := modifyAt v.records i fun r => { r with state := st, cause := c } }
        else v) := by
    have hrec := record_onRecord (d := d) (u := u)
      (f := fun v => { v with records := modifyAt v.records i fun r => { r with state := st, cause := c } })
      (fun _ => rfl) w
    rw [h] at hrec
    exact hrec
  obtain ⟨x, hx, hs⟩ := deliveredCheck_record (u := u) hone
  refine ⟨x, hx, (congrArg PageVersion.records hs).trans ?_⟩
  rw [(record_some h).1]
  split <;> rfl

/-- The delivery record of a site that a cancellation left. -/
def PageVersion.CancelledAt (v : PageVersion) (i : SiteId) : Prop :=
  (v.at i).state = .cancelled ∧ (v.at i).cause = none

theorem cancelled_record {u w : Nat} {i : SiteId} {d : Device} {v : PageVersion} (h : d.record w = some v) :
    ∃ x, (finalRecord u i .cancelled none d).record w = some x ∧ (∀ j : SiteId, j ≠ i → x.at j = v.at j) ∧
      (w = u ∨ v.CancelledAt i → x.CancelledAt i) := by
  obtain ⟨x, hx, hrecords⟩ := finalRecord_record (u := u) (i := i) (st := .cancelled) (c := none) h
  by_cases hw : w = u
  · rw [if_pos hw] at hrecords
    obtain ⟨hat, hother⟩ := modifyAt_at hrecords
    exact ⟨x, hx, hother, fun _ => by rw [PageVersion.CancelledAt, hat]; exact ⟨rfl, rfl⟩⟩
  · rw [if_neg hw] at hrecords
    have hat : ∀ j, x.at j = v.at j := fun j => congrArg (fun t => entryOf t j) hrecords
    refine ⟨x, hx, fun j _ => hat j, fun hc => ?_⟩
    rw [PageVersion.CancelledAt, hat]
    exact hc.resolve_left hw

/-! ## The queued deliveries, in queue order -/

section
variable (i : SiteId) (l : List QueueEntry) (d : Device)

theorem foldl_cancelQueued_plant : d.KeepsPlant (l.foldl (fun d e => cancelQueued i e.ref.uid d) d) := by
  induction l generalizing d with
  | nil => exact plant_refl d
  | cons e l ih => exact plant_trans (plant_cancelQueued i _ d) (ih _)

theorem foldl_cancelQueued_ne {j : SiteId} (h : j ≠ i) :
    (l.foldl (fun d e => cancelQueued i e.ref.uid d) d).site j = d.site j := by
  induction l generalizing d with
  | nil => rfl
  | cons e l ih => rw [List.foldl_cons, ih, site_cancelQueued_ne h]

theorem foldl_cancelQueued_site {x : Device} (hx : x = l.foldl (fun d e => cancelQueued i e.ref.uid d) d) :
    x.site i = { d.site i with q := { (d.site i).q with queue := (x.site i).q.queue } } := by
  subst hx
  induction l generalizing d with
  | nil => rfl
  | cons e l ih =>
    have hone : (cancelQueued i e.ref.uid d).site i = { d.site i with q := { (d.site i).q with
        queue := (d.site i).q.queue.filter fun o => decide (o.ref.uid ≠ e.ref.uid) } } := by
      rw [cancelQueued, finalRecord_site, Device.onQueue, site_onSite_same]
    rw [List.foldl_cons, ih (cancelQueued i e.ref.uid d), hone]

theorem foldl_cancelQueued_record {w : Nat} {v : PageVersion} (h : d.record w = some v) :
    ∃ x, (l.foldl (fun d e => cancelQueued i e.ref.uid d) d).record w = some x ∧
      (∀ j : SiteId, j ≠ i → x.at j = v.at j) ∧
      ((∃ e ∈ l, e.ref.uid = w) ∨ v.CancelledAt i → x.CancelledAt i) := by
  induction l generalizing d v with
  | nil => exact ⟨v, h, fun _ _ => rfl, fun hc => hc.resolve_left (by simp)⟩
  | cons e l ih =>
    obtain ⟨x, hx, hother, hcancelled⟩ := cancelled_record (u := e.ref.uid) (i := i)
      (d := d.onQueue i fun q => { q with queue := q.queue.filter fun o => decide (o.ref.uid ≠ e.ref.uid) }) h
    obtain ⟨y, hy, hrest, hlater⟩ := ih (cancelQueued i e.ref.uid d) hx
    refine ⟨y, hy, fun j hj => (hrest j hj).trans (hother j hj), fun hc => hlater ?_⟩
    rcases hc with ⟨o, ho, hw⟩ | hc
    · rcases List.mem_cons.1 ho with ho | ho
      · exact .inr (hcancelled (.inl (by rw [← hw, ho])))
      · exact .inl ⟨o, ho, hw⟩
    · exact .inr (hcancelled (.inr hc))

end

/-! ## All deliveries of a site (R133) -/

theorem cancelSite_none {i : SiteId} {d : Device} (h : (d.site i).q.current = none) :
    cancelSite i d = (d.site i).q.queue.foldl (fun d e => cancelQueued i e.ref.uid d) d := by
  have hcur := (foldl_cancelQueued_queue i (d.site i).q.queue d).2
  unfold cancelSite
  generalize (d.site i).q.queue.foldl (fun d e => cancelQueued i e.ref.uid d) d = x at hcur ⊢
  dsimp only
  rw [hcur, h]

theorem cancelSite_some {i : SiteId} {d : Device} {c : Delivery} (h : (d.site i).q.current = some c) :
    cancelSite i d = cancelCurrent i c .disable
      ((d.site i).q.queue.foldl (fun d e => cancelQueued i e.ref.uid d) d) := by
  have hcur := (foldl_cancelQueued_queue i (d.site i).q.queue d).2
  unfold cancelSite
  generalize (d.site i).q.queue.foldl (fun d e => cancelQueued i e.ref.uid d) d = x at hcur ⊢
  dsimp only
  rw [hcur, h]

theorem cancelSite_plant (i : SiteId) (d : Device) : d.KeepsPlant (cancelSite i d) := by
  cases h : (d.site i).q.current with
  | none => rw [cancelSite_none h]; exact foldl_cancelQueued_plant i _ d
  | some c =>
    rw [cancelSite_some h]
    exact plant_trans (foldl_cancelQueued_plant i _ d) (plant_cancelCurrent_disable i c _)

theorem cancelSite_ne {i j : SiteId} (h : j ≠ i) (d : Device) : (cancelSite i d).site j = d.site j := by
  cases hc : (d.site i).q.current with
  | none => rw [cancelSite_none hc, foldl_cancelQueued_ne i _ d h]
  | some c => rw [cancelSite_some hc, site_cancelCurrent_ne h, foldl_cancelQueued_ne i _ d h]

theorem filter_out_all (l : List QueueEntry) :
    (l.filter fun x => decide (∀ e ∈ l, x.ref.uid ≠ e.ref.uid)) = [] :=
  List.filter_eq_nil_iff.2 fun x hx h => of_decide_eq_true h x hx rfl

/-- The site whose deliveries are all cancelled: its queue and current delivery are gone, and of its window only ranks
and prepared block changed. -/
theorem cancelSite_site (i : SiteId) (d : Device) : ∃ (ranks : List Rank) (prepared : Option Block),
    (cancelSite i d).site i = { d.site i with
      q := { (d.site i).q with queue := [], current := none }
      win := { (d.site i).win with ranks := ranks, prepared := prepared } } := by
  have hsite := foldl_cancelQueued_site i (d.site i).q.queue d rfl
  have hqueue := (foldl_cancelQueued_queue i (d.site i).q.queue d).1
  rw [filter_out_all] at hqueue
  rw [hqueue] at hsite
  cases hc : (d.site i).q.current with
  | none =>
    refine ⟨(d.site i).win.ranks, (d.site i).win.prepared, ?_⟩
    rw [cancelSite_none hc, hsite]
    dsimp only
    rw [hc]
  | some c =>
    refine ⟨((d.site i).win.cancelled c.id).ranks, ((d.site i).win.cancelled c.id).prepared, ?_⟩
    rw [cancelSite_some hc, cancelCurrent_disable, finalRecord_site, Device.onQueue, site_onSite_same, markIf_site,
      Device.onWin, site_onSite_same, hsite]
    rfl

theorem cancelSite_record {i : SiteId} {d : Device} {w : Nat} {v : PageVersion} (h : d.record w = some v)
    (hw : (∃ e ∈ (d.site i).q.queue, e.ref.uid = w) ∨
      ∃ c : Delivery, (d.site i).q.current = some c ∧ c.ref.uid = w) :
    ∃ x, (cancelSite i d).record w = some x ∧ x.CancelledAt i ∧ ∀ j : SiteId, j ≠ i → x.at j = v.at j := by
  obtain ⟨x, hx, hother, hcancelled⟩ := foldl_cancelQueued_record i (d.site i).q.queue d h
  cases hc : (d.site i).q.current with
  | none =>
    rw [cancelSite_none hc]
    refine ⟨x, hx, hcancelled (.inl (hw.resolve_right ?_)), hother⟩
    rintro ⟨c, hcur, -⟩
    rw [hc] at hcur
    cases hcur
  | some c =>
    rw [cancelSite_some hc]
    generalize (d.site i).q.queue.foldl (fun d e => cancelQueued i e.ref.uid d) d = z at hx ⊢
    rw [cancelCurrent_disable]
    obtain ⟨y, hy, hrest, hlater⟩ := cancelled_record (u := c.ref.uid) (i := i)
      (d := ((z.onWin i fun w => w.cancelled c.id).markIf fun p =>
        decide (p.site = i) && decide (p.job.delivery = some c.id)).onQueue i fun q => { q with current := none }) hx
    refine ⟨y, hy, hlater ?_, fun j hj => (hrest j hj).trans (hother j hj)⟩
    rcases hw with hq | ⟨c', hcur, hu⟩
    · exact .inr (hcancelled (.inl hq))
    · rw [hc] at hcur
      cases hcur
      exact .inl hu.symm

/-! ## The site that is left (R105, R114, R156) -/

theorem transmitting_of_ports {d e : Device} (h : e.ports = d.ports) (i : SiteId) :
    e.transmitting i = d.transmitting i := by
  unfold Device.transmitting Device.port
  rw [h]

theorem markSite_discard {i : SiteId} {d : Device} :
    ∀ p ∈ (d.markSite i).builder.inFlight, p.site = i → p.discard = true := by
  intro p hp hi
  obtain ⟨q, -, rfl⟩ := Option.map_eq_some_iff.1 (Option.mem_def.1 hp)
  by_cases hq : q.site = i
  · simp only [hq, decide_true, if_true]
  · simp only [hq, decide_false, Bool.false_eq_true, if_false] at hi

/-- The part before the site closes or becomes DISABLED. -/
def deliveriesGone (i : SiteId) (d : Device) : Device := ((cancelSite i d).markSite i).onSite i clearDisabled

theorem disableSite_transmitting {i : SiteId} {d : Device} (h : d.transmitting i = true) :
    disableSite i d = beginClosing i (deliveriesGone i d) := by
  have hport : (deliveriesGone i d).ports = d.ports := (cancelSite_plant i d).2.2
  exact if_pos ((transmitting_of_ports hport i).trans h)

theorem disableSite_free {i : SiteId} {d : Device} (h : d.transmitting i = false) :
    disableSite i d = becomeDisabled i (deliveriesGone i d) := by
  have hport : (deliveriesGone i d).ports = d.ports := (cancelSite_plant i d).2.2
  refine if_neg ?_
  rw [Bool.not_eq_true]
  exact (transmitting_of_ports hport i).trans h

/-- DISABLE SITE leaves what the cancellations left of all but the site and the builder's mark. -/
theorem disableSite_rest (i : SiteId) (d : Device) :
    { disableSite i d with sites := d.sites, builder := d.builder } =
      { cancelSite i d with sites := d.sites, builder := d.builder } := by
  unfold disableSite
  generalize cancelSite i d = x
  dsimp only
  split <;> rfl

theorem disableSite_ne {i j : SiteId} (h : j ≠ i) (d : Device) : (disableSite i d).site j = d.site j := by
  have hgone : (deliveriesGone i d).site j = d.site j := by
    rw [deliveriesGone, site_onSite_ne _ h, Device.markSite, markIf_site, cancelSite_ne h]
  cases ht : d.transmitting i with
  | true => rw [disableSite_transmitting ht, beginClosing, Device.onWin, site_onSite_ne _ h, hgone]
  | false => rw [disableSite_free ht, becomeDisabled, site_onSite_ne _ h, Device.markSite, markIf_site, hgone]

theorem disableSite_marks (i : SiteId) (d : Device) :
    ∀ p ∈ (disableSite i d).builder.inFlight, p.site = i → p.discard = true := by
  cases ht : d.transmitting i with
  | true => rw [disableSite_transmitting ht]; exact markSite_discard (d := cancelSite i d)
  | false => rw [disableSite_free ht]; exact markSite_discard (d := deliveriesGone i d)

theorem deliveriesGone_site (i : SiteId) (d : Device) :
    (deliveriesGone i d).site i = clearDisabled ((cancelSite i d).site i) := by
  rw [deliveriesGone, site_onSite_same, Device.markSite, markIf_site]

theorem disableSite_closing {i : SiteId} {d : Device} (h : d.transmitting i = true) {st : Site}
    (hst : st = clearDisabled ((cancelSite i d).site i)) : (disableSite i d).site i =
      { st with win := { st.win with closing := true, ackTimer := .stopped, probeTimer := none } } := by
  rw [disableSite_transmitting h, beginClosing, Device.onWin, site_onSite_same, deliveriesGone_site, ← hst]

theorem disableSite_disabled {i : SiteId} {d : Device} (h : d.transmitting i = false) {st : Site}
    (hst : st = clearDisabled ((cancelSite i d).site i)) : (disableSite i d).site i =
      { st with win := Window.reset, pace := { st.pace with credit := 0 }, halt := none } := by
  rw [disableSite_free h, becomeDisabled, site_onSite_same, Device.markSite, markIf_site, deliveriesGone_site, ← hst]

theorem disableSite_site (i : SiteId) (d : Device) : (disableSite i d).site i = { d.site i with
    q := { queue := [], current := none, control := [] }
    tgt := { (d.site i).tgt with
      records := (d.site i).tgt.records.map fun r => { r with owed := false }, gate := .idle }
    pace := { (d.site i).pace with
      gap := none, level := 0, refCount := 0, resendCount := 0
      credit := if d.transmitting i = true then (d.site i).pace.credit else 0 }
    win := if d.transmitting i = true
      then { (d.site i).win with
        ranks := ((cancelSite i d).site i).win.ranks, prepared := none, closing := true
        ackTimer := .stopped, probeTimer := none }
      else Window.reset
    halt := if d.transmitting i = true then (d.site i).halt else none } := by
  obtain ⟨ranks, prepared, hsite⟩ := cancelSite_site i d
  cases h : d.transmitting i with
  | true => rw [disableSite_closing h rfl, hsite]; rfl
  | false => rw [disableSite_disabled h rfl, hsite]; rfl

theorem applyDisableSite_present {b : Byte} {i : SiteId} (hb : b.toNat = i.val) {d : Device}
    (h : (d.site i).absent = false) : applyDisableSite b d =
      okay (arbitrate (disableSite i d)) (halfN (d.site i).deliveries) := by
  have hi : eightOf b = some i := eightOf_of hb
  simp only [applyDisableSite, hi, h, Bool.false_eq_true, if_false]

/-- Settles O40. -/
theorem disableSiteEmptiesTheSite : Obligations.DisableSiteEmptiesTheSite := by
  unfold Obligations.DisableSiteEmptiesTheSite
  intro s tag b i hr hb
  have hi : eightOf b = some i := eightOf_of hb
  refine ⟨fun h => ?_, fun hlink hclosing => ?_⟩
  · have hx : applyDisableSite b s.dev = (s.dev, { result := .ok, data := halfN 0 }) := by
      simp only [applyDisableSite, hi, (absent_iff _).2 h, if_true, okay]
    exact onCommand_answer hr hx
  · have hcount : (s.dev.site i).deliveries =
        (s.dev.site i).q.queue.length + if (s.dev.site i).q.current = none then 0 else 1 := by
      unfold Site.deliveries
      cases (s.dev.site i).q.current <;> rfl
    have hsite := disableSite_site i s.dev
    have hrest := disableSite_rest i s.dev
    have htable := congrArg Device.table hrest
    refine ⟨disableSite i s.dev, ?_, by rw [hsite], by rw [hsite], by rw [hsite], fun k => ?_, by rw [hsite],
      by rw [hsite], by rw [hsite], fun ht => ?_, fun ht => ?_, disableSite_marks i s.dev,
      fun j hj => disableSite_ne hj s.dev, fun ref v href hv => ?_, fun x y hx hy => ?_⟩
    · rw [← hcount]
      exact onCommand_answer hr (applyDisableSite_present hb ((absent_eq_false _).2 ⟨hlink, hclosing⟩))
    · rw [hsite]
      exact entryOf_map _ _ k
    · rw [hsite]
      simp only [ht, Bool.false_eq_true, if_false, Window.reset, and_self]
    · rw [hsite]
      simp only [ht, if_true, and_self]
    · have hw : (∃ e ∈ (s.dev.site i).q.queue, e.ref.uid = ref.uid) ∨
          ∃ c : Delivery, (s.dev.site i).q.current = some c ∧ c.ref.uid = ref.uid := by
        rcases href with ⟨e, he, rfl⟩ | ⟨c, hc, rfl⟩
        · exact .inl ⟨e, he, rfl⟩
        · exact .inr ⟨c, hc, rfl⟩
      obtain ⟨z, hz, ⟨hstate, hcause⟩, hother⟩ := cancelSite_record hv hw
      have hrecord : (disableSite i s.dev).record ref.uid = (cancelSite i s.dev).record ref.uid :=
        congrArg (List.find? _) htable
      exact ⟨z, hrecord.trans hz, hstate, hcause, hother⟩
    · have hcancel : y = cancelSite i s.dev := by
        rcases hy with ⟨hcur, rfl⟩ | ⟨c, hcur, rfl⟩
        · rw [cancelSite_none hcur, hx]
          rfl
        · rw [cancelSite_some hcur, hx]
          rfl
      obtain ⟨hbase, hstore, hports⟩ := cancelSite_plant i s.dev
      rw [← hcancel] at hrest hbase hstore hports
      have hretained := congrArg Device.retained hrest
      have hretainedCount := congrArg Device.retainedCount hrest
      have hfeed := congrArg Device.feed hrest
      have hb' := congrArg Device.base hrest
      have hs' := congrArg Device.store hrest
      have hp' := congrArg Device.ports hrest
      refine ⟨hcancel ▸ htable, hretained, hretainedCount, hfeed, hb'.trans hbase, hs'.trans hstore,
        hp'.trans hports, fun ht => ?_⟩
      rw [hsite, hcancel]
      simp only [ht, if_true, and_self]

end Sys2Proof.Machine
end

section
/-!
SUPPORT. The orders of a release: the versions an evaluation asks about, in ascending page key (R61), and the lower
versions of a key, in ascending version (R16).
-/

namespace Sys2Proof.Machine
open Sys2Proof.Laws

/-! ## The order of page keys (R61) -/

theorem before_iff (a b : PageKey) : a.before b = true ↔
    a.pos.edition < b.pos.edition ∨ a.pos.edition = b.pos.edition ∧
      (a.pos.sect < b.pos.sect ∨ a.pos.sect = b.pos.sect ∧
        (a.pos.page < b.pos.page ∨ a.pos.page = b.pos.page ∧ a.zone < b.zone)) := by
  simp only [PageKey.before, Bool.or_eq_true, Bool.and_eq_true, decide_eq_true_eq]

theorem before_irrefl (a : PageKey) : ¬a.before a = true := by
  rw [before_iff]
  omega

theorem before_trans (a b c : PageKey) (h : a.before b = true) (k : b.before c = true) : a.before c = true := by
  rw [before_iff] at h k ⊢
  omega

theorem highestOfEach_eq (l : List PageVersion) : highestOfEach l =
    sortBy (fun a b => a.key.before b.key = true)
      (l.filter fun v => !l.any fun x => decide (x.key = v.key) && decide (v.version < x.version)) := by
  have hinsert : ∀ (v : PageVersion) (m : List PageVersion),
      insertByKey v m = insertBy (fun a b => a.key.before b.key = true) v m := fun v m => by
    induction m with
    | nil => rfl
    | cons x m ih => rw [insertByKey, insertBy, ih]
  have hfun : insertByKey = fun v m => insertBy (fun a b => a.key.before b.key = true) v m :=
    funext fun v => funext fun m => hinsert v m
  unfold highestOfEach
  rw [hfun]
  rfl

theorem sortByVersion_eq (l : List PageVersion) :
    sortByVersion l = sortBy (fun a b => a.version < b.version) l := by
  have hinsert : ∀ (v : PageVersion) (m : List PageVersion),
      insertByVersion v m = insertBy (fun a b => a.version < b.version) v m := fun v m => by
    induction m with
    | nil => rfl
    | cons x m ih => rw [insertByVersion, insertBy, ih]
  have hfun : insertByVersion = fun v m => insertBy (fun a b => a.version < b.version) v m :=
    funext fun v => funext fun m => hinsert v m
  unfold sortByVersion
  rw [hfun]
  rfl

theorem nodup_of_uids {l : List PageVersion} (h : (l.map PageVersion.uid).Nodup) : l.Nodup := nodup_of_map _ h

theorem evaluate_order {d : Device} {test : PageVersion → Bool} {l : List PageVersion}
    (hu : (d.table.map PageVersion.uid).Nodup) (hl : l.Pairwise fun a b => a.key.before b.key = true)
    (hmem : ∀ v : PageVersion, v ∈ l ↔ v ∈ d.table ∧ test v = true ∧ d.releasable v = true ∧
      ∀ x ∈ d.table, test x = true → d.releasable x = true → x.key = v.key → x.version ≤ v.version) :
    highestOfEach (d.table.filter fun v => test v && d.releasable v) = l := by
  rw [highestOfEach_eq]
  refine sortBy_eq (fun a b c => before_trans a.key b.key c.key) (fun a => before_irrefl a.key)
    (nodup_filter (nodup_filter (nodup_of_uids hu) _) _) hl fun v => ?_
  rw [hmem, List.mem_filter, List.mem_filter, Bool.and_eq_true, Bool.not_eq_true', List.any_eq_false, and_assoc,
    and_assoc]
  refine and_congr_right fun _ => and_congr_right fun _ => and_congr_right fun _ =>
    ⟨fun h x hx => ?_, fun h x hx ht hr hk => ?_⟩
  · obtain ⟨hx, hgood⟩ := List.mem_filter.1 hx
    obtain ⟨ht, hr⟩ := Bool.and_eq_true_iff.1 hgood
    rw [Bool.and_eq_true, decide_eq_true_eq, decide_eq_true_eq]
    rintro ⟨hk, hlt⟩
    exact absurd (h x hx ht hr hk) (Nat.not_le.2 hlt)
  · have hno := h x (List.mem_filter.2 ⟨hx, by rw [ht, hr]; rfl⟩)
    rw [Bool.and_eq_true, decide_eq_true_eq, decide_eq_true_eq] at hno
    exact Nat.not_lt.1 fun hlt => hno ⟨hk, hlt⟩

theorem supersede_order {d : Device} {key : PageKey} {n : Nat} {low : List PageVersion}
    (hu : (d.table.map PageVersion.uid).Nodup) (hl : low.Pairwise fun a b => a.version < b.version)
    (hmem : ∀ x : PageVersion, x ∈ low ↔ x ∈ d.table ∧ x.key = key ∧ x.version < n ∧ x.state ≠ .superseded ∧
      x.state ≠ .withdrawn) :
    sortByVersion (d.table.filter fun x => decide (x.key = key) && decide (x.version < n) && x.live) = low := by
  rw [sortByVersion_eq]
  refine sortBy_eq (r := fun a b : PageVersion => a.version < b.version) (fun _ _ _ => Nat.lt_trans)
    (fun _ => Nat.lt_irrefl _) (nodup_filter (nodup_of_uids hu) _) hl fun x => ?_
  rw [hmem, List.mem_filter, Bool.and_eq_true, Bool.and_eq_true, decide_eq_true_eq, decide_eq_true_eq, live_iff,
    and_assoc]

/-! ## The conditions of a release -/

theorem releasable_iff {d : Device} {v : PageVersion} {e : Fin 16} (he : e.val = v.key.pos.edition) :
    d.releasable v = true ↔ v.state = .approved ∧ (entryOf d.base.plans e).held = false ∧
      ∀ time : Nat, v.releaseAt = some time → d.base.clock.reached time = true := by
  have hheld : d.held v.key.pos.edition = (entryOf d.base.plans e).held := by
    rw [Device.held, planIndex_of he]
  unfold Device.releasable
  rw [hheld, Bool.and_eq_true, Bool.and_eq_true, decide_eq_true_eq, Bool.not_eq_true', and_assoc]
  refine and_congr_right fun _ => and_congr_right fun _ => ?_
  cases v.releaseAt with
  | none => exact ⟨fun _ _ h => absurd h (by simp), fun _ => rfl⟩
  | some t => exact ⟨fun h _ ht => Option.some.inj ht ▸ h, fun h => h t rfl⟩

theorem blocks_eq_false {d : Device} {pos : Position} {zone : Nat} : d.blocks pos zone = false ↔
    ∀ x ∈ d.table, x.key = { pos := pos, zone := zone } → x.state = .superseded ∨ x.state = .withdrawn := by
  rw [Device.blocks, List.any_eq_false]
  refine forall_congr' fun x => forall_congr' fun _ => ?_
  rw [Bool.and_eq_true, decide_eq_true_eq, not_and, Bool.not_eq_true, live_eq_false]

theorem targets_iff {d : Device} {key : PageKey} {i : SiteId} {e : Fin 16} (he : e.val = key.pos.edition) :
    d.targets key i = true ↔ (d.site i).win.link ≠ .disabled ∧ (d.site i).win.closing = false ∧
      ∃ zone : Nat, entryOf (entryOf d.base.plans e).entries i = some zone ∧ (key.zone ≠ 0 → zone = key.zone) ∧
        (key.zone = 0 → zone = 0 ∨ ∀ x ∈ d.table, x.key = { pos := key.pos, zone := zone } →
          x.state = .superseded ∨ x.state = .withdrawn) := by
  unfold Device.targets
  rw [Bool.and_eq_true, Bool.not_eq_true', absent_eq_false, planEntry_of he, and_assoc]
  refine and_congr_right fun _ => and_congr_right fun _ => ?_
  cases entryOf (entryOf d.base.plans e).entries i with
  | none => simp
  | some p =>
    by_cases hz : key.zone = 0
    · simp [hz, blocks_eq_false]
    · simp [hz]

/-- The flags name the sites of a list. -/
theorem getLsbD_siteFlags (l : List SiteId) (k : Nat) :
    (siteFlags l).getLsbD k = true ↔ ∃ i ∈ l, i.val = k := by
  have hfold : ∀ b : Byte, (l.foldl (fun b i => b ||| (1#8 <<< i.val)) b).getLsbD k = true ↔
      b.getLsbD k = true ∨ ∃ i ∈ l, i.val = k := fun b => by
    induction l generalizing b with
    | nil => simp
    | cons i l ih =>
      have hi := i.isLt
      rw [List.foldl_cons, ih, exists_cons_iff, ← or_assoc, BitVec.getLsbD_or, Bool.or_eq_true,
        ← BitVec.twoPow_eq, BitVec.getLsbD_twoPow, Bool.and_eq_true, decide_eq_true_eq, decide_eq_true_eq]
      simp only [hi, true_and]
  have hzero : (0 : Byte).getLsbD k = false := BitVec.getLsbD_zero
  rw [siteFlags, hfold, hzero]
  simp only [Bool.false_eq_true, false_or]

theorem siteFlags_of {l : List SiteId} {flags : Byte} (h : ∀ i : SiteId, flags.getLsbD i.val = decide (i ∈ l)) :
    siteFlags l = flags := by
  refine BitVec.eq_of_getLsbD_eq fun k hk => Bool.eq_iff_iff.2 ?_
  have hflag := h ⟨k, hk⟩
  rw [getLsbD_siteFlags, hflag, decide_eq_true_eq]
  exact ⟨fun ⟨i, hi, hik⟩ => by subst hik; exact hi, fun hi => ⟨_, hi, rfl⟩⟩

/-! ## A displacement (R67) -/

theorem rivals_iff (r : PageRef) (pos : Position) (u : Nat) :
    r.rivals pos u = true ↔ r.key.pos = pos ∧ r.uid ≠ u := by
  rw [PageRef.rivals, Bool.and_eq_true, decide_eq_true_eq, decide_eq_true_eq]

theorem filter_rivals (l : List QueueEntry) (pos : Position) (u : Nat) :
    (l.filter fun e => e.ref.rivals pos u) = l.filter fun e => decide (e.ref.key.pos = pos ∧ e.ref.uid ≠ u) :=
  List.filter_congr fun e _ => by rw [PageRef.rivals, Bool.decide_and]

theorem cancelCurrent_queue (i : SiteId) (c : Delivery) (cause : CancelCause) (d : Device) :
    ((cancelCurrent i c cause d).site i).q.queue = (d.site i).q.queue := by
  rw [cancelCurrent_site]
  have hpost : ∀ x : Device, ((postCause i c cause x).site i).q.queue = (x.site i).q.queue := fun x => by
    unfold postCause
    split
    · unfold postCancel
      split
      · rfl
      · split
        · rw [appendControl, site_onQueue_same]
        · rw [raise_q]
    · rfl
  refine (hpost _).trans ?_
  rw [site_onWin_same, markIf_site]

theorem displace_current {i : SiteId} {pos : Position} {u : Nat} {d : Device} {c : Delivery}
    (hc : (d.site i).q.current = some c) (hp : c.ref.key.pos = pos) (hu : c.ref.uid ≠ u)
    (hq : (d.site i).q.queue.filter (fun e => decide (e.ref.key.pos = pos ∧ e.ref.uid ≠ u)) = []) :
    displace i pos u d = cancelCurrent i c .displaced d := by
  have hcur : displaceCurrent i pos u d = cancelCurrent i c .displaced d := by
    simp only [displaceCurrent, hc, (rivals_iff c.ref pos u).2 ⟨hp, hu⟩, if_true]
  rw [displace_eq, hcur, cancelCurrent_queue, filter_rivals, hq]
  rfl

theorem displace_queued {i : SiteId} {pos : Position} {u : Nat} {d : Device}
    (hc : ∀ c : Delivery, (d.site i).q.current = some c → c.ref.key.pos = pos → c.ref.uid = u) :
    displace i pos u d = ((d.site i).q.queue.filter fun e =>
      decide (e.ref.key.pos = pos ∧ e.ref.uid ≠ u)).foldl (fun x e => cancelQueued i e.ref.uid x) d := by
  have hcur : displaceCurrent i pos u d = d := by
    unfold displaceCurrent
    split
    case h_1 c h =>
      refine if_neg fun hr => ?_
      obtain ⟨hp, hu⟩ := (rivals_iff _ _ _).1 hr
      exact hu (hc c h hp)
    case h_2 => rfl
  rw [displace_eq, hcur, filter_rivals]

end Sys2Proof.Machine
end

section
/-!
SUPPORT. The version and the lower versions of its key through a release (R15, R16, R62, R67).
-/

namespace Sys2Proof.Machine
open Sys2Proof.Laws

/-! ## What leaves a version's record as it is -/

/-- The release order counter and the record of identity `w` are as they were. -/
def Device.Passes (w : Nat) (d e : Device) : Prop := e.orderCounter = d.orderCounter ∧ e.record w = d.record w

section
variable {w : Nat} {d e f : Device}

theorem passes_refl (w : Nat) (d : Device) : d.Passes w d := ⟨rfl, rfl⟩

theorem passes_trans (h : d.Passes w e) (k : e.Passes w f) : d.Passes w f := ⟨k.1.trans h.1, k.2.trans h.2⟩

theorem passes_foldl {α : Type} {l : List α} {g : Device → α → Device}
    (h : ∀ a ∈ l, ∀ d : Device, d.Passes w (g d a)) (d : Device) : d.Passes w (l.foldl g d) := by
  induction l generalizing d with
  | nil => exact passes_refl w d
  | cons a l ih =>
    exact passes_trans (h a List.mem_cons_self d) (ih (fun b hb => h b (List.mem_cons_of_mem a hb)) _)

end

theorem passes_event (w : Nat) (d : Device) (e : Event) : d.Passes w (d.event e) := ⟨rfl, rfl⟩

theorem raise_orderCounter (i : SiteId) (det : CondDetails) (d : Device) :
    (raise i det d).orderCounter = d.orderCounter := by
  have h := congrArg Device.orderCounter (raise_rest i det d)
  exact h

theorem postCause_orderCounter (i : SiteId) (c : Delivery) (cause : CancelCause) (d : Device) :
    (postCause i c cause d).orderCounter = d.orderCounter := by
  unfold postCause
  split
  · unfold postCancel
    split
    · rfl
    · split
      · rfl
      · exact raise_orderCounter i _ d
  · rfl

section
variable {w u : Nat} (h : u ≠ w)
include h

theorem passes_onRecord {f : PageVersion → PageVersion} (hf : ∀ v, (f v).uid = v.uid) (d : Device) :
    d.Passes w (d.onRecord u f) := by
  refine ⟨rfl, ?_⟩
  rw [record_onRecord hf]
  cases hv : d.record w with
  | none => rfl
  | some v => rw [Option.map_some, (record_some hv).1, if_neg h.symm]

theorem passes_onDelivery (i : SiteId) (f : DeliveryRecord → DeliveryRecord) (d : Device) :
    d.Passes w (d.onDelivery u i f) :=
  passes_onRecord h (f := fun v => { v with records := modifyAt v.records i f }) (fun _ => rfl) d

theorem passes_retain (d : Device) : d.Passes w (retain u d) := by
  unfold retain
  split
  · exact passes_refl w d
  · exact passes_onRecord h (f := fun v => { v with retained := some d.retainedCount }) (fun _ => rfl) d

theorem passes_deliveredCheck (d : Device) : d.Passes w (deliveredCheck u d) := by
  unfold deliveredCheck
  split
  · split
    · exact passes_trans (passes_onRecord h (f := fun v => { v with state := .delivered }) (fun _ => rfl) d)
        (passes_retain h (d.onRecord u fun v => { v with state := .delivered }))
    · exact passes_refl w d
  · exact passes_refl w d

theorem passes_finalRecord (i : SiteId) (s : DeliveryState) (c : Option Condition) (d : Device) :
    d.Passes w (finalRecord u i s c d) :=
  passes_trans (passes_onDelivery h i _ d) (passes_deliveredCheck h _)

theorem passes_cancelQueued (i : SiteId) (d : Device) : d.Passes w (cancelQueued i u d) :=
  passes_trans (e := d.onQueue i fun q => { q with queue := q.queue.filter fun e => decide (e.ref.uid ≠ u) })
    ⟨rfl, rfl⟩ (passes_finalRecord h i _ _ _)

end

theorem passes_cancelCurrent {w : Nat} {c : Delivery} (h : c.ref.uid ≠ w) (i : SiteId) (cause : CancelCause)
    (d : Device) : d.Passes w (cancelCurrent i c cause d) := by
  rw [cancelCurrent_eq]
  refine passes_trans ?_ (passes_deliveredCheck h _)
  refine passes_trans ?_ (passes_onDelivery h i _ _)
  exact ⟨postCause_orderCounter i c cause _, postCause_record i c cause _ w⟩

theorem passes_cancelDelivery {w u : Nat} (h : u ≠ w) (i : SiteId) (cause : CancelCause) (d : Device) :
    d.Passes w (cancelDelivery i u cause d) := by
  unfold cancelDelivery
  split
  case h_1 c _ =>
    split
    case isTrue hc => exact passes_cancelCurrent (hc ▸ h) i cause d
    case isFalse =>
      split
      · exact passes_cancelQueued h i d
      · exact passes_refl w d
  case h_2 =>
    split
    · exact passes_cancelQueued h i d
    · exact passes_refl w d

theorem passes_cancelAll {w u : Nat} (h : u ≠ w) (cause : CancelCause) (d : Device) :
    d.Passes w (cancelAll u cause d) := by
  rw [cancelAll_eq]
  refine passes_foldl (fun m _ x => ?_) d
  cases x.record u with
  | none => exact passes_refl w x
  | some v =>
    rw [Option.elim_some]
    split
    · exact passes_cancelDelivery h m cause x
    · exact passes_refl w x

theorem passes_supersedeOne {w : Nat} {v : PageVersion} (h : v.uid ≠ w) (n : Nat) (d : Device) :
    d.Passes w (supersedeOne n v d) := by
  have hmarked := passes_onRecord h (f := fun x => { x with state := .superseded }) (fun _ => rfl) d
  have hretained := passes_trans hmarked (passes_retain h _)
  have hcancelled := passes_trans hretained (passes_cancelAll h .superseded _)
  unfold supersedeOne
  exact passes_trans hcancelled (passes_event w _ _)

/-- A displacement cancels deliveries of other versions only. -/
theorem passes_displace (i : SiteId) (pos : Position) (w : Nat) (d : Device) : d.Passes w (displace i pos w d) := by
  rw [displace_eq]
  refine passes_trans (e := displaceCurrent i pos w d) ?_ (passes_foldl (fun e he x => ?_) _)
  · unfold displaceCurrent
    split
    case h_1 c _ =>
      split
      case isTrue hr => exact passes_cancelCurrent ((rivals_iff _ _ _).1 hr).2 i _ d
      case isFalse => exact passes_refl w d
    case h_2 => exact passes_refl w d
  · exact passes_cancelQueued ((rivals_iff _ _ _).1 (List.mem_filter.1 he).2).2 i x

/-! ## A superseded version stays superseded -/

/-- The version of identity `w` is SUPERSEDED. -/
def Device.SupersededAt (w : Nat) (d : Device) : Prop := ∃ y, d.record w = some y ∧ y.state = .superseded

section
variable {w : Nat} {d e : Device}

theorem superseded_of_passes (h : d.Passes w e) (hd : d.SupersededAt w) : e.SupersededAt w := by
  obtain ⟨y, hy, hs⟩ := hd
  exact ⟨y, h.2.trans hy, hs⟩

theorem superseded_foldl {α : Type} {g : Device → α → Device}
    (h : ∀ (a : α) (d : Device), d.SupersededAt w → (g d a).SupersededAt w) (l : List α) (hd : d.SupersededAt w) :
    (l.foldl g d).SupersededAt w := by
  induction l generalizing d with
  | nil => exact hd
  | cons a l ih => exact ih (h a d hd)

theorem superseded_onRecord {f : PageVersion → PageVersion} (hf : ∀ v, (f v).uid = v.uid)
    (hs : ∀ v, v.state = .superseded → (f v).state = .superseded) (u : Nat) (hd : d.SupersededAt w) :
    (d.onRecord u f).SupersededAt w := by
  obtain ⟨y, hy, hstate⟩ := hd
  refine ⟨if y.uid = u then f y else y, by rw [record_onRecord hf, hy, Option.map_some], ?_⟩
  split
  · exact hs y hstate
  · exact hstate

theorem superseded_onDelivery (u : Nat) (i : SiteId) (f : DeliveryRecord → DeliveryRecord) (hd : d.SupersededAt w) :
    (d.onDelivery u i f).SupersededAt w :=
  superseded_onRecord (f := fun v => { v with records := modifyAt v.records i f }) (fun _ => rfl) (fun _ h => h) u hd

theorem superseded_retain (u : Nat) (hd : d.SupersededAt w) : (retain u d).SupersededAt w := by
  unfold retain
  split
  · exact hd
  · exact superseded_onRecord (f := fun v => { v with retained := some d.retainedCount }) (fun _ => rfl)
      (fun _ h => h) u hd

/-- The delivered check speaks of RELEASED versions only. -/
theorem superseded_deliveredCheck (u : Nat) (hd : d.SupersededAt w) : (deliveredCheck u d).SupersededAt w := by
  by_cases hu : u = w
  · subst hu
    obtain ⟨y, hy, hs⟩ := hd
    rw [deliveredCheck_same hy (.inl (by rw [hs]; simp))]
    exact ⟨y, hy, hs⟩
  · exact superseded_of_passes (passes_deliveredCheck hu d) hd

theorem superseded_cancelQueued (i : SiteId) (u : Nat) (hd : d.SupersededAt w) :
    (cancelQueued i u d).SupersededAt w :=
  superseded_deliveredCheck u (superseded_onDelivery (d := d.onQueue i fun q =>
    { q with queue := q.queue.filter fun e => decide (e.ref.uid ≠ u) }) u i _ hd)

theorem superseded_cancelCurrent (i : SiteId) (c : Delivery) (cause : CancelCause) (hd : d.SupersededAt w) :
    (cancelCurrent i c cause d).SupersededAt w := by
  rw [cancelCurrent_eq]
  refine superseded_deliveredCheck _ (superseded_onDelivery _ i _ (superseded_of_passes ?_ hd))
  exact ⟨postCause_orderCounter i c cause _, postCause_record i c cause _ w⟩

theorem superseded_cancelDelivery (i : SiteId) (u : Nat) (cause : CancelCause) (hd : d.SupersededAt w) :
    (cancelDelivery i u cause d).SupersededAt w := by
  unfold cancelDelivery
  repeat' split
  · exact superseded_cancelCurrent i _ cause hd
  · exact superseded_cancelQueued i u hd
  · exact hd
  · exact superseded_cancelQueued i u hd
  · exact hd

theorem superseded_cancelAll (u : Nat) (cause : CancelCause) (hd : d.SupersededAt w) :
    (cancelAll u cause d).SupersededAt w := by
  rw [cancelAll_eq]
  refine superseded_foldl (fun m x hx => ?_) _ hd
  cases x.record u with
  | none => exact hx
  | some v =>
    rw [Option.elim_some]
    split
    · exact superseded_cancelDelivery m u cause hx
    · exact hx

/-- The rest of a supersession, once its version has the state (R16). -/
theorem superseded_retained (n : Nat) (v : PageVersion)
    (hd : (d.onRecord v.uid fun x => { x with state := .superseded }).SupersededAt w) :
    (supersedeOne n v d).SupersededAt w := by
  have hcancelled := superseded_cancelAll v.uid .superseded (superseded_retain v.uid hd)
  unfold supersedeOne
  exact superseded_of_passes (passes_event w _ _) hcancelled

theorem superseded_supersedeOne (n : Nat) (v : PageVersion) (hd : d.SupersededAt w) :
    (supersedeOne n v d).SupersededAt w :=
  superseded_retained n v
    (superseded_onRecord (f := fun x => { x with state := .superseded }) (fun _ => rfl) (fun _ _ => rfl) v.uid hd)

theorem supersedeOne_superseded (n : Nat) {v y : PageVersion} (hy : d.record v.uid = some y) :
    (supersedeOne n v d).SupersededAt v.uid :=
  superseded_retained n v ⟨_, record_onRecord_same (f := fun x => { x with state := .superseded }) (fun _ => rfl) hy,
    rfl⟩

theorem superseded_displace (i : SiteId) (pos : Position) (u : Nat) (hd : d.SupersededAt w) :
    (displace i pos u d).SupersededAt w := by
  rw [displace_eq]
  refine superseded_foldl (fun e x hx => superseded_cancelQueued i _ hx) _ ?_
  unfold displaceCurrent
  split
  · split
    · exact superseded_cancelCurrent i _ _ hd
    · exact hd
  · exact hd

/-- An enqueue leaves the state of every version. -/
theorem enqueue_states (i : SiteId) (ref : PageRef) (c : DeliveryClass) (seps : SepSet) (d : Device) {w : Nat}
    {y : PageVersion} (hy : d.record w = some y) : ∃ z, (enqueue i ref c seps d).record w = some z ∧
      z.state = y.state ∧ ∀ j : SiteId, j ≠ i → z.at j = y.at j := by
  have hmap := record_forgetAt (enqueue_forgetAt i ref c seps d) w
  rw [hy, Option.map_some] at hmap
  obtain ⟨z, hz, hf⟩ := Option.map_eq_some_iff.1 hmap
  have hstate := congrArg PageVersion.state hf
  exact ⟨z, hz, hstate, fun j hj => by rw [← forgetAt_at hj z, hf, forgetAt_at hj]⟩

theorem superseded_enqueue (i : SiteId) (ref : PageRef) (c : DeliveryClass) (seps : SepSet)
    (hd : d.SupersededAt w) : (enqueue i ref c seps d).SupersededAt w := by
  obtain ⟨y, hy, hs⟩ := hd
  obtain ⟨z, hz, hstate, -⟩ := enqueue_states i ref c seps d hy
  exact ⟨z, hz, hstate.trans hs⟩

end

/-! ## The version released, at its target sites -/

theorem takeHead_record {i : SiteId} {d : Device} {w : Nat} {y : PageVersion} (hy : d.record w = some y)
    (hs : (y.at i).state = .queued) : ∃ z, (takeHead i d).record w = some z ∧
      ((z.at i).state = .queued ∨ (z.at i).state = .sending) := by
  unfold takeHead
  split
  case h_2 => exact ⟨y, hy, .inl hs⟩
  case h_1 e rest _ =>
    dsimp only
    by_cases hu : e.ref.uid = w
    · subst hu
      refine ⟨_, record_onRecord_same (fun _ => rfl) hy, .inr ?_⟩
      simp only [PageVersion.at, entryOf_modifyAt_same]
    · exact ⟨y, (passes_onDelivery hu i (fun r => { r with state := .sending }) _).2.trans hy, .inl hs⟩

theorem enqueue_record {i : SiteId} {ref : PageRef} {c : DeliveryClass} {seps : SepSet} {d : Device}
    {y : PageVersion} (hy : d.record ref.uid = some y) :
    ∃ z, (enqueue i ref c seps d).record ref.uid = some z ∧ z.state = y.state ∧
      ((z.at i).state = .queued ∨ (z.at i).state = .sending) ∧ ∀ j : SiteId, j ≠ i → z.at j = y.at j := by
  obtain ⟨z, hz, hstate, hother⟩ := enqueue_states i ref c seps d hy
  refine ⟨z, hz, hstate, ?_, hother⟩
  have hqueued : ∀ x : Device, x.record ref.uid = some y → ∃ q : PageVersion,
      (x.onDelivery ref.uid i fun r => { r with state := .queued, cause := none }).record ref.uid = some q ∧
        (q.at i).state = .queued := fun x hx => by
    refine ⟨_, record_onRecord_same (fun _ => rfl) hx, ?_⟩
    simp only [PageVersion.at, entryOf_modifyAt_same]
  unfold enqueue at hz
  dsimp only at hz
  obtain ⟨q, hq, hqs⟩ := hqueued ({ d with orderCounter := d.orderCounter + 1 }.onQueue i fun q => { q with
    queue := insertEntry { ref := ref, cls := c, seps := seps, order := d.orderCounter } q.queue }) hy
  generalize Device.onDelivery _ _ _ _ = x at hz hq
  rcases lookPageStart_cases i x with h | ⟨g, h⟩ | ⟨e, h, ht, -⟩ <;> rw [h] at hz
  · rw [hq] at hz
    exact .inl (Option.some.inj hz ▸ hqs)
  · have hz' : x.record ref.uid = some z := hz
    rw [hq] at hz'
    exact .inl (Option.some.inj hz' ▸ hqs)
  · have he : e.record ref.uid = some q := by rw [Device.record, ht]; exact hq
    obtain ⟨z', hz', hs⟩ := takeHead_record he hqs
    rw [hz'] at hz
    exact Option.some.inj hz ▸ hs

theorem lookPageStart_orderCounter (i : SiteId) (d : Device) :
    (lookPageStart i d).orderCounter = d.orderCounter := by
  have htake : ∀ x : Device, (takeHead i x).orderCounter = x.orderCounter := fun x => by
    unfold takeHead
    split <;> rfl
  have hswitch : ∀ (a : Arm) (b : Bool) (x : Device), (switchCurves i a b x).orderCounter = x.orderCounter :=
    fun a b x => by
      unfold switchCurves
      dsimp only
      split <;> rfl
  unfold lookPageStart
  dsimp only
  split
  case isFalse => rfl
  case isTrue =>
    split
    · exact htake d
    · split
      · split
        · rw [htake, hswitch]; rfl
        · split
          · rfl
          · rfl
          · rw [htake, hswitch]; rfl
      · rw [htake, hswitch]

theorem enqueue_orderCounter (i : SiteId) (ref : PageRef) (c : DeliveryClass) (seps : SepSet) (d : Device) :
    (enqueue i ref c seps d).orderCounter = d.orderCounter + 1 := by
  unfold enqueue
  rw [lookPageStart_orderCounter]
  rfl

/-- The release of a version at one site. -/
def releaseAtSite (v : PageVersion) (d : Device) (i : SiteId) : Device :=
  enqueue i v.ref v.cls v.seps (displace i v.key.pos v.uid d)

theorem foldl_releaseAtSite_orderCounter (v : PageVersion) (l : List SiteId) (d : Device) :
    (l.foldl (releaseAtSite v) d).orderCounter = d.orderCounter + BitVec.ofNat 32 l.length := by
  induction l generalizing d with
  | nil => exact (BitVec.add_zero _).symm
  | cons i l ih =>
    rw [List.foldl_cons, ih, releaseAtSite, enqueue_orderCounter, (passes_displace i _ _ d).1, List.length_cons,
      BitVec.ofNat_add, BitVec.add_assoc, BitVec.add_comm (BitVec.ofNat 32 l.length)]
    rfl

theorem foldl_releaseAtSite_record {v : PageVersion} (l : List SiteId) {d : Device} {y : PageVersion}
    (hy : d.record v.uid = some y) : ∃ z, (l.foldl (releaseAtSite v) d).record v.uid = some z ∧ z.state = y.state ∧
      (∀ i ∈ l, (z.at i).state = .queued ∨ (z.at i).state = .sending) ∧ ∀ i, i ∉ l → z.at i = y.at i := by
  induction l generalizing d y with
  | nil => exact ⟨y, hy, rfl, fun _ h => absurd h (by simp), fun _ _ => rfl⟩
  | cons i l ih =>
    have hdisplaced := (passes_displace i v.key.pos v.uid d).2.trans hy
    obtain ⟨x, hx, hstate, hat, hother⟩ := enqueue_record (i := i) (ref := v.ref) (c := v.cls) (seps := v.seps)
      hdisplaced
    obtain ⟨z, hz, hzs, hin, hout⟩ := ih (d := releaseAtSite v d i) hx
    refine ⟨z, hz, hzs.trans hstate, fun j hj => ?_, fun j hj => ?_⟩
    · by_cases hl : j ∈ l
      · exact hin j hl
      · have hji : j = i := (List.mem_cons.1 hj).resolve_right hl
        subst hji
        rw [hout j hl]
        exact hat
    · rw [List.mem_cons, not_or] at hj
      rw [hout j hj.2, hother j hj.1]

theorem foldl_releaseAtSite_superseded {w : Nat} (v : PageVersion) (l : List SiteId) {d : Device}
    (hd : d.SupersededAt w) : (l.foldl (releaseAtSite v) d).SupersededAt w :=
  superseded_foldl (fun i _ hx => superseded_enqueue i _ _ _ (superseded_displace i _ _ hx)) l hd

/-! ## The lower versions -/

theorem foldl_supersedeOne_superseded {w n : Nat} {l : List PageVersion} (h : ∃ x ∈ l, x.uid = w) {d : Device}
    {y : PageVersion} (hy : d.record w = some y) :
    (l.foldl (fun d x => supersedeOne n x d) d).SupersededAt w := by
  induction l generalizing d with
  | nil => obtain ⟨x, hx, -⟩ := h; cases hx
  | cons a l ih =>
    rw [List.foldl_cons]
    by_cases ha : a.uid = w
    · refine superseded_foldl (fun x e he => superseded_supersedeOne n x he) l ?_
      subst ha
      exact supersedeOne_superseded n hy
    · have hl : ∃ x ∈ l, x.uid = w := by
        obtain ⟨x, hx, hw⟩ := h
        rcases List.mem_cons.1 hx with rfl | hx
        · exact absurd hw ha
        · exact ⟨x, hx, hw⟩
      exact ih hl ((passes_supersedeOne ha n d).2.trans hy)

theorem mem_sortByVersion {l : List PageVersion} {x : PageVersion} : x ∈ sortByVersion l ↔ x ∈ l := by
  rw [sortByVersion_eq]
  exact mem_sortBy _

end Sys2Proof.Machine
end

section
/-!
SUPPORT. The release of a version as a whole (R15, R62), and the obligation on releases.
-/

namespace Sys2Proof.Machine
open Sys2Proof.Laws

/-- The version taken to RELEASED, first thing in its release (R62). -/
def releasedFirst (v : PageVersion) (d : Device) : Device :=
  d.onRecord v.uid fun x => { x with state := .released }

/-- The part once the lower versions of the released one's key are superseded. -/
def loweredFor (v : PageVersion) (d : Device) : Device := supersede v.key v.version (releasedFirst v d)

theorem release_eq {v : PageVersion} {d : Device} {targets : List SiteId}
    (ht : targets = allSites.filter ((loweredFor v d).targets v.key)) : release v d =
      deliveredCheck v.uid ((targets.foldl (releaseAtSite v) (loweredFor v d)).event (.pageReleased v.key v.version
        v.cls (siteFlags targets) d.time)) := by
  have hbase : (targets.foldl (releaseAtSite v) (loweredFor v d)).base = d.base :=
    (pacing_trans (pacing_trans (pacing_onRecord d v.uid _) (pacing_supersede v.key v.version _))
      (pacing_enqueues v targets _)).1.base
  have htime : (targets.foldl (releaseAtSite v) (loweredFor v d)).time = d.time := by
    unfold Device.time
    rw [hbase]
  have hrun : release v d = deliveredCheck v.uid ((targets.foldl (releaseAtSite v) (loweredFor v d)).event
      (.pageReleased v.key v.version v.cls (siteFlags targets)
        (targets.foldl (releaseAtSite v) (loweredFor v d)).time)) := by
    subst ht
    unfold release loweredFor releasedFirst
    rfl
  rw [hrun, htime]

/-! ## The records through a release -/

section
variable {v : PageVersion} {d : Device}

theorem supersede_eq (key : PageKey) (n : Nat) (d : Device) : supersede key n d =
    (sortByVersion (d.table.filter fun x => decide (x.key = key) && decide (x.version < n) && x.live)).foldl
      (fun d x => supersedeOne n x d) d := by
  unfold supersede
  rfl

theorem released_table (v : PageVersion) (d : Device) : (releasedFirst v d).table = d.table.map fun x =>
    if x.uid = v.uid then { x with state := .released } else x := onRecord_table d v.uid _

/-- No version superseded by a release is the one released. -/
theorem lower_uid_ne (hv : v ∈ d.table) (hu : (d.table.map PageVersion.uid).Nodup) {x : PageVersion}
    (hx : x ∈ (releasedFirst v d).table) (hlt : x.version < v.version) : x.uid ≠ v.uid := by
  rw [released_table, List.mem_map] at hx
  obtain ⟨y, hy, rfl⟩ := hx
  intro h
  have huid : y.uid = v.uid := by
    by_cases hyv : y.uid = v.uid
    · exact hyv
    · rw [if_neg hyv] at h
      exact h
  have hsame : some y = some v := by rw [← record_of_mem hu hy, huid, record_of_mem hu hv]
  have hyv : y = v := Option.some.inj hsame
  subst hyv
  rw [if_pos rfl] at hlt
  exact Nat.lt_irrefl _ hlt

theorem passes_loweredFor (hv : v ∈ d.table) (hu : (d.table.map PageVersion.uid).Nodup) :
    (releasedFirst v d).Passes v.uid (loweredFor v d) := by
  unfold loweredFor
  rw [supersede_eq]
  refine passes_foldl (fun x hx e => passes_supersedeOne ?_ v.version e) _
  obtain ⟨hx, hlow⟩ := List.mem_filter.1 (mem_sortByVersion.1 hx)
  simp only [Bool.and_eq_true, decide_eq_true_eq] at hlow
  exact lower_uid_ne hv hu hx hlow.1.2

theorem loweredFor_record (hv : v ∈ d.table) (hu : (d.table.map PageVersion.uid).Nodup) :
    (loweredFor v d).record v.uid = some { v with state := .released } :=
  (passes_loweredFor hv hu).2.trans (record_onRecord_same (fun _ => rfl) (record_of_mem hu hv))

theorem loweredFor_superseded (hv : v ∈ d.table) (hu : (d.table.map PageVersion.uid).Nodup) {x : PageVersion}
    (hx : x ∈ d.table) (hk : x.key = v.key) (hlt : x.version < v.version) (hlive : x.live = true) :
    (loweredFor v d).SupersededAt x.uid := by
  have hne : x.uid ≠ v.uid := fun h => by
    have hsame : some x = some v := by rw [← record_of_mem hu hx, h, record_of_mem hu hv]
    rw [Option.some.inj hsame] at hlt
    exact Nat.lt_irrefl _ hlt
  have hmem : x ∈ (releasedFirst v d).table := by
    rw [released_table, List.mem_map]
    exact ⟨x, hx, if_neg hne⟩
  have hlow : x ∈ sortByVersion ((releasedFirst v d).table.filter fun y =>
      decide (y.key = v.key) && decide (y.version < v.version) && y.live) :=
    mem_sortByVersion.2 (List.mem_filter.2 ⟨hmem, by simp [hk, hlt, hlive]⟩)
  have hrec : (releasedFirst v d).record x.uid = some x :=
    (passes_onRecord (Ne.symm hne) (f := fun y => { y with state := .released }) (fun _ => rfl) d).2.trans
      (record_of_mem hu hx)
  unfold loweredFor
  rw [supersede_eq]
  exact foldl_supersedeOne_superseded ⟨x, hlow, rfl⟩ hrec

end

theorem retain_record {u : Nat} {d : Device} {w : Nat} {y : PageVersion} (hy : d.record w = some y) :
    ∃ z, (retain u d).record w = some z ∧ z.state = y.state := by
  by_cases h : u ∈ d.retained
  · rw [retain_old h]
    exact ⟨y, hy, rfl⟩
  · have hrec := record_onRecord (d := d) (u := u) (f := fun v => { v with retained := some d.retainedCount })
      (fun _ => rfl) w
    rw [hy, Option.map_some] at hrec
    rw [retain_new h]
    refine ⟨_, hrec, ?_⟩
    split <;> rfl

/-- The delivered check of a RELEASED version, by its delivery records (R18). -/
theorem deliveredCheck_released {d : Device} {u : Nat} {y : PageVersion} (hy : d.record u = some y)
    (hs : y.state = .released) : ∃ z, (deliveredCheck u d).record u = some z ∧ (∀ i, z.at i = y.at i) ∧
      ((∀ i, (y.at i).state ≠ .queued ∧ (y.at i).state ≠ .sending) → z.state = .delivered) ∧
      ((∃ i, (y.at i).state = .queued ∨ (y.at i).state = .sending) → z.state = .released) := by
  obtain ⟨z, hz, hun⟩ := deliveredCheck_record (u := u) hy
  have hrecords := congrArg PageVersion.records hun
  have hat : ∀ i, z.at i = y.at i := fun i => congrArg (fun t => entryOf t i) hrecords
  refine ⟨z, hz, hat, fun h => ?_, fun h => ?_⟩
  · rw [deliveredCheck_done hy hs h] at hz
    obtain ⟨x, hx, hstate⟩ := retain_record (u := u)
      (record_onRecord_same (f := fun x => { x with state := .delivered }) (fun _ => rfl) hy)
    have hz' : (retain u (d.onRecord u fun x => { x with state := .delivered })).record u = some z := hz
    rw [hx] at hz'
    exact Option.some.inj hz' ▸ hstate
  · rw [deliveredCheck_same hy (.inr h), hy] at hz
    exact Option.some.inj hz ▸ hs

theorem deliveredCheck_orderCounter (u : Nat) (d : Device) : (deliveredCheck u d).orderCounter = d.orderCounter := by
  unfold deliveredCheck
  split
  · split
    · unfold retain
      split <;> rfl
    · rfl
  · rfl

theorem release_orderCounter {d : Device} {v : PageVersion} {targets : List SiteId} (hv : v ∈ d.table)
    (hu : (d.table.map PageVersion.uid).Nodup)
    (ht : targets = allSites.filter ((loweredFor v d).targets v.key)) :
    (release v d).orderCounter = d.orderCounter + BitVec.ofNat 32 targets.length := by
  rw [release_eq ht, deliveredCheck_orderCounter]
  refine (foldl_releaseAtSite_orderCounter v targets _).trans ?_
  rw [(passes_loweredFor hv hu).1]
  rfl

theorem release_record {d : Device} {v : PageVersion} {targets : List SiteId} (hv : v ∈ d.table)
    (hu : (d.table.map PageVersion.uid).Nodup)
    (hnone : v.records = Vector.replicate 8 { state := .none, late := false, cause := none })
    (ht : targets = allSites.filter ((loweredFor v d).targets v.key)) :
    ∃ y : PageVersion, (release v d).record v.uid = some y ∧
      y.state = (if targets = [] then .delivered else .released) ∧
      (∀ i : SiteId, i ∈ targets → (y.at i).state = .queued ∨ (y.at i).state = .sending) ∧
      ∀ i : SiteId, i ∉ targets → (y.at i).state = .none := by
  have hfresh : ∀ i : SiteId, (v.at i).state = .none := fun i => by
    rw [PageVersion.at, hnone, entryOf, Vector.getElem_replicate]
  obtain ⟨z, hz, hstate, hin, hout⟩ := foldl_releaseAtSite_record targets (loweredFor_record hv hu)
  have hnot : ∀ i : SiteId, i ∉ targets → (z.at i).state = .none := fun i hi => by
    rw [hout i hi]
    exact hfresh i
  rw [release_eq ht]
  obtain ⟨y, hy, hat, hdone, hopen⟩ := deliveredCheck_released (d := (targets.foldl (releaseAtSite v)
    (loweredFor v d)).event (.pageReleased v.key v.version v.cls (siteFlags targets) d.time)) hz hstate
  refine ⟨y, hy, ?_, fun i hi => by rw [hat]; exact hin i hi, fun i hi => by rw [hat]; exact hnot i hi⟩
  by_cases hempty : targets = []
  · rw [if_pos hempty]
    refine hdone fun i => ?_
    rw [hnot i (by rw [hempty]; exact List.not_mem_nil)]
    exact ⟨by simp, by simp⟩
  · rw [if_neg hempty]
    obtain ⟨i, hi⟩ := List.exists_mem_of_ne_nil targets hempty
    exact hopen ⟨i, hin i hi⟩

theorem release_superseded {d : Device} {v : PageVersion} (hv : v ∈ d.table)
    (hu : (d.table.map PageVersion.uid).Nodup) {x : PageVersion} (hx : x ∈ d.table) (hk : x.key = v.key)
    (hlt : x.version < v.version) (hlive : x.live = true) : (release v d).SupersededAt x.uid := by
  rw [release_eq rfl]
  refine superseded_deliveredCheck _ (superseded_of_passes (passes_event _ _ _) ?_)
  exact foldl_releaseAtSite_superseded v _ (loweredFor_superseded hv hu hx hk hlt hlive)

/-- Settles O35. -/
theorem releaseSupersedesAndEnqueuesAtTargets : Obligations.ReleaseSupersedesAndEnqueuesAtTargets := by
  unfold Obligations.ReleaseSupersedesAndEnqueuesAtTargets
  refine ⟨fun d v e he => releasable_iff he, before_iff, fun d test l hu hl hmem => ?_,
    fun d key i e he => targets_iff he, fun d key n low hu hl hmem => ?_, fun d u => ⟨retain_old, fun h => ?_⟩,
    fun d i pos u others ho => ⟨fun c hc hp hn hq => ?_, fun hc => ?_⟩,
    fun d i ref cls seps pre post hq hcls => ?_, fun d e v targets flags he ht hf => ?_,
    fun d v targets hv hu hs hnone ht => ⟨?_, ?_, fun x hx hk hlt hlive => ?_⟩⟩
  · have hstep : (fun (e : Device) (v : PageVersion) => (e.record v.uid).elim e fun x =>
        if x.state = .approved then release x e else e) = fun e v => releaseIfApproved v e := by
      funext e v
      unfold releaseIfApproved
      cases e.record v.uid <;> rfl
    rw [hstep, evaluate, evaluate_order hu hl hmem]
  · rw [supersede_eq, supersede_order hu hl hmem]
    rfl
  · rw [retain_new h]
    rfl
  · exact displace_current hc hp hn (ho ▸ hq)
  · rw [ho]
    exact displace_queued hc
  · refine enqueue_at hq (fun x hx => ?_) fun x hx => ?_
    · rcases hcls with ⟨rfl, -⟩ | ⟨rfl, hpre, -⟩ | ⟨rfl, hpre, -⟩
      · cases x.cls <;> decide
      · have hx' := hpre x hx
        revert hx'
        cases x.cls <;> decide
      · exact Nat.le_of_eq (congrArg DeliveryClass.rank (hpre x hx))
    · rcases hcls with ⟨rfl, rfl⟩ | ⟨rfl, -, hpost⟩ | ⟨rfl, -, hpost⟩
      · cases hx
      · rw [hpost x hx]
        decide
      · have hx' := hpost x hx
        revert hx'
        cases x.cls <;> decide
  · have he' : e = loweredFor v d := he
    rw [he'] at ht ⊢
    rw [release_eq ht, siteFlags_of hf]
    rfl
  · exact release_orderCounter hv hu ht
  · exact release_record hv hu hnone ht
  · exact release_superseded hv hu hx hk hlt hlive

end Sys2Proof.Machine
end

section
/-!
SUPPORT. The reports of the five queries, item by item (R26, R27, R35, R83, R99, R105, R114, R136, R158, R175, R178,
R190, R202).
-/

namespace Sys2Proof.Machine
open Sys2Proof.Laws

/-! ## Tables as lists -/

/-- The entries of a table of four, in order. -/
theorem toList_four {α : Type} (t : Vector α 4) : t.toList = allFour.map (entryOf t) := by
  have hall : allFour = List.finRange 4 := by decide
  rw [hall]
  exact List.ext_getElem (by simp) fun k h1 h2 => by simp [entryOf]

theorem flatMap_four {α β : Type} (t : Vector α 4) (f : α → List β) :
    t.toList.flatMap f = allFour.flatMap fun k => f (entryOf t k) := by
  rw [toList_four, List.flatMap_map]

theorem flatMap_eight {α β : Type} (t : Vector α 8) (f : α → List β) :
    t.toList.flatMap f = allSites.flatMap fun k => f (entryOf t k) := by
  rw [toList_eq_map, List.flatMap_map]

/-! ## The hold line (R193) and the flags of a list -/

theorem hold_iff (f : Feed) : f.hold = true ↔ 12 ≤ f.cmds.length ∨ ∀ b : Fin 4, entryOf f.buffers b ≠ .free := by
  have hthreshold : Config.holdThreshold = 12 := rfl
  rw [Feed.hold, hthreshold, Bool.or_eq_true, decide_eq_true_eq, List.all_eq_true]
  refine or_congr_right ⟨fun h b => of_decide_eq_true (h _ (mem_toList_iff.2 ⟨b, rfl⟩)), fun h x hx => ?_⟩
  obtain ⟨b, rfl⟩ := mem_toList_iff.1 hx
  exact decide_eq_true (h b)

/-- The byte whose bits are the flags named by a test. -/
theorem getLsbD_foldl_flags (test : Nat → Bool) (l : List Nat) (hl : ∀ j ∈ l, j < 8) (byte : Byte) (k : Nat) :
    (l.foldl (fun byte j => if test j then byte ||| (1#8 <<< j) else byte) byte).getLsbD k = true ↔
      byte.getLsbD k = true ∨ k ∈ l ∧ test k = true := by
  induction l generalizing byte with
  | nil => simp
  | cons j l ih =>
    have hj := hl j List.mem_cons_self
    have hbit : (1#8 <<< j).getLsbD k = true ↔ k = j := by
      rw [← BitVec.twoPow_eq, BitVec.getLsbD_twoPow, Bool.and_eq_true, decide_eq_true_eq, decide_eq_true_eq]
      exact ⟨fun h => h.2.symm, fun h => ⟨hj, h.symm⟩⟩
    rw [List.foldl_cons, ih fun m hm => hl m (List.mem_cons_of_mem j hm), List.mem_cons, or_and_right, ← or_assoc]
    refine or_congr_left ?_
    split
    case isTrue ht =>
      rw [BitVec.getLsbD_or, Bool.or_eq_true, hbit]
      exact or_congr_right ⟨fun h => ⟨h, h ▸ ht⟩, fun h => h.1⟩
    case isFalse ht =>
      exact ⟨Or.inl, fun h => h.resolve_right fun ⟨hk, hkt⟩ => ht (hk ▸ hkt)⟩

theorem flagBytes_bits (l : List Bool) {b : Nat} (hb : b < 64) :
    ((flagBytes l)[b / 8]?.getD 0).getLsbD (b % 8) = (l[b]?).getD false := by
  have hbyte : b / 8 < 8 := by omega
  have hbit : b % 8 < 8 := Nat.mod_lt b (by omega)
  have hsum : 8 * (b / 8) + b % 8 = b := Nat.div_add_mod b 8
  have hzero : (0 : Byte).getLsbD (b % 8) = false := BitVec.getLsbD_zero
  rw [flagBytes, List.getElem?_map, List.getElem?_range hbyte, Option.map_some, Option.getD_some]
  refine Bool.eq_iff_iff.2 ((getLsbD_foldl_flags (fun j => (l[8 * (b / 8) + j]?).getD false) _
    (fun j hj => List.mem_range.1 hj) 0 (b % 8)).trans ?_)
  rw [hzero, List.mem_range, hsum]
  simp only [Bool.false_eq_true, false_or, hbit, true_and]

/-! ## QUERY PAGE (R26, R27) -/

theorem pageReport_eq (d : Device) (v : PageVersion) : pageReport d v =
    keyBytes v.key v.version ++ [v.cls.code, v.state.code] ++ halfN v.width ++ halfN v.height ++
      [v.seps.setWidth 8, byteN ((v.height + 127) / 128), byteN v.area.val] ++ wordBytes v.digest ++
      withPresentByte (v.releaseAt.map wordN) ++ withPresentByte (v.latest.map wordN) ++
      withPresentByte (v.approval.map fun a => byteN a.station :: (wordBytes a.expected ++
        withPresentByte (a.approvedAt.map wordN) ++ [flagByte a.checked])) ++
      (byteN (allFour.filter fun k => v.seps.getLsbD k.val).length ::
        (allFour.filter fun k => v.seps.getLsbD k.val).flatMap fun k =>
          flagBytes ((entryOf v.bands k).map fun e => e.isSome) ++
            flagBytes ((entryOf v.bands k).map fun e => e.any fun x => x.fault)) ++
      (allSites.flatMap fun i => [(v.at i).state.code, flagByte (v.at i).late, causeCode (v.at i).cause]) ++
      [flagByte (d.reclaimable v)] ++ withPresentByte (v.retained.map wordBytes) := by
  have hrecords := flatMap_eight v.records fun r => [r.state.code, flagByte r.late, causeCode r.cause]
  rw [pageReport, hrecords]
  rfl

theorem versionList_eq {d : Device} {key : PageKey} {l : List PageVersion} (hu : (d.table.map PageVersion.uid).Nodup)
    (hl : l.Pairwise fun v x => v.version < x.version) (hmem : ∀ v : PageVersion, v ∈ l ↔ v ∈ d.table ∧ v.key = key) :
    versionList d key = byteN l.length :: l.flatMap fun v =>
      [byteN v.version, v.state.code, flagByte (d.reclaimable v)] := by
  have hsort : sortByVersion (d.table.filter fun v => decide (v.key = key)) = l := by
    rw [sortByVersion_eq]
    refine sortBy_eq (r := fun a b : PageVersion => a.version < b.version) (fun _ _ _ => Nat.lt_trans)
      (fun _ => Nat.lt_irrefl _) ((nodup_of_uids hu).filter _) hl fun v => ?_
    rw [hmem, List.mem_filter, decide_eq_true_eq]
  rw [versionList, hsort]
  rfl

/-! ## QUERY AREA (R35) -/

/-- The cells of an area's extent. -/
def Area.extent (a : Area) : List Nat := (List.range a.length).map fun k => a.base + k

theorem mem_extent (a : Area) (c : Nat) : c ∈ a.extent ↔ a.base ≤ c ∧ c < a.base + a.length := by
  rw [Area.extent, List.mem_map]
  constructor
  · rintro ⟨k, hk, rfl⟩
    have hk := List.mem_range.1 hk
    omega
  · rintro ⟨h1, h2⟩
    exact ⟨c - a.base, List.mem_range.2 (by omega), by omega⟩

theorem extent_nodup (a : Area) : a.extent.Nodup :=
  nodup_map (fun _ _ h => Nat.add_left_cancel h) List.nodup_range

theorem recordedIn_eq (d : Device) (a : Area) : d.recordedIn a =
    (d.recordedCells.filter fun c => decide (a.base ≤ c ∧ c < a.base + a.length)).length := by
  rw [Device.recordedIn, Device.recordedCells, List.filter_flatMap, List.length_flatMap, List.length_flatMap]
  refine congrArg List.sum (List.map_congr_left fun v _ => ?_)
  rw [List.filter_map, List.length_map]
  refine congrArg List.length (List.filter_congr fun e _ => ?_)
  rw [Function.comp_apply, Bool.decide_and]

theorem heldIn_eq (d : Device) (a : Area) : d.heldIn a =
    (d.heldCells.filter fun c => decide (a.base ≤ c ∧ c < a.base + a.length)).length := by
  unfold Device.heldIn Device.heldCells
  induction d.feed.buffers.toList with
  | nil => rfl
  | cons b l ih =>
    cases b with
    | free => exact ih
    | receiving => exact ih
    | writing w =>
      have hcell : (Buffer.writing w).cell = some w.cell := rfl
      rw [List.filterMap_cons, hcell]
      by_cases hw : a.base ≤ w.cell ∧ w.cell < a.base + a.length
      · rw [List.filter_cons_of_pos (by simp [hw]), List.filter_cons_of_pos (by simp [hw]), List.length_cons,
          List.length_cons, ih]
      · rw [List.filter_cons_of_neg (by simpa using hw), List.filter_cons_of_neg (by simpa using hw), ih]

theorem freeIn_eq {d : Device} {a : Area} (h : a.enabled = true) : d.freeIn a =
    ((List.range a.length).filter fun k =>
      decide (a.base + k ∉ d.recordedCells ∧ a.base + k ∉ d.heldCells)).length := by
  rw [Device.freeIn, if_pos h]
  refine congrArg List.length (List.filter_congr fun k hk => ?_)
  have hk := List.mem_range.1 hk
  have h1 : a.base ≤ a.base + k := Nat.le_add_right _ _
  have h2 : a.base + k < a.base + a.length := by omega
  simp only [mem_recordedCells, mem_heldCells, Device.cellFree, h, h1, h2, decide_true, Bool.true_and,
    Bool.not_eq_true, Bool.decide_and, Bool.decide_eq_false]

/-- The cells of a list without duplicates that lie in an extent are as many as the extent's cells in the list. -/
theorem extent_count {l : List Nat} (hl : l.Nodup) (a : Area) :
    (l.filter fun c => decide (a.base ≤ c ∧ c < a.base + a.length)).length =
      (a.extent.filter fun c => decide (c ∈ l)).length := by
  refine List.Perm.length_eq
    ((List.perm_ext_iff_of_nodup (nodup_filter hl _) (nodup_filter (extent_nodup a) _)).2 fun c => ?_)
  rw [List.mem_filter, List.mem_filter, decide_eq_true_eq, decide_eq_true_eq, mem_extent, and_comm]

/-- Every cell of an extent is free, recorded or held, and of two kinds never (R31). -/
theorem extent_split {d : Device} (hlaw : d.CellLaw) {a : Area} (h : a.enabled = true) :
    d.freeIn a + d.recordedIn a + d.heldIn a = a.length := by
  obtain ⟨hnodup, -, -⟩ := hlaw
  obtain ⟨hrec, hheld, hdisjoint⟩ := List.nodup_append.1 hnodup
  have hfree : d.freeIn a = ((a.extent.filter fun c => !decide (c ∈ d.recordedCells)).filter fun c =>
      !decide (c ∈ d.heldCells)).length := by
    rw [freeIn_eq h, Area.extent, List.filter_map, List.filter_map, List.length_map, List.filter_filter]
    refine congrArg List.length (List.filter_congr fun k _ => ?_)
    simp [and_comm]
  have hheld' : d.heldIn a = ((a.extent.filter fun c => !decide (c ∈ d.recordedCells)).filter fun c =>
      decide (c ∈ d.heldCells)).length := by
    rw [heldIn_eq, extent_count hheld, List.filter_filter]
    refine congrArg List.length (List.filter_congr fun c _ => ?_)
    by_cases hc : c ∈ d.heldCells
    · have hno : c ∉ d.recordedCells := fun hr => hdisjoint c hr c hc rfl
      simp [hc, hno]
    · simp [hc]
  have hlen : a.extent.length = a.length := by rw [Area.extent, List.length_map, List.length_range]
  have hrest := length_filter_split (fun c => decide (c ∈ d.recordedCells)) a.extent
  have hsplit := length_filter_split (fun c => decide (c ∈ d.heldCells))
    (a.extent.filter fun c => !decide (c ∈ d.recordedCells))
  rw [← hlen, hrest, hsplit, hfree, hheld', recordedIn_eq, extent_count hrec]
  omega

/-! ## READ CURVE and QUERY DEVICE (R83, R202) -/

theorem curveReport_eq (w : Tone) : curveReport w =
    (allFour.flatMap fun k => (entryOf w.active.curves k).toList.flatMap halfN) ++
      (allFour.flatMap fun k => (entryOf w.pending.curves k).toList.flatMap halfN) ++
      [byteN w.active.stock.val, byteN w.pending.stock.val] ++
      withPresentByte (w.arm.map fun a => [byteN a.stock.val, flagByte a.gated]) := by
  rw [curveReport, CurveSet.bytes, CurveSet.bytes, flatMap_four, flatMap_four]
  rfl

theorem planBytes_eq (p : Plan) : p.bytes = allSites.map fun i => (entryOf p.entries i).elim 0xFF byteN := by
  rw [Plan.bytes, toList_eq_map, List.map_map]
  refine List.map_congr_left fun i _ => ?_
  rw [Function.comp_apply]
  cases entryOf p.entries i <;> rfl

theorem builderReport_eq (b : Builder) :
    builderReport b = b.inFlight.elim [1] fun p => [0, byteN p.site.val, p.job.kind.code] := by
  unfold builderReport
  cases b.inFlight <;> rfl

theorem deviceReport_eq (d : Device) : deviceReport d =
    wordN d.base.clock.count ++ [flagByte d.base.clock.unset] ++
      (d.base.plans.toList.flatMap fun p => (allSites.map fun i => (entryOf p.entries i).elim 0xFF byteN) ++
        [flagByte p.held]) ++
      wordBytes d.orderCounter ++
      (d.builder.inFlight.elim [1] fun p => [0, byteN p.site.val, p.job.kind.code]) ++
      (allFour.flatMap fun k => flagByte (entryOf d.base.groups k).set ::
        ((entryOf d.base.groups k).aims.density.toList.flatMap halfN ++
          (entryOf d.base.groups k).aims.tvi.toList.flatMap halfN)) ++
      (allFour.flatMap fun p => halfN (d.port p).active ++ withPresentByte ((d.port p).staged.map halfN) ++
        halfN (d.port p).remaining ++ [byteN (d.port p).last.val] ++
        withPresentByte ((d.port p).tx.map fun x => [byteN x.site.val]) ++
        [siteFlags (allSites.filter fun i => decide ((d.site i).cfg.port = p))]) ++
      [flagByte d.base.quiesced] ++ (halfN d.feed.cmds.length ++ halfN d.feed.replies.length ++
      halfN d.feed.events.length ++ [flagByte d.feed.overflow] ++ halfN d.feed.overrun ++
      halfN (d.feed.buffers.toList.filter fun b => decide (b ≠ .free)).length ++
      [flagByte d.feed.hold]) := by
  have hplans : (fun p : Plan => p.bytes ++ [flagByte p.held]) = fun p =>
      (allSites.map fun i => (entryOf p.entries i).elim 0xFF byteN) ++ [flagByte p.held] :=
    funext fun p => by rw [planBytes_eq]
  rw [deviceReport, hplans, builderReport_eq, flatMap_four]
  rfl

/-! ## QUERY SITE -/

theorem cursorBytes_eq (c : Option (Sep × Nat)) :
    cursorBytes c = c.elim [0xFF, 0xFF] fun x => [byteN x.1.val, byteN x.2] := by
  cases c <;> rfl

theorem queueReport_eq (q : SiteQueue) : queueReport q = halfN q.queue.length ++
    counted (fun e : QueueEntry =>
      keyBytes e.ref.key e.ref.version ++ [e.cls.code, e.seps.setWidth 8] ++ wordBytes e.order) (q.queue.take 8) ++
    withPresentByte (q.current.map fun c => keyBytes c.ref.key c.ref.version ++ [c.cls.code, c.seps.setWidth 8] ++
      (c.cursor.elim [0xFF, 0xFF] fun x => [byteN x.1.val, byteN x.2]) ++ wordBytes c.sent ++ [flagByte c.pageEnd]) ++
    counted (fun e : ControlEntry => [e.kind.code]) q.control := by
  have hcurrent : Delivery.bytes = fun c => keyBytes c.ref.key c.ref.version ++ [c.cls.code, c.seps.setWidth 8] ++
      (c.cursor.elim [0xFF, 0xFF] fun x => [byteN x.1.val, byteN x.2]) ++ wordBytes c.sent ++ [flagByte c.pageEnd] :=
    funext fun c => by rw [Delivery.bytes, cursorBytes_eq]
  rw [queueReport, hcurrent]
  rfl

theorem windowReport_eq (s : Settings) (w : Window) : windowReport s w =
    [w.link.code, flagByte w.closing] ++ halfBytes w.nextSeq ++ [byteN w.retry] ++
      withPresentByte (w.ackTimer.count.map halfN) ++ withPresentByte (w.probeTimer.map halfN) ++
      halfBytes s.code ++ [byteN s.ackTimeout, byteN s.retryLimit] ++
      counted (fun r : Rank => halfBytes r.seq ++ [r.block.kind.code, flagByte r.pending] ++
        withPresentByte (r.block.slot.map fun k => [byteN k.val]) ++ halfN r.block.size) w.ranks ++
      withPresentByte (w.prepared.map fun b => [b.kind.code, byteN (b.slot.elim 0 fun k => k.val)]) := rfl

theorem readyBack_eq (st : Site) : st.readyBack =
    decide ((st.cfg.flow = .obey ∨ st.cfg.flow = .gapObey) ∧ st.pace.ready = true ∨
      (st.cfg.flow = .ignore ∨ st.cfg.flow = .gap) ∧ st.pace.gap = none) := by
  unfold Site.readyBack
  cases st.cfg.flow <;> cases st.pace.ready <;> cases st.pace.gap <;> simp [FlowMode.obeys]

theorem pacerReport_eq (st : Site) : pacerReport st =
    byteN st.cfg.port.val :: (wordN st.pace.active ++ withPresentByte (st.pace.staged.map wordN) ++
      wordN st.pace.eCur ++ wordBytes (BitVec.ofInt 32 st.pace.credit) ++
      [byteN st.pace.level, byteN st.pace.refCount] ++
      halfN st.pace.resendCount ++ [byteN st.cfg.highMark, byteN st.cfg.lowMark, st.cfg.flow.code] ++
      halfN st.cfg.gapLength ++ withPresentByte (st.pace.gap.map halfN) ++
      [flagByte (decide ((st.cfg.flow = .obey ∨ st.cfg.flow = .gapObey) ∧ st.pace.ready = true ∨
        (st.cfg.flow = .ignore ∨ st.cfg.flow = .gap) ∧ st.pace.gap = none))]) := by
  rw [pacerReport, readyBack_eq]
  rfl

theorem haltReport_eq (st : Site) : haltReport st =
    [st.cfg.haltMask.setWidth 8, st.win.link.code] ++ (st.halt.elim [] fun h => byteN h.details.condition.bit ::
      (h.details.bytes ++ withPresentByte (h.clock.map wordN) ++ [h.resume.code])) := rfl

theorem preparing_eq (d : Device) (i : SiteId) :
    d.preparing i = d.builder.inFlight.any fun p => decide (p.site = i) := by
  unfold Device.preparing
  cases d.builder.inFlight <;> rfl

theorem toneReport_eq (d : Device) (i : SiteId) : toneReport d i =
    withPresentByte ((d.site i).win.prepared.map fun b => [b.kind.code]) ++
      [flagByte (d.builder.inFlight.any fun p => decide (p.site = i))] ++ halfN (d.site i).tone.clampCount ++
      (d.site i).cfg.gains.toList.flatMap halfN ++ halfN (d.site i).cfg.minDot ++ halfN (d.site i).cfg.maxDot ++
      [flagByte (d.site i).cfg.solidHold] := by
  rw [toneReport, preparing_eq]

theorem targetReport_eq (st : Site) (k : Stock) : targetReport st k =
    withPresentByte ((st.target k).aims.map fun x =>
        x.density.toList.flatMap halfN ++ x.tvi.toList.flatMap halfN) ++
      [(st.target k).latestGen, (st.target k).ackedGen, flagByte (st.target k).owed] ++
      (entryOf st.tgt.offsets k).density.toList.flatMap signedHalf ++
      (entryOf st.tgt.offsets k).tvi.toList.flatMap signedHalf ++
      halfN (entryOf st.tgt.offsets k).low ++ halfN (entryOf st.tgt.offsets k).high := rfl

theorem siteReport_eq (d : Device) (i : SiteId) : siteReport d i =
    queueReport (d.site i).q ++ windowReport (d.site i).cfg (d.site i).win ++ pacerReport (d.site i) ++
      haltReport (d.site i) ++ toneReport d i ++ allFour.flatMap (targetReport (d.site i)) ++
      gateReport (d.site i) := rfl

end Sys2Proof.Machine
end

section
/-!
SUPPORT. The five queries as commands: each answers with its report, and changes nothing but the reply queue.
-/

namespace Sys2Proof.Machine
open Sys2Proof.Laws

theorem areaReport_eq {d : Device} {n : Fin 8} {a : Area} (ha : a = entryOf d.base.areas n) :
    ∃ free recorded held versions : Nat,
      areaReport d n = flagByte a.enabled :: (halfN a.base ++ halfN a.length ++ [a.mtch ++ a.mask] ++
        halfN free ++ halfN recorded ++ halfN held ++ halfN versions) ∧
      (a.enabled = false → free = 0 ∧ recorded = 0 ∧ held = 0 ∧ versions = 0) ∧
      (a.enabled = true → free = ((List.range a.length).filter fun k =>
          decide (a.base + k ∉ d.recordedCells ∧ a.base + k ∉ d.heldCells)).length ∧
        recorded = (d.recordedCells.filter fun c => decide (a.base ≤ c ∧ c < a.base + a.length)).length ∧
        held = (d.heldCells.filter fun c => decide (a.base ≤ c ∧ c < a.base + a.length)).length ∧
        versions = (d.table.filter fun v => decide (v.area = n)).length ∧
        (d.CellLaw → free + recorded + held = a.length)) := by
  subst ha
  refine ⟨_, _, _, _, rfl, fun h => ?_, fun h => ?_⟩
  · simp only [h, Bool.false_eq_true, if_false, and_self]
  · simp only [h, if_true]
    exact ⟨freeIn_eq h, recordedIn_eq d _, heldIn_eq d _, rfl, fun hlaw => extent_split hlaw h⟩

section
variable {d : Device} {key : KeyField}

theorem applyQueryPage_list (hk : keyInRange key = true) (hv : versionOf key = 0) :
    applyQueryPage key d = (d, { result := .ok, data := versionList d (keyOf key) }) := by
  simp only [applyQueryPage, hk, hv, Bool.true_eq_false, if_false, if_true, okay]

theorem applyQueryPage_page {v : PageVersion} (hk : keyInRange key = true) (hv : versionOf key ≠ 0)
    (hl : d.lookup (keyOf key) (versionOf key) = some v) :
    applyQueryPage key d = (d, { result := .ok, data := pageReport d v }) := by
  simp only [applyQueryPage, hk, hv, hl, Bool.true_eq_false, if_false, okay]

theorem applyQueryPage_none (hk : keyInRange key = true) (hv : versionOf key ≠ 0)
    (hl : d.lookup (keyOf key) (versionOf key) = none) : applyQueryPage key d = (d, { result := .noPage }) := by
  simp only [applyQueryPage, hk, hv, hl, Bool.true_eq_false, if_false, refuse]

theorem applyQueryPage_range (hk : keyInRange key = false) : applyQueryPage key d = (d, { result := .range }) := by
  simp only [applyQueryPage, hk, if_true, refuse]

end

/-- Settles O30. -/
theorem queriesReportAndChangeNothing : Obligations.QueriesReportAndChangeNothing := by
  unfold Obligations.QueriesReportAndChangeNothing
  refine ⟨hold_iff, fun l => ⟨?_, fun b hb => flagBytes_bits l hb⟩, pageReport_eq, fun d key l => versionList_eq,
    fun d n a => areaReport_eq, curveReport_eq, fun d => ?_, fun d i st hst => ?_, fun s tag b key i v hr =>
    ⟨onCommand_answer hr rfl, fun hb => ?_, fun hb => ?_, fun hk hv => ?_, fun hk hv hl => ?_, fun hk hv hl => ?_,
      fun hk => ?_⟩⟩
  · rw [flagBytes, List.length_map, List.length_range]
  · rw [deviceReport_eq]
    simp only [List.append_assoc]
  · subst hst
    have htargets : targetReport (d.site i) = _ := funext (targetReport_eq (d.site i))
    rw [siteReport_eq, queueReport_eq, windowReport_eq, pacerReport_eq, haltReport_eq, toneReport_eq, htargets]
    rfl
  · have hi : eightOf b = some i := eightOf_of hb
    refine ⟨onCommand_answer hr ?_, onCommand_answer hr ?_, onCommand_answer hr ?_⟩
    · simp only [applyCommand, applyQuerySite, hi, okay]
    · simp only [applyCommand, applyQueryArea, hi, okay]
    · simp only [applyCommand, applyReadCurve, hi, okay]
  · have hi := eightOf_none hb
    refine ⟨onCommand_answer hr ?_, onCommand_answer hr ?_, onCommand_answer hr ?_⟩
    · simp only [applyCommand, applyQuerySite, hi, refuse]
    · simp only [applyCommand, applyQueryArea, hi, refuse]
    · simp only [applyCommand, applyReadCurve, hi, refuse]
  · exact onCommand_answer hr (applyQueryPage_list hk hv)
  · exact onCommand_answer hr (applyQueryPage_page hk hv hl)
  · exact onCommand_answer hr (applyQueryPage_none hk hv hl)
  · exact onCommand_answer hr (applyQueryPage_range hk)

end Sys2Proof.Machine
end
